-- ==== Sys2Proof/Word.lean ====
section
/-! DEFINITION. The words of the IDL-4808: bytes of the links, plant times and quantum indices, hardware addresses.
Only names of bit-vector types stand here; every operation on them is in Sys2Proof/Machine/Operands.lean. -/

namespace Sys2Proof

/-- One byte of a link record (R174). -/
abbrev Byte := BitVec 8

/-- Plant time, a count of tu modulo 2^32 (R1). -/
abbrev Time := BitVec 32

/-- A quantum index of a lane, counted modulo 2^32 (R5). -/
abbrev Quantum := BitVec 32

/-- The plan sequence, a span index modulo 65,536 (R5). -/
abbrev PlanSeq := BitVec 16

/-- A station's 48-bit hardware address (R35). -/
abbrev HwAddr := BitVec 48

/-- A lane number, 0..7. Receiver port n serves lane n (R21). -/
abbrev LaneId := Fin 8

/-- A lane set: bit n is set when lane n is in the set (R174). -/
abbrev LaneSet := BitVec 8

end Sys2Proof
end

