-- ==== Sys2Proof/Config.lean ====
section
/-! DEFINITION. The capacities and fixed numbers of the part, each as the rule named beside it gives it. One free
value stands at the end: the one result the manual does not state (log entry 3). -/

namespace Sys2Proof.Config

/-- Station entries, tags 1..4095 (R35). -/
def stations : Nat := 4095
/-- Stream entries, indices 0..8191 (R75). -/
def streams : Nat := 8192
/-- Entries a scrub reads: 4,095 + 8,192 (R158). -/
def scrubEntries : Nat := 12287
/-- Replies the reply queue holds (R167). -/
def replies : Nat := 8
/-- Reports the report queue holds (R168). -/
def reports : Nat := 64
/-- Ceiling of the count of reports lost (R168). -/
def reportsLost : Nat := 65535
/-- Notices a lane's notice queue holds (R12). -/
def notices : Nat := 96
/-- Entries of a lane's plan history (R8). -/
def history : Nat := 4
/-- Joins accepted from one open window (R40). -/
def joins : Nat := 8
/-- Plans of one lane in the output queue (R137). -/
def queuedPlans : Nat := 2
/-- Turns of a plan (R114). -/
def turns : Nat := 240
/-- Claim slots of a plan (R128). -/
def claimSlots : Nat := 1024
/-- Queue notices a plan carries (R129). -/
def planNotices : Nat := 24
/-- PENDING notices a plan carries (R96). -/
def pendings : Nat := 48
/-- Entries returned by one STATION_READ or STREAM_READ (R55, R97). -/
def readEntries : Nat := 16
/-- Ceiling of every lane counter (R19). -/
def counterMax : Nat := 4294967295
/-- Ceiling of the consecutive-drop count (R17). -/
def dropMax : Nat := 15
/-- Ceiling of a stream's slip count (R95). -/
def slipMax : Nat := 65535
/-- Ceiling of a stream's demand (R84). -/
def demandMax : Nat := 16777215
/-- Ceiling of a stream's credit (R93). -/
def creditMax : Int := 1048575
/-- Ceiling of a station's timing offset and of a lane's default offset (R35, R3). -/
def offsetMax : Int := 1048575
/-- tu in one millisecond (R56). -/
def tuPerMs : Nat := 16000
/-- tu in one unit of an ATTENTION_ARM holdoff, 100 µs (R170). -/
def tuPerHoldoff : Nat := 1600

/-- FREE VALUE (log entry 3): the next nominal quantum N of a cadenced stream where R79 states none. R79 takes the least d in
0..c−1 for which u + d modulo 2^32 leaves remainder φ; where the c sums pass 2^32 and c does not divide 2^32 there may be no
such d. Nothing constrains the value. -/
opaque unstatedNominal (u : Quantum) (c phase : Nat) : Quantum

end Sys2Proof.Config
end

