-- ==== Sys2Proof/Syntax.lean ====
section
/-! DEFINITION. The commands of the part: one constructor of `Instr` for each row of spec/opcode_table.json, with the operands
that the rule of the row names. A request is taken at a frame end (R163), so every request carries what the frame brought
beside the request's own fields; a reception record carries the common fields of R22 and the port it came by; an event that
happens to one lane, span, plan or station names it. Wire fields have the widths of Record Layouts (R175, R177). -/

namespace Sys2Proof

/-- What a frame brings beside the fields of its request: the reference byte of the header and the number of bytes clocked
beyond the end of the request record, which the part ignores as request bytes but which count for delivery (R162, R163). -/
structure Req where
  reference : Byte
  extra : Nat
  deriving DecidableEq, Repr

/-- The body of LANE_SETUP, 36 bytes (R3, R175). -/
structure LaneSetupBody where
  lane : Byte
  Lq : BitVec 16
  S : BitVec 16
  bpq : Byte
  P : Byte
  b : Byte
  Ld : BitVec 32
  Ba : BitVec 16
  Wm : BitVec 32
  Df : BitVec 32
  Ao : Byte
  Wo : BitVec 16
  Ua : Byte
  Umax : Byte
  Od : BitVec 32
  Pmin : Byte
  Pmax : Byte
  Rc : BitVec 16
  Dl : Byte
  deriving DecidableEq, Repr

/-- The body of CLAIM_SETUP, 12 bytes (R99, R175). -/
structure ClaimSetupBody where
  lane : Byte
  cMin : BitVec 16
  cMax : BitVec 16
  cOpen : BitVec 16
  gain : Byte
  boost : Byte
  Gs : Byte
  K : Byte
  bs : Byte
  deriving DecidableEq, Repr

/-- The body of PART_SETUP, 8 bytes; the maintenance interval is in ms (R56, R166, R175). -/
structure PartSetupBody where
  tolT : Byte
  tolP : Byte
  aMax : Byte
  qMin : Byte
  miMs : BitVec 16
  creditUnit : BitVec 16
  deriving DecidableEq, Repr

/-- The body of STATION_ADMIT, 4 bytes; a flag reads yes when it is not 0 (R46, R174, R175). -/
structure AdmitBody where
  tag : BitVec 16
  laneSet : LaneSet
  clearStreams : Byte
  deriving DecidableEq, Repr

/-- The fields STREAM_ADD and STREAM_CHANGE share, 14 bytes from kind onward (R78, R80, R175). -/
structure StreamFields where
  kind : Byte
  cls : Byte
  weight : Byte
  maxTurn : Byte
  fragmentable : Byte
  laneSet : LaneSet
  lane : Byte
  c : BitVec 16
  z : Byte
  phase : BitVec 16
  jitter : BitVec 16
  deriving DecidableEq, Repr

/-- The common fields of a reception record, the port it arrived on and the whole length of its frame (R21, R22, R177). -/
structure RecordHead where
  port : LaneId
  planSeq : PlanSeq
  time : Time
  frameLen : Nat
  deriving DecidableEq, Repr

/-- The three table memories of the memory test (R160). -/
inductive TestTable where
  | station | stream | support
  deriving DecidableEq, Repr

/-- Which read of the memory test: the read back of pass 1, or the read of one walking bit of pass 2 (R160). -/
inductive TestPass where
  | pattern
  | walk (bit : Fin 32)
  deriving DecidableEq, Repr

/-- A mismatch of the memory test: where the read was, and the value found there (R160, R161). The value expected follows
from the place. -/
structure Mismatch where
  table : TestTable
  pass : TestPass
  entry : BitVec 16
  word : Byte
  found : BitVec 32
  deriving DecidableEq, Repr

/-- The commands: one constructor for each row of spec/opcode_table.json, in its order. -/
inductive Instr where
  /-- R1: one count of the reference clock input. -/
  | plantTimeCount
  /-- R172: the reset pin becomes asserted. -/
  | resetAssert
  /-- R172: the reset pin is released. -/
  | resetRelease
  /-- R172: the table clearing of STARTING completes. -/
  | startingClearingCompletes
  /-- R162: the chip-select is asserted. -/
  | frameStart
  /-- R164: a frame end whose request kind is NONE; `extra` bytes came beyond the 4 header bytes. -/
  | noneFrame (extra : Nat)
  /-- R164: a frame end that brought fewer than 4 request bytes. -/
  | headerIncomplete (bytes : Fin 4)
  /-- R164: a frame end with a malformed request: its header and the bytes the whole frame brought. -/
  | malformedRequest (kind reference : Byte) (bodyLen : BitVec 16) (frameBytes : Nat)
  | laneSetup (req : Req) (body : LaneSetupBody)
  | laneStart (req : Req) (lane : Byte)
  | laneStop (req : Req) (lane : Byte)
  | laneRead (req : Req) (lane : Byte)
  | claimSetup (req : Req) (body : ClaimSetupBody)
  | partSetup (req : Req) (body : PartSetupBody)
  | stationAdmit (req : Req) (body : AdmitBody)
  | stationHold (req : Req) (tag : BitVec 16)
  | stationResume (req : Req) (tag : BitVec 16)
  | stationRelease (req : Req) (tag : BitVec 16)
  | stationRead (req : Req) (first : BitVec 16) (count : Byte)
  | streamAdd (req : Req) (tag : BitVec 16) (slot : Byte) (fields : StreamFields)
  | streamChange (req : Req) (index : BitVec 16) (fields : StreamFields)
  | streamRemove (req : Req) (index : BitVec 16)
  | streamRead (req : Req) (first : BitVec 16) (count : Byte)
  | scrub (req : Req)
  | memoryTest (req : Req)
  | attentionArm (req : Req) (h : BitVec 16)
  | fetch (req : Req)
  | restart (req : Req)
  /-- R21: a receiver frame of fewer than 8 bytes. -/
  | receptionFrameShort (port : LaneId) (frameLen : Nat)
  /-- R28: a record whose kind byte is none of the five. -/
  | receptionUnknownKind (head : RecordHead) (kind : Byte)
  | bid (head : RecordHead) (tagWord : BitVec 16) (slot seq : Byte) (amount : BitVec 32) (source : Byte)
  | tally (head : RecordHead) (offered clean collided empty : BitVec 16)
  /-- R25, R63: a RESULT whose target form byte is not 2; form 1 is the tagged form, any other is malformed (R28). -/
  | resultTagged (head : RecordHead) (form : Byte) (tagWord : BitVec 16) (et : BitVec 16) (ep quality : Byte)
  | resultAddressForm (head : RecordHead) (addr : HwAddr) (et : BitVec 16) (ep quality : Byte)
  | noShow (head : RecordHead) (tagWord : BitVec 16)
  | mark (head : RecordHead)
  /-- R6: the build point of the lane's next span is reached. -/
  | spanHandover (lane : LaneId)
  /-- R138: the skip time of a waiting span of the lane is reached. -/
  | spanSkip (lane : LaneId) (span : BitVec 32)
  | buildBegin
  | stageA1CadencedWalk
  | stageA2AlignmentTurns
  | stageA3OpenWindow
  | stageBClaimFloor
  | stageCVisit
  | stageDLeftoverClaims
  | pendingSelection
  | buildCompletion
  /-- R143: the expiry time of a queued plan of the lane is reached. -/
  | planExpiry (lane : LaneId) (seq : PlanSeq)
  /-- R144: the framer's ready input changes to this level. -/
  | framerReady (level : Bool)
  | transmitStart
  | transmitEnd
  | coveredUntilExpiry (lane : LaneId)
  /-- R58: plant time reaches the maintenance due time of the tag's station. -/
  | maintenanceDue (tag : BitVec 12)
  | holdoffExpiry
  | scrubStep
  /-- R161: the memory test ends, at its last read or at the mismatch given. -/
  | memoryTestEnd (mismatch : Option Mismatch)
  deriving DecidableEq, Repr

end Sys2Proof
end

