-- ==== Sys2Proof/Machine/State.lean ====
section
/-! DEFINITION. The state of the part, block by block as the block overview of the manual lists them, and the state right
after reset. Plain data throughout: the two large tables are sparse lists in one canonical form (`Table`). -/

namespace Sys2Proof.Machine

/-! ### Enumerated values (the codes are in Records.lean, R174) -/

/-- R171. -/
inductive PartState where
  | starting | config | running | testing
  deriving DecidableEq, Repr

/-- The outcome of a request (R164, R165, R174). -/
inductive ReqOutcome where
  | done | busy | badState | badValue | noRoom | unknownTag | unknownStream | malformed | notEmpty
  deriving DecidableEq, Repr

/-- R13. -/
inductive LaneState where
  | idle | live | draining | faulted
  deriving DecidableEq, Repr

/-- R36. -/
inductive StationState where
  | free | aligning | ready | active | held | lapsed | quarantined | releasing
  deriving DecidableEq, Repr

/-- R76. `corrupt` is a state field that a fault has left with none of the four codes (R153). -/
inductive StreamState where
  | free | inUse | retiring | quarantined
  | corrupt (code : Byte)
  deriving DecidableEq, Repr

/-- R75. -/
inductive StreamKind where
  | bidding | cadenced
  deriving DecidableEq, Repr

/-- R98. -/
inductive ClaimMode where
  | opening | tracking
  deriving DecidableEq, Repr

/-- R67. -/
inductive Verdict where
  | cont | done | abort
  deriving DecidableEq, Repr

/-- The causes of reports (R174). -/
inductive Cause where
  | powerOn | restart | request | alignFailed | notConverged | noShows | misses | margin | skipped | firstTally
  | missing | reportsLost | requestLost
  deriving DecidableEq, Repr

/-- R41. -/
inductive JoinRefusal where
  | quarantined | busy | full
  deriving DecidableEq, Repr

/-- R154, R155. -/
inductive IntegrityTable where
  | station | stream
  deriving DecidableEq, Repr

/-- The reader that found a failed check (R152). -/
inductive Finder where
  | build | record | request | link | scrub | other
  deriving DecidableEq, Repr

/-- The attention gate (R169). -/
inductive Gate where
  | opened | latched | suspended | holdoff
  deriving DecidableEq, Repr

/-- R113. -/
inductive TurnKind where
  | data | cadence | align | opening | claim
  deriving DecidableEq, Repr

/-- The next stage of a build (R113). `visits` is stage C, `leftover` stage D, `notices` the PENDING selection, and
`complete` a draft whose last stage is done (R140). -/
inductive Stage where
  | cadenced | alignment | openWindow | floor | visits | leftover | notices | complete
  deriving DecidableEq, Repr

/-! ### Sparse tables -/

/-- A table of entries by index, as the list of the entries that differ from what an unlisted index reads as. Canonical
form: indices strictly rising, no listed entry equal to the default (`Table.wf` in Table.lean). -/
abbrev Table (α : Type) := List (Nat × α)

/-! ### Lanes -/

/-- The eighteen values of a lane's setup in force, in the order of the LANE_SETUP body (R3, R4). -/
structure LaneSetup where
  Lq : Nat
  S : Nat
  bpq : Nat
  P : Nat
  b : Nat
  Ld : Nat
  Ba : Nat
  Wm : Nat
  Df : Nat
  Ao : Nat
  Wo : Nat
  Ua : Nat
  Umax : Nat
  Od : Nat
  Pmin : Nat
  Pmax : Nat
  Rc : Nat
  Dl : Nat
  deriving DecidableEq, Repr

/-- One alignment turn of a history entry: its tag and resolved mark (R8). -/
structure AlignTurn where
  tag : Nat
  resolved : Bool
  deriving DecidableEq, Repr

/-- An entry of a plan history (R8). `stations` and `streams` are what the plan names (R53), whose references fall when the
entry leaves (R9, R11). -/
structure HistEntry where
  seq : PlanSeq
  startQ : Quantum
  start : Time
  slots : Nat
  tallyArrived : Bool
  turns : List AlignTurn
  openWindow : Bool
  joins : Nat
  stations : List Nat
  streams : List Nat
  deriving DecidableEq, Repr

/-- What a notice of a notice queue says (R12, R42, R67). -/
inductive NoticeBody where
  | join (addr : HwAddr) (tag O Pw : Nat)
  | correction (tag : Nat) (timing power : Int) (verdict : Verdict)
  deriving DecidableEq, Repr

/-- A notice of a notice queue: `mark` is the sequence of the queued plan that carries it (R12). `taken` is the model's own
note that the lane's build in progress has taken it (R129), so that the completion marks exactly the notices taken. -/
structure Notice where
  body : NoticeBody
  mark : Option PlanSeq
  taken : Bool
  deriving DecidableEq, Repr

/-- The lane counters kept by the Lane Controller (R19). -/
structure LaneCounters where
  transmitted : Nat
  dropped : Nat
  slips : Nat
  bidsAccepted : Nat
  bidsDiscarded : Nat
  talliesDiscarded : Nat
  resultsDiscarded : Nat
  deriving DecidableEq, Repr

/-- A Lane Controller. -/
structure Lane where
  setup : Option LaneSetup
  state : LaneState
  start0 : Time
  nextSpan : BitVec 32
  coveredUntil : Option Time
  history : List HistEntry
  notices : List Notice
  drops : Nat
  late : Bool
  counters : LaneCounters
  deriving DecidableEq, Repr

/-- A port of the Reception Unit: its watermark (R31) and its four discard counters (R27). -/
structure RxPort where
  watermark : Time
  notOpen : Nat
  malformed : Nat
  tagCheck : Nat
  stale : Nat
  deriving DecidableEq, Repr

/-- The eight settings of a Claim Controller (R98, R99). -/
structure ClaimSettings where
  cMin : Nat
  cMax : Nat
  cOpen : Nat
  gain : Nat
  boost : Nat
  Gs : Nat
  K : Nat
  bs : Nat
  deriving DecidableEq, Repr

/-- A Claim Controller (R98). -/
structure Claim where
  mode : ClaimMode
  target : Option Nat
  missing : Nat
  settings : ClaimSettings
  deriving DecidableEq, Repr

/-! ### Stations and alignment -/

/-- A station entry (R35). -/
structure StationEntry where
  state : StationState
  addr : Option HwAddr
  laneSet : LaneSet
  home : LaneId
  O : Nat
  Pw : Nat
  attempts : Nat
  misses : Nat
  due : Time
  paused : Bool
  admitted : Bool
  outstanding : Option (LaneId × PlanSeq)
  verdictWaiting : Bool
  refs : Vector (Option Nat) 8
  parity : Bool
  deriving DecidableEq, Repr

/-- The Station Table: entries, free tag list (head oldest), join map in order of joining (R35, R38, R39). `quarantined` is the
model's own note of the tags quarantined and not released since, from which R153 knows that a station was QUARANTINED already
(log entry 29). -/
structure StationTable where
  entries : Table StationEntry
  freeTags : List Nat
  joinMap : List (HwAddr × Nat)
  quarantined : List Nat
  deriving DecidableEq, Repr

/-- The part-wide settings in force; the maintenance interval is held in tu (R56). -/
structure PartSettings where
  tolT : Nat
  tolP : Nat
  aMax : Nat
  qMin : Nat
  miTu : Nat
  creditUnit : Nat
  deriving DecidableEq, Repr

/-- The Alignment Unit: the part-wide settings and the due queue (R58). `dueFresh` is the model's own note of the queue's
members that joined at the present plant time, among which a lower tag stands first. -/
structure AlignmentUnit where
  settings : PartSettings
  dueQueue : List Nat
  dueFresh : List Nat
  deriving DecidableEq, Repr

/-! ### Streams -/

/-- A stream entry (R75). -/
structure StreamEntry where
  state : StreamState
  owner : Option (Nat × Fin 8)
  kind : StreamKind
  cls : Fin 4
  weight : Nat
  maxTurn : Nat
  fragmentable : Bool
  laneSet : LaneSet
  lane : LaneId
  c : Nat
  z : Nat
  phase : Nat
  jitter : Nat
  N : Quantum
  D : Nat
  G : Nat
  credit : Int
  lastBid : Option Nat
  relist : Bool
  slips : Nat
  parity : Bool
  deriving DecidableEq, Repr

/-- A reserved share kept beside a stream entry: the lane it is charged to and its amount (R77, R151). -/
structure Reserved where
  lane : LaneId
  amount : Nat
  deriving DecidableEq, Repr

/-- The Stream Table: entries, reserved shares, a share sum per lane, and four service lists per lane, head first
(R75, R77, R91). `joined` is the model's own note, for each lane, of the streams that have joined a list of the lane since the
latest build begin on it, which that build does not visit (R124). -/
structure StreamTable where
  entries : Table StreamEntry
  reserved : Table Reserved
  shareSums : Vector Nat 8
  service : Vector (Vector (List Nat) 4) 8
  joined : Vector (List Nat) 8
  deriving DecidableEq, Repr

/-- The plan reference table (R53). -/
structure RefTable where
  stations : Table Nat
  streams : Table Nat
  deriving DecidableEq, Repr

/-! ### Plans -/

/-- A turn. `slots` is the slot count of a CLAIM turn, `floor` marks a floor window (R113, R123). -/
structure Turn where
  kind : TurnKind
  tag : Nat
  slot : Nat
  start : Nat
  len : Nat
  slots : Nat
  floor : Bool
  deriving DecidableEq, Repr

/-- A notice of a plan record (R130, R178). -/
inductive PlanNotice where
  | queued (body : NoticeBody)
  | pending (tag slot : Nat)
  deriving DecidableEq, Repr

/-- The plan record (R132). -/
structure PlanRecord where
  lane : LaneId
  seq : PlanSeq
  startQ : Quantum
  start : Time
  S : Nat
  Lq : Nat
  ack : Time
  bs : Nat
  be : Nat
  b : Nat
  turns : List Turn
  notices : List PlanNotice
  deriving DecidableEq, Repr

/-- The DATA turn accounts of a plan: a stream index and its cover (R131). -/
structure DataTurn where
  stream : Nat
  cover : Nat
  deriving DecidableEq, Repr

/-- A plan of the output queue: the record, its accounts (R131) and its expired mark (R143). `pendings` are the streams of
its PENDING notices, whose relist flag a commit clears (R89). -/
structure Plan where
  record : PlanRecord
  data : List DataTurn
  cadence : List Nat
  pendings : List Nat
  stations : List Nat
  streams : List Nat
  openWindow : Bool
  slips : Nat
  lowestSlip : Option Nat
  expired : Bool
  deriving DecidableEq, Repr

/-- A span of the waiting set (R136). -/
structure WaitingSpan where
  lane : LaneId
  index : BitVec 32
  start : Time
  buildPoint : Time
  deriving DecidableEq, Repr

/-- One chosen PENDING notice of a draft (R96). -/
structure PendingChoice where
  stream : Nat
  tag : Nat
  slot : Nat
  deriving DecidableEq, Repr

/-- The draft of the build in progress: what build begin fixed (R115), the turn list and accounts so far (R113, R131), the
entries it names (R117) and those it has read (R116), and the stage that is next. -/
structure Draft where
  lane : LaneId
  index : BitVec 32
  setup : LaneSetup
  startQ : Quantum
  start : Time
  target : Nat
  bs : Nat
  be : Nat
  creditUnit : Nat
  ack : Time
  candidates : List Nat
  notices : List NoticeBody
  visits : List (Fin 4 × Nat)
  stage : Stage
  turns : List Turn
  data : List DataTurn
  cadence : List Nat
  pendings : List PendingChoice
  openWindow : Bool
  slips : Nat
  lowestSlip : Option Nat
  namedStations : List Nat
  namedStreams : List Nat
  readStations : List Nat
  readStreams : List Nat
  deriving DecidableEq, Repr

/-- The Plan Builder: its waiting set and its activity, IDLE when there is no draft (R135). -/
structure PlanBuilder where
  waiting : List WaitingSpan
  draft : Option Draft
  deriving DecidableEq, Repr

/-- The Plan Link: output queue, head oldest, and transmitter, IDLE or SENDING a record (R142, R144). -/
structure PlanLink where
  queue : List Plan
  sending : Option PlanRecord
  deriving DecidableEq, Repr

/-! ### Integrity -/

/-- The next entry a scrub reads (R157). -/
inductive ScrubPos where
  | station (tag : Nat)
  | stream (index : Nat)
  deriving DecidableEq, Repr

/-- A running scrub (R157). -/
structure Scrub where
  pos : ScrubPos
  quarantined : Nat
  rewritten : Nat
  waiting : Nat
  deriving DecidableEq, Repr

/-- What the memory test does with a word: pass 1 fills it with its address pattern and checks it; pass 2 sets one bit alone
and gets the word back, and clears the word after its walk (R160). -/
inductive TestAct where
  | fill | check
  | set (bit : Fin 32)
  | get (bit : Fin 32)
  | clear
  deriving DecidableEq, Repr

/-- One access of the memory test: what is done, and to which word of which entry (R160). -/
structure TestPos where
  table : TestTable
  act : TestAct
  entry : Nat
  word : Nat
  deriving DecidableEq, Repr

/-- A memory test in progress: its next access, none after its last read, and the words the test has left in the table memories,
by the number that is a word's address pattern (R160). -/
structure MemTest where
  next : Option TestPos
  words : Table (BitVec 32)
  deriving DecidableEq, Repr

/-- The Integrity Unit: the scrub, none when IDLE, and the memory test, none when not in progress (R157, R159). -/
structure IntegrityUnit where
  scrub : Option Scrub
  memTest : Option MemTest
  deriving DecidableEq, Repr

/-! ### The control link -/

/-- The history entries LANE_READ returns (R20). -/
structure HistView where
  seq : PlanSeq
  start : Time
  slots : Nat
  tallyArrived : Bool
  turns : Nat
  unresolved : Nat
  openWindow : Bool
  joins : Nat
  deriving DecidableEq, Repr

/-- What LANE_READ returns (R20). -/
structure LaneView where
  lane : LaneId
  state : LaneState
  setup : Option LaneSetup
  start0 : Time
  nextSpan : BitVec 32
  coveredUntil : Option Time
  drops : Nat
  late : Bool
  queued : Nat
  building : Bool
  waiting : Nat
  history : List HistView
  notices : Nat
  marked : Nat
  mode : ClaimMode
  target : Option Nat
  missing : Nat
  counters : LaneCounters
  rx : RxPort
  deriving DecidableEq, Repr

/-- A station entry as STATION_READ returns it (R55). -/
structure StationView where
  tag : Nat
  entry : StationEntry
  refs : Nat
  deriving DecidableEq, Repr

/-- A stream entry as STREAM_READ returns it (R97). -/
structure StreamView where
  index : Nat
  entry : StreamEntry
  reserved : Nat
  lists : LaneSet
  refs : Nat
  deriving DecidableEq, Repr

/-- The body of a reply: the values the request's rule names (R165, R176). -/
inductive ReplyBody where
  | empty
  | laneSetup (setup : LaneSetup)
  | laneStart (t0 start0 : Time)
  | laneRead (view : LaneView)
  | claimSetup (settings : ClaimSettings) (mode : ClaimMode) (target : Option Nat) (missing : Nat)
  | partSetup (settings : PartSettings)
  | admission (laneSet : LaneSet) (home : LaneId) (state : StationState) (admitted : Bool) (removed : Nat)
  | release (state : StationState)
  | stationRead (freeTags joinItems : Nat) (entries : List StationView)
  | streamAdd (index : Nat) (entry : StreamEntry) (shareSum : Option Nat)
  | streamChange (entry : StreamEntry)
  | streamRemove (state : StreamState)
  | streamRead (freeStreams : Nat) (shareSums : Vector Nat 8) (entries : List StreamView)
  | attentionArm (h : BitVec 16)
  deriving DecidableEq, Repr

/-- A reply: the request's kind and reference as in its header, the outcome, the part state and the body (R165). -/
structure Reply where
  kind : Byte
  reference : Byte
  outcome : ReqOutcome
  part : PartState
  body : ReplyBody
  deriving DecidableEq, Repr

/-- The fields of the reports (R168, R176). A `none` mismatch is a TEST_RESULT of PASS. -/
inductive ReportBody where
  | started (cause : Cause)
  | joined (lane : LaneId) (tag : Nat) (addr : HwAddr)
  | rejoined (lane : LaneId) (tag : Nat) (addr : HwAddr) (previous : StationState)
  | joinRefused (lane : LaneId) (addr : HwAddr) (reason : JoinRefusal)
  | aligned (tag : Nat) (lane : LaneId) (state : StationState) (O Pw : Nat)
  | alignFailed (tag : Nat) (lane : LaneId) (cause : Cause)
  | lapsed (tag : Nat) (home : LaneId) (cause : Cause)
  | released (tag : Nat) (cause : Cause)
  | quarantined (table : IntegrityTable) (index : Nat) (finder : Finder)
  | slipped (lane : LaneId) (seq : PlanSeq) (count : Nat) (lowest : Option Nat)
  | late (lane : LaneId) (seq : PlanSeq) (margin : Int)
  | dropped (lane : LaneId) (seq : PlanSeq) (cause : Cause) (margin : Int) (drops : Nat)
  | laneFaulted (lane : LaneId) (drops queuedDropped : Nat)
  | laneStopped (lane : LaneId)
  | claimMode (lane : LaneId) (mode : ClaimMode) (target : Nat) (cause : Cause)
  | scrubDone (read quarantined rewritten waiting : Nat)
  | testResult (mismatch : Option Mismatch)
  | overrunReports (lost : Nat)
  | overrunRequest (kind reference : Byte)
  deriving DecidableEq, Repr

/-- A report: the plant time at which it was raised, and its fields (R168). -/
structure Report where
  time : Time
  body : ReportBody
  deriving DecidableEq, Repr

/-- The outgoing record of a frame: the empty marker, a reply or a report (R162). -/
inductive Outgoing where
  | empty
  | reply (r : Reply)
  | report (r : Report)
  deriving DecidableEq, Repr

/-- The Control Port. `frame` is the outgoing record of the frame in progress, none between frames (R162). -/
structure ControlPort where
  part : PartState
  startCause : Cause
  replies : List Reply
  reports : List Report
  overrun : Bool
  lost : Nat
  gate : Gate
  holdoff : Option Time
  frame : Option Outgoing
  deriving DecidableEq, Repr

/-! ### The state -/

/-- The state of the part. `pending` is the queue of commands waiting, first in first out; `resetPin` and `ready` are the
levels of the reset pin and of the framer's ready input. -/
structure State where
  pending : List Instr
  resetPin : Bool
  ready : Bool
  now : Time
  lanes : Vector Lane 8
  ports : Vector RxPort 8
  claims : Vector Claim 8
  stations : StationTable
  align : AlignmentUnit
  streams : StreamTable
  refs : RefTable
  builder : PlanBuilder
  link : PlanLink
  integrity : IntegrityUnit
  port : ControlPort
  deriving DecidableEq, Repr

/-- No command of the part ends in a fault: the manual gives each command an effect in every state it can meet, so there is
no constructor. -/
inductive Fault where
  deriving DecidableEq, Repr

/-- Refusals. `notModelled` is raised only by an arm of `exec` whose command has no meaning yet; there is none. Safe: the
machine stops. -/
inductive Refusal where
  | notModelled (mnemonic : String)
  deriving DecidableEq, Repr

/-! ### Reset values -/

/-- The setup defaults of a Claim Controller (R98). -/
def ClaimSettings.defaults : ClaimSettings :=
  { cMin := 2, cMax := 128, cOpen := 16, gain := 1, boost := 1, Gs := 4, K := 5, bs := 2 }

/-- The part-wide defaults (R56). -/
def PartSettings.defaults : PartSettings :=
  { tolT := 24, tolP := 4, aMax := 5, qMin := 12, miTu := 160000000, creditUnit := 256 }

/-- Counters at 0 (R19). -/
def LaneCounters.zero : LaneCounters :=
  { transmitted := 0, dropped := 0, slips := 0, bidsAccepted := 0, bidsDiscarded := 0, talliesDiscarded := 0,
    resultsDiscarded := 0 }

/-- A lane after power-on and RESTART: IDLE and un-set (R5 to R8, R12, R13, R17, R19). -/
def Lane.reset : Lane :=
  { setup := none, state := .idle, start0 := 0, nextSpan := 0, coveredUntil := none, history := [], notices := [],
    drops := 0, late := false, counters := LaneCounters.zero }

/-- A receiver port after power-on and RESTART (R27, R31). -/
def RxPort.reset : RxPort := { watermark := 0, notOpen := 0, malformed := 0, tagCheck := 0, stale := 0 }

/-- A Claim Controller after power-on and RESTART (R98). -/
def Claim.reset : Claim :=
  { mode := .opening, target := none, missing := 0, settings := ClaimSettings.defaults }

/-- The Station Table's reset contents: every entry FREE, tags 1 to 4095 free in ascending order, no join (R35, R38, R39). -/
def StationTable.reset : StationTable :=
  { entries := [], freeTags := List.range' 1 Config.stations, joinMap := [], quarantined := [] }

/-- The Stream Table's reset contents (R75, R77, R91). -/
def StreamTable.reset : StreamTable :=
  { entries := [], reserved := [], shareSums := Vector.replicate 8 0,
    service := Vector.replicate 8 (Vector.replicate 4 []), joined := Vector.replicate 8 [] }

/-- The plan reference table's reset contents (R53). -/
def RefTable.reset : RefTable := { stations := [], streams := [] }

/-- The Control Port at the release of the reset pin: STARTING with cause POWER_ON, queues empty, gate OPEN (R172). -/
def ControlPort.reset : ControlPort :=
  { part := .starting, startCause := .powerOn, replies := [], reports := [], overrun := false, lost := 0,
    gate := .opened, holdoff := none, frame := none }

/-- The part right after reset: the release of the reset pin after power-on (R172), with no command waiting. The ready
input's level is the framer's; the model takes it deasserted (log entry 1). -/
def State.reset : State :=
  { pending := [], resetPin := false, ready := false, now := 0,
    lanes := Vector.replicate 8 Lane.reset,
    ports := Vector.replicate 8 RxPort.reset,
    claims := Vector.replicate 8 Claim.reset,
    stations := StationTable.reset,
    align := { settings := PartSettings.defaults, dueQueue := [], dueFresh := [] },
    streams := StreamTable.reset,
    refs := RefTable.reset,
    builder := { waiting := [], draft := none },
    link := { queue := [], sending := none },
    integrity := { scrub := none, memTest := none },
    port := ControlPort.reset }

end Sys2Proof.Machine
end

