-- ==== Sys2Proof/Machine/Operands.lean ====
section
/-! DEFINITION. The arithmetic of operands: serial comparison of times, clamps, rounding, lane sets and wire codes, as the
conventions of the manual and Record Layouts give them. -/

namespace Sys2Proof.Machine

/-- Serial "earlier": A is earlier than B when (B − A) modulo 2^32 lies in 1..2^31−1 (R2). -/
def earlier (a b : Time) : Bool := 1 ≤ (b - a).toNat && (b - a).toNat < 2 ^ 31

/-- The serial maximum of a watermark and a reception time: the time replaces the watermark only when it is later (R31). -/
def serialMax (w t : Time) : Time := if earlier w t then t else w

/-- A margin: the difference modulo 2^32 read as signed (R2). -/
def marginOf (start now : Time) : Int := (start - now).toInt

/-- A 32-bit count of a natural number of tu or quanta. -/
def tu (n : Nat) : Time := BitVec.ofNat 32 n

/-- Clamp into `lo..hi`. -/
def clampN (lo hi x : Nat) : Nat := if x < lo then lo else if hi < x then hi else x

/-- Clamp into `lo..hi`, over integers. -/
def clampI (lo hi x : Int) : Int := if x < lo then lo else if hi < x then hi else x

/-- `n + k`, holding at `cap`. -/
def satAdd (cap n k : Nat) : Nat := min (n + k) cap

/-- The integer ceiling of `a / b`. -/
def ceilDiv (a b : Nat) : Nat := (a + b - 1) / b

/-- The least e with 2^e ≥ n (conventions; R110 uses it for n up to 512). -/
def ceilLog2 (n : Nat) : Nat := ((List.range' 0 64).find? (fun e => n ≤ 2 ^ e)).getD 64

/-- The lanes in order. -/
def allLanes : List LaneId := [0, 1, 2, 3, 4, 5, 6, 7]

/-- The classes in order. -/
def allClasses : List (Fin 4) := [0, 1, 2, 3]

/-- The stream slots in order. -/
def allSlots : List (Fin 8) := [0, 1, 2, 3, 4, 5, 6, 7]

/-- Lane `l` is in the set (R174). -/
def inSet (m : LaneSet) (l : LaneId) : Bool := m.getLsbD l.val

/-- The lanes of a set, in ascending order. -/
def lanesOf (m : LaneSet) : List LaneId := allLanes.filter (inSet m)

/-- The set with the one lane `l`. -/
def laneBit (l : LaneId) : LaneSet := BitVec.ofNat 8 (2 ^ l.val)

/-- `a` lies within `b`. -/
def subsetOf (a b : LaneSet) : Bool := a &&& b == a

/-- A lane byte of a request: none above 7 (R13). -/
def laneOfByte (x : Byte) : Option LaneId := if h : x.toNat < 8 then some ⟨x.toNat, h⟩ else none

/-- A tag of a request: none for 0 and above 4095 (R45). -/
def tagOfWord (x : BitVec 16) : Option Nat := if x.toNat = 0 ∨ Config.stations < x.toNat then none else some x.toNat

/-- A received flag reads yes when it is not 0 (R174). -/
def flagOf (x : Byte) : Bool := x != 0

/-- The tag in bits 0 to 11 of a tag word (R177). -/
def tagOfTagWord (w : BitVec 16) : Nat := (w.extractLsb' 0 12).toNat

/-- Whether the number of ones among the low `k` bits of `n` is odd. -/
def oddOnes : Nat → Nat → Bool
  | 0, _ => false
  | k + 1, n => xor (n % 2 == 1) (oddOnes k (n / 2))

/-- The tag check: the ones among bits 0 to 11 and bit 15 are odd in number (R29, R177). -/
def tagCheckPasses (w : BitVec 16) : Bool := xor (oddOnes 12 (tagOfTagWord w)) (w.getLsbD 15)

/-- A lane set with the lane removed or the intersection taken is plain bit arithmetic; `addLane` adds one lane (R43). -/
def addLane (m : LaneSet) (l : LaneId) : LaneSet := m ||| laneBit l

/-- The elements of a list of indices in ascending order (insertion sort; structural). -/
def insertNat (n : Nat) : List Nat → List Nat
  | [] => [n]
  | m :: rest => if n ≤ m then n :: m :: rest else m :: insertNat n rest

/-- The list sorted ascending. -/
def sortNat (l : List Nat) : List Nat := l.foldr insertNat []

/-- Add a name at the end of a list that holds no name twice. -/
def addName (n : Nat) (l : List Nat) : List Nat := if n ∈ l then l else l ++ [n]

/-- A span's start as a quantum index: k × S modulo 2^32 (R5). -/
def spanStartQ (S : Nat) (k : BitVec 32) : Quantum := k * tu S

/-- A span's start in plant time: start0 + k × S × Lq modulo 2^32 (R5). -/
def spanStart (start0 : Time) (S Lq : Nat) (k : BitVec 32) : Time := start0 + k * tu (S * Lq)

/-- The plan sequence of span k: k modulo 65,536 (R5). -/
def planSeqOf (k : BitVec 32) : PlanSeq := BitVec.ofNat 16 k.toNat

/-- The lane share of a cadenced stream: ceil(z × 1024 / c) (R77). -/
def laneShare (z c : Nat) : Nat := ceilDiv (z * 1024) c

/-- The first nominal quantum at or after `u`: `u` plus the least d in 0..c−1 for which `u + d`, taken modulo 2^32, leaves
remainder φ when divided by c (R79). Where c does not divide 2^32 and the c sums pass 2^32, there may be no such d; the manual
states no N there, and the value is free (log entry 3). -/
def firstNominal (u : Quantum) (c phase : Nat) : Quantum :=
  match (List.range' 0 c).find? (fun d => (u + tu d).toNat % c == phase) with
  | some d => u + tu d
  | none => Config.unstatedNominal u c phase

end Sys2Proof.Machine
end

