-- ==== Sys2Proof/Machine/Records.lean ====
section
/-! DEFINITION. The bytes of the records the part sends: replies, reports and plan records (R174, R176, R178). -/

namespace Sys2Proof.Machine

/-! ### Codes (R174) -/

def PartState.code : PartState → Byte
  | .starting => 0 | .config => 1 | .running => 2 | .testing => 3

def ReqOutcome.code : ReqOutcome → Byte
  | .done => 0 | .busy => 1 | .badState => 2 | .badValue => 3 | .noRoom => 4 | .unknownTag => 5 | .unknownStream => 6
  | .malformed => 7 | .notEmpty => 8

def LaneState.code : LaneState → Byte
  | .idle => 0 | .live => 1 | .draining => 2 | .faulted => 3

def StationState.code : StationState → Byte
  | .free => 0 | .aligning => 1 | .ready => 2 | .active => 3 | .held => 4 | .lapsed => 5 | .quarantined => 6 | .releasing => 7

def StreamState.code : StreamState → Byte
  | .free => 0 | .inUse => 1 | .retiring => 2 | .quarantined => 3 | .corrupt k => k

def StreamKind.code : StreamKind → Byte
  | .bidding => 1 | .cadenced => 2

def ClaimMode.code : ClaimMode → Byte
  | .opening => 0 | .tracking => 1

def Verdict.code : Verdict → Byte
  | .cont => 1 | .done => 2 | .abort => 3

def Cause.code : Cause → Byte
  | .powerOn => 1 | .restart => 2 | .request => 3 | .alignFailed => 4 | .notConverged => 5 | .noShows => 6 | .misses => 7
  | .margin => 8 | .skipped => 9 | .firstTally => 10 | .missing => 11 | .reportsLost => 12 | .requestLost => 13

def JoinRefusal.code : JoinRefusal → Byte
  | .quarantined => 1 | .busy => 2 | .full => 3

def IntegrityTable.code : IntegrityTable → Byte
  | .station => 1 | .stream => 2

def Finder.code : Finder → Byte
  | .build => 1 | .record => 2 | .request => 3 | .link => 4 | .scrub => 5 | .other => 6

def TurnKind.code : TurnKind → Byte
  | .data => 1 | .cadence => 2 | .align => 3 | .opening => 4 | .claim => 5

/-- The memory test's table numbers (R160, R174). -/
def testTableCode : TestTable → Nat
  | .station => 1 | .stream => 2 | .support => 3

/-- The kind codes of requests (R175). -/
def kindLaneSetup : Byte := 1
def kindLaneStart : Byte := 2
def kindLaneStop : Byte := 3
def kindLaneRead : Byte := 4
def kindClaimSetup : Byte := 5
def kindPartSetup : Byte := 6
def kindStationAdmit : Byte := 7
def kindStationHold : Byte := 8
def kindStationResume : Byte := 9
def kindStationRelease : Byte := 10
def kindStationRead : Byte := 11
def kindStreamAdd : Byte := 12
def kindStreamChange : Byte := 13
def kindStreamRemove : Byte := 14
def kindStreamRead : Byte := 15
def kindAttentionArm : Byte := 16
def kindScrub : Byte := 17
def kindMemoryTest : Byte := 18
def kindRestart : Byte := 19
def kindFetch : Byte := 20

/-- The body length a request of the kind must give, none for a kind that is none of the requests (R175). NONE, kind 0, may
give any length and is not in this list. -/
def bodyLength (kind : Nat) : Option Nat :=
  match kind with
  | 1 => some 36 | 2 => some 1 | 3 => some 1 | 4 => some 1 | 5 => some 12 | 6 => some 8 | 7 => some 4 | 8 => some 2
  | 9 => some 2 | 10 => some 2 | 11 => some 3 | 12 => some 17 | 13 => some 16 | 14 => some 2 | 15 => some 3 | 16 => some 2
  | 17 => some 0 | 18 => some 0 | 19 => some 0 | 20 => some 0
  | _ => none

/-! ### Fields, most significant byte first (R174) -/

/-- The low byte of a number. -/
def by1 (n : Nat) : List Byte := [BitVec.ofNat 8 n]

/-- A 16-bit word as two bytes. -/
def by2 (n : Nat) : List Byte := [BitVec.ofNat 8 (n / 256), BitVec.ofNat 8 n]

/-- A 32-bit word as four bytes. -/
def by4 (n : Nat) : List Byte := by2 (n / 65536) ++ by2 n

/-- A 48-bit hardware address as six bytes. -/
def by6 (n : Nat) : List Byte := by2 (n / 4294967296) ++ by4 n

def byFlag (b : Bool) : List Byte := [if b then 1 else 0]
def byTime (t : Time) : List Byte := by4 t.toNat
def bySeq (s : PlanSeq) : List Byte := by2 s.toNat
def byLane (l : LaneId) : List Byte := by1 l.val
def byInt2 (i : Int) : List Byte := by2 (BitVec.ofInt 16 i).toNat
def byInt4 (i : Int) : List Byte := by4 (BitVec.ofInt 32 i).toNat
def byAddr (a : HwAddr) : List Byte := by6 a.toNat
/-- An absent hardware address is all zeros. -/
def byOptAddr (a : Option HwAddr) : List Byte := byAddr (a.getD 0)
/-- An absent stream index is 65,535. -/
def byOptStream (i : Option Nat) : List Byte := by2 (i.getD 65535)
/-- A presence byte and the value, zeros when absent. -/
def byOptTime (t : Option Time) : List Byte := byFlag t.isSome ++ byTime (t.getD 0)
def byOptCount2 (n : Option Nat) : List Byte := byFlag n.isSome ++ by2 (n.getD 0)

/-! ### Replies (R176) -/

/-- The eighteen setup values in the order of the LANE_SETUP body, 35 bytes (R4, R175). -/
def LaneSetup.bytes (u : LaneSetup) : List Byte :=
  by2 u.Lq ++ by2 u.S ++ by1 u.bpq ++ by1 u.P ++ by1 u.b ++ by4 u.Ld ++ by2 u.Ba ++ by4 u.Wm ++ by4 u.Df ++ by1 u.Ao ++
    by2 u.Wo ++ by1 u.Ua ++ by1 u.Umax ++ by4 u.Od ++ by1 u.Pmin ++ by1 u.Pmax ++ by2 u.Rc ++ by1 u.Dl

def LaneCounters.bytes (k : LaneCounters) : List Byte :=
  by4 k.transmitted ++ by4 k.dropped ++ by4 k.slips ++ by4 k.bidsAccepted ++ by4 k.bidsDiscarded ++ by4 k.talliesDiscarded ++
    by4 k.resultsDiscarded

def HistView.bytes (h : HistView) : List Byte :=
  bySeq h.seq ++ byTime h.start ++ by2 h.slots ++ byFlag h.tallyArrived ++ by1 h.turns ++ by1 h.unresolved ++
    byFlag h.openWindow ++ by1 h.joins

/-- LANE_READ's groups in the row order of R20. An un-set lane sends its set flag as 0 and 35 zero bytes. -/
def LaneView.bytes (v : LaneView) : List Byte :=
  byLane v.lane ++ [v.state.code] ++ byFlag v.setup.isSome ++
    (match v.setup with | some u => u.bytes | none => List.replicate 35 0) ++
    byTime v.start0 ++ by4 v.nextSpan.toNat ++ bySeq (planSeqOf v.nextSpan) ++ byOptTime v.coveredUntil ++
    by1 v.drops ++ byFlag v.late ++ by1 v.queued ++ byFlag v.building ++ by1 v.waiting ++
    by1 v.history.length ++ v.history.flatMap HistView.bytes ++ by1 v.notices ++ by1 v.marked ++
    [v.mode.code] ++ byOptCount2 v.target ++ by1 v.missing ++ byTime v.rx.watermark ++ v.counters.bytes ++
    by4 v.rx.notOpen ++ by4 v.rx.malformed ++ by4 v.rx.tagCheck ++ by4 v.rx.stale

def ClaimSettings.bytes (c : ClaimSettings) : List Byte :=
  by2 c.cMin ++ by2 c.cMax ++ by2 c.cOpen ++ by1 c.gain ++ by1 c.boost ++ by1 c.Gs ++ by1 c.K ++ by1 c.bs

/-- The six values in force, the interval both in ms and in tu (R166). DESIGN CHOICE: R166 gives the stored tu value no place among
the six; it stands right after the ms value, before the credit unit (log entry 12). -/
def PartSettings.bytes (p : PartSettings) : List Byte :=
  by1 p.tolT ++ by1 p.tolP ++ by1 p.aMax ++ by1 p.qMin ++ by2 (p.miTu / Config.tuPerMs) ++ by4 p.miTu ++ by2 p.creditUnit

/-- An entry of STATION_READ in the row order of R55. -/
def StationView.bytes (v : StationView) : List Byte :=
  let e := v.entry
  by2 v.tag ++ [e.state.code] ++ byOptAddr e.addr ++ [e.laneSet] ++ byLane e.home ++ byFlag e.paused ++ by4 e.O ++ by1 e.Pw ++
    by1 e.attempts ++ by1 e.misses ++ byTime e.due ++
    (match e.outstanding with | some (l, q) => byFlag true ++ byLane l ++ bySeq q | none => [0, 0, 0, 0]) ++
    byFlag e.verdictWaiting ++ byFlag e.admitted ++ e.refs.toList.flatMap byOptStream ++ by1 v.refs

/-- The owner tag and slot, zeros when absent. -/
def byOwner (o : Option (Nat × Fin 8)) : List Byte :=
  match o with
  | some (t, k) => by2 t ++ by1 k.val
  | none => [0, 0, 0]

/-- The service fields of a stream from kind onward, in the order of STREAM_ADD, with the fields its kind does not use as pad
bytes (R175). -/
def StreamEntry.fieldBytes (e : StreamEntry) : List Byte :=
  let head := [e.kind.code] ++ by1 e.cls.val ++ by1 e.weight ++ by1 e.maxTurn ++ byFlag e.fragmentable
  match e.kind with
  | .bidding => head ++ [e.laneSet] ++ List.replicate 8 0
  | .cadenced => head ++ [0] ++ byLane e.lane ++ by2 e.c ++ by1 e.z ++ by2 e.phase ++ by2 e.jitter

/-- An entry of STREAM_READ in the row order of R97. -/
def StreamView.bytes (v : StreamView) : List Byte :=
  let e := v.entry
  by2 v.index ++ [e.state.code] ++ byOwner e.owner ++ [e.kind.code] ++ by1 e.cls.val ++ by1 e.weight ++ by1 e.maxTurn ++
    byFlag e.fragmentable ++ (match e.kind with | .bidding => [e.laneSet] | .cadenced => byLane e.lane) ++
    by2 e.c ++ by1 e.z ++ by2 e.phase ++ by2 e.jitter ++ byTime e.N ++ by2 e.slips ++ by2 v.reserved ++
    by4 e.D ++ by4 e.G ++ byInt4 e.credit ++ by1 (e.lastBid.getD 255) ++ byFlag e.relist ++ [v.lists] ++ by1 v.refs

/-- The body of a reply (R176). -/
def ReplyBody.bytes : ReplyBody → List Byte
  | .empty => []
  | .laneSetup u => u.bytes
  | .laneStart t0 start0 => byTime t0 ++ byTime start0
  | .laneRead v => v.bytes
  | .claimSetup c m t k => c.bytes ++ [m.code] ++ byOptCount2 t ++ by1 k
  | .partSetup p => p.bytes
  | .admission ls home st adm removed => [ls] ++ byLane home ++ [st.code] ++ byFlag adm ++ by1 removed
  | .release st => [st.code]
  | .stationRead free joins es => by1 es.length ++ by2 free ++ by2 joins ++ es.flatMap StationView.bytes
  | .streamAdd i e sum =>
      by2 i ++ byOwner e.owner ++ e.fieldBytes ++ (match sum with | some n => byTime e.N ++ by2 n | none => [])
  | .streamChange e => e.fieldBytes
  | .streamRemove st => [st.code]
  | .streamRead free sums es => by1 es.length ++ by2 free ++ sums.toList.flatMap by2 ++ es.flatMap StreamView.bytes
  | .attentionArm h => by2 h.toNat

/-- A reply record: header, reference, outcome, part state, pad, body; a refusal has no body (R176). -/
def Reply.bytes (r : Reply) : List Byte :=
  let body := if r.outcome = .done then r.body.bytes else []
  [1, r.kind] ++ by2 (4 + body.length) ++ [r.reference, r.outcome.code, r.part.code, 0] ++ body

/-! ### Reports (R176) -/

/-- The report kinds (R176). -/
def ReportBody.code : ReportBody → Byte
  | .started _ => 1
  | .joined .. => 2
  | .rejoined .. => 3
  | .joinRefused .. => 4
  | .aligned .. => 5
  | .alignFailed .. => 6
  | .lapsed .. => 7
  | .released .. => 8
  | .quarantined .. => 9
  | .slipped .. => 10
  | .late .. => 11
  | .dropped .. => 12
  | .laneFaulted .. => 13
  | .laneStopped _ => 14
  | .claimMode .. => 15
  | .scrubDone .. => 16
  | .testResult _ => 17
  | .overrunReports _ => 18
  | .overrunRequest .. => 18

/-- Words per entry of a table under the memory test (R160). -/
def testWords : TestTable → Nat
  | .station => 8 | .stream => 8 | .support => 4

/-- The first and the last entry index of a table under the memory test (R160). -/
def testFirst : TestTable → Nat
  | .station => 1 | .stream => 0 | .support => 0
def testLast : TestTable → Nat
  | .station => 4095 | .stream => 8191 | .support => 16383

/-- Whether an entry index belongs to a table under the memory test (R160). -/
def testEntryInRange (t : TestTable) (i : Nat) : Bool := decide (testFirst t ≤ i ∧ i ≤ testLast t)

/-- The value a read of the memory test expects: the address pattern in pass 1, the walking bit in pass 2 (R160). -/
def testExpected (t : TestTable) (p : TestPass) (entry word : Nat) : BitVec 32 :=
  match p with
  | .pattern => BitVec.ofNat 32 (testTableCode t * 2 ^ 28 + entry * 16 + word)
  | .walk bit => BitVec.ofNat 32 (2 ^ bit.val)

/-- A mismatch the test can meet: its place is one the test reads, and the value found is not the one expected (R160). -/
def mismatchPossible (m : Mismatch) : Bool :=
  testEntryInRange m.table m.entry.toNat && decide (m.word.toNat < testWords m.table) &&
    m.found != testExpected m.table m.pass m.entry.toNat m.word.toNat

/-- The fields of a report after its plant time (R176). -/
def ReportBody.bytes : ReportBody → List Byte
  | .started c => [c.code]
  | .joined l t a => byLane l ++ by2 t ++ byAddr a
  | .rejoined l t a p => byLane l ++ by2 t ++ byAddr a ++ [p.code]
  | .joinRefused l a r => byLane l ++ byAddr a ++ [r.code]
  | .aligned t l st O Pw => by2 t ++ byLane l ++ [st.code] ++ by4 O ++ by1 Pw
  | .alignFailed t l c => by2 t ++ byLane l ++ [c.code]
  | .lapsed t h c => by2 t ++ byLane h ++ [c.code]
  | .released t c => by2 t ++ [c.code]
  | .quarantined tb i f => [tb.code] ++ by2 i ++ [f.code]
  | .slipped l q n low => byLane l ++ bySeq q ++ by4 n ++ byOptStream low
  | .late l q m => byLane l ++ bySeq q ++ byInt4 m
  | .dropped l q c m n => byLane l ++ bySeq q ++ [c.code] ++ byInt4 m ++ by1 n
  | .laneFaulted l n q => byLane l ++ by1 n ++ by1 q
  | .laneStopped l => byLane l
  | .claimMode l m t c => byLane l ++ [m.code] ++ by2 t ++ [c.code]
  | .scrubDone r q w k => by2 r ++ by2 q ++ by2 w ++ by2 k
  | .testResult none => List.replicate 14 0
  | .testResult (some m) =>
      ([1] : List Byte) ++ by1 (testTableCode m.table) ++ by1 (match m.pass with | .pattern => 1 | .walk _ => 2) ++ by2 m.entry.toNat ++
        [m.word] ++ by4 (testExpected m.table m.pass m.entry.toNat m.word.toNat).toNat ++ by4 m.found.toNat
  | .overrunReports n => [Cause.reportsLost.code] ++ by2 n ++ [0, 0]
  | .overrunRequest k r => [Cause.requestLost.code, 0, 0, k, r]

/-- A report record: header, the plant time at which it was raised, its fields (R176). -/
def Report.bytes (r : Report) : List Byte :=
  [2, r.body.code] ++ by2 (4 + r.body.bytes.length) ++ byTime r.time ++ r.body.bytes

/-! ### Outgoing records of frames -/

/-- The record's own bytes; the empty marker is four zero bytes (R176). -/
def Outgoing.bytes : Outgoing → List Byte
  | .empty => [0, 0, 0, 0]
  | .reply r => r.bytes
  | .report r => r.bytes

/-- What a frame of `n` bytes carries: the record's bytes, and zeros beyond its end (R162, R176). -/
def Outgoing.shifted (o : Outgoing) (n : Nat) : List Byte :=
  (o.bytes ++ List.replicate (n - o.bytes.length) 0).take n

/-! ### Plan records (R178) -/

def Turn.bytes (t : Turn) : List Byte :=
  [t.kind.code] ++ by1 (if t.kind = .data ∨ t.kind = .cadence then t.slot else 0) ++ by2 t.tag ++ by2 t.start ++ by2 t.len ++
    by2 (if t.kind = .claim then t.slots else 0)

def PlanNotice.bytes : PlanNotice → List Byte
  | .queued (.join a t O Pw) => ([1] : List Byte) ++ by1 Pw ++ by2 t ++ byAddr a ++ by4 O ++ [0, 0]
  | .queued (.correction t dt dp v) => [2, v.code] ++ by2 t ++ byInt2 dt ++ byInt2 dp ++ List.replicate 8 0
  | .pending t k => ([3] : List Byte) ++ by1 k ++ by2 t ++ List.replicate 12 0

/-- The plan record as transmitted: header, turns, notices, trailer. -/
def PlanRecord.bytes (r : PlanRecord) : List Byte :=
  byLane r.lane ++ by1 r.bs ++ by1 r.be ++ by1 r.b ++ bySeq r.seq ++ by2 r.S ++ by2 r.Lq ++ by1 r.turns.length ++
    by1 r.notices.length ++ byTime r.startQ ++ byTime r.start ++ byTime r.ack ++ r.turns.flatMap Turn.bytes ++
    r.notices.flatMap PlanNotice.bytes ++ by2 (28 + 10 * r.turns.length + 16 * r.notices.length) ++ bySeq r.seq

end Sys2Proof.Machine
end

