-- ==== Sys2Proof/Machine/Table.lean ====
section
/-! DEFINITION. Reading and writing a sparse table, and its canonical form. -/

namespace Sys2Proof.Machine

variable {α : Type}

/-- The entry at index `i`: the listed one, else the default `d`. -/
def Table.get (d : α) (i : Nat) : Table α → α
  | [] => d
  | (j, v) :: rest => if i < j then d else if i = j then v else Table.get d i rest

/-- Write entry `i` in canonical form: writing the default removes the listing. -/
def Table.set [DecidableEq α] (d : α) (i : Nat) (v : α) : Table α → Table α
  | [] => if v = d then [] else [(i, v)]
  | (j, w) :: rest =>
    if i < j then (if v = d then (j, w) :: rest else (i, v) :: (j, w) :: rest)
    else if i = j then (if v = d then rest else (i, v) :: rest)
    else (j, w) :: Table.set d i v rest

/-- Every listed index is above `n`, indices rise strictly, and no listed entry is the default. -/
def Table.wfFrom [DecidableEq α] (d : α) : Option Nat → Table α → Bool
  | _, [] => true
  | n, (j, v) :: rest => decide (∀ k ∈ n, k < j) && decide (v ≠ d) && Table.wfFrom d (some j) rest

/-- The canonical form. -/
def Table.wf [DecidableEq α] (d : α) (t : Table α) : Bool := Table.wfFrom d none t

/-- The indices of the listed entries that pass `p`, in ascending order. -/
def Table.indices (p : α → Bool) (t : Table α) : List Nat := (t.filter (fun r => p r.2)).map (·.1)

end Sys2Proof.Machine
end

