-- ==== Sys2Proof/Machine/Ops.lean ====
section
/-! DEFINITION. The named operations over the state: lanes, ports, Claim Controllers, table entries with their parity, plan
references, reports, the due queue, the service lists and the notice queues. Every meaning is written over these. -/

namespace Sys2Proof.Machine

/-! ### Lanes, ports and Claim Controllers -/

def State.lane (s : State) (l : LaneId) : Lane := s.lanes[l]
def State.setLane (s : State) (l : LaneId) (v : Lane) : State := { s with lanes := s.lanes.set l v }
def State.modLane (s : State) (l : LaneId) (f : Lane → Lane) : State := s.setLane l (f (s.lane l))

def State.rx (s : State) (l : LaneId) : RxPort := s.ports[l]
def State.setRx (s : State) (l : LaneId) (v : RxPort) : State := { s with ports := s.ports.set l v }
def State.modRx (s : State) (l : LaneId) (f : RxPort → RxPort) : State := s.setRx l (f (s.rx l))

def State.claim (s : State) (l : LaneId) : Claim := s.claims[l]
def State.setClaim (s : State) (l : LaneId) (v : Claim) : State := { s with claims := s.claims.set l v }

/-- Change the counters of a lane (R19). -/
def State.count (s : State) (l : LaneId) (f : LaneCounters → LaneCounters) : State :=
  s.modLane l fun v => { v with counters := f v.counters }

/-- A counter rises by `k`, stopping at 2^32−1 (R19). -/
def raiseBy (k n : Nat) : Nat := satAdd Config.counterMax n k

/-- A setup of zeros, read where an un-set lane's setup is asked for; no lane that runs is un-set (R14). -/
def LaneSetup.zero : LaneSetup :=
  { Lq := 0, S := 0, bpq := 0, P := 0, b := 0, Ld := 0, Ba := 0, Wm := 0, Df := 0, Ao := 0, Wo := 0, Ua := 0, Umax := 0,
    Od := 0, Pmin := 0, Pmax := 0, Rc := 0, Dl := 0 }

/-- The lane's setup in force. -/
def State.setupOf (s : State) (l : LaneId) : LaneSetup := (s.lane l).setup.getD LaneSetup.zero

def State.isLive (s : State) (l : LaneId) : Bool := (s.lane l).state = .live

/-- The lowest LIVE lane of a set (R52). -/
def State.lowestLive (s : State) (m : LaneSet) : Option LaneId := (lanesOf m).find? s.isLive

/-- CONFIG and RUNNING follow the lane states; STARTING and TESTING stay (R171). -/
def State.refreshPart (s : State) : State :=
  match s.port.part with
  | .starting => s
  | .testing => s
  | _ =>
    let part := if allLanes.all (fun l => (s.lane l).state = .idle) then PartState.config else PartState.running
    { s with port := { s.port with part := part } }

/-- Give a lane a state; the part state follows (R13, R171). -/
def State.setLaneState (s : State) (l : LaneId) (st : LaneState) : State :=
  (s.modLane l fun v => { v with state := st }).refreshPart

/-! ### The report queue (R168, R169) -/

/-- An OPEN gate becomes LATCHED when a record joins its queue (R169). -/
def Gate.latch (g : Gate) : Gate := if g = .opened then .latched else g

/-- A block raises a report: it joins the tail of the report queue, or is lost to a full queue (R168). -/
def State.raise (s : State) (b : ReportBody) : State :=
  if s.port.reports.length < Config.reports then
    { s with port := { s.port with reports := s.port.reports ++ [⟨s.now, b⟩], gate := s.port.gate.latch } }
  else
    { s with port := { s.port with overrun := true, lost := satAdd Config.reportsLost s.port.lost 1 } }

/-! ### Parity (R151)

The check value is one bit, the exclusive or of every stored bit of the entry's fields, so any single bit that changes makes
the check fail. A stream's kind is stored as one bit. DESIGN CHOICE: the manual gives neither the width nor the function (log
entry 4). -/

def oddBool (b : Bool) : Bool := b
def oddOption {α : Type} (f : α → Bool) : Option α → Bool
  | none => false
  | some a => !f a

def StationEntry.parityOf (e : StationEntry) : Bool :=
  (oddOnes 8 e.state.code.toNat).xor <| (oddOption (fun a => oddOnes 48 a.toNat) e.addr).xor <|
  (oddOnes 8 e.laneSet.toNat).xor <| (oddOnes 3 e.home.val).xor <| (oddOnes 20 e.O).xor <| (oddOnes 8 e.Pw).xor <|
  (oddOnes 3 e.attempts).xor <| (oddOnes 3 e.misses).xor <| (oddOnes 32 e.due.toNat).xor <| e.paused.xor <| e.admitted.xor <|
  (oddOption (fun m => (oddOnes 3 m.1.val).xor (oddOnes 16 m.2.toNat)) e.outstanding).xor <| e.verdictWaiting.xor <|
  e.refs.toList.foldl (fun b r => b.xor (oddOption (oddOnes 16) r)) false

def StreamEntry.parityOf (e : StreamEntry) : Bool :=
  (oddOnes 8 e.state.code.toNat).xor <| (oddOption (fun o => (oddOnes 16 o.1).xor (oddOnes 3 o.2.val)) e.owner).xor <|
  (e.kind == .cadenced).xor <| (oddOnes 2 e.cls.val).xor <| (oddOnes 8 e.weight).xor <| (oddOnes 8 e.maxTurn).xor <|
  e.fragmentable.xor <| (oddOnes 8 e.laneSet.toNat).xor <| (oddOnes 3 e.lane.val).xor <| (oddOnes 16 e.c).xor <|
  (oddOnes 8 e.z).xor <| (oddOnes 16 e.phase).xor <| (oddOnes 16 e.jitter).xor <| (oddOnes 32 e.N.toNat).xor <|
  (oddOnes 24 e.D).xor <| (oddOnes 24 e.G).xor <| (oddOnes 32 (BitVec.ofInt 32 e.credit).toNat).xor <|
  (oddOption (oddOnes 4) e.lastBid).xor <| e.relist.xor <| oddOnes 16 e.slips

/-- The entry with its parity written to match (R151). -/
def StationEntry.seal (e : StationEntry) : StationEntry := { e with parity := e.parityOf }
def StreamEntry.seal (e : StreamEntry) : StreamEntry := { e with parity := e.parityOf }

/-- The check of a read (R151). -/
def StationEntry.checks (e : StationEntry) : Bool := e.parity == e.parityOf
def StreamEntry.checks (e : StreamEntry) : Bool := e.parity == e.parityOf

/-! ### Table entries -/

/-- A station entry's free values (R35). -/
def StationEntry.free : StationEntry :=
  StationEntry.seal
    { state := .free, addr := none, laneSet := 0, home := 0, O := 0, Pw := 0, attempts := 0, misses := 0, due := 0,
      paused := false, admitted := false, outstanding := none, verdictWaiting := false, refs := Vector.replicate 8 none,
      parity := false }

/-- A stream entry's free values (R75). -/
def StreamEntry.free : StreamEntry :=
  StreamEntry.seal
    { state := .free, owner := none, kind := .bidding, cls := 0, weight := 1, maxTurn := 1, fragmentable := false,
      laneSet := 0, lane := 0, c := 16, z := 1, phase := 0, jitter := 0, N := 0, D := 0, G := 0, credit := 0,
      lastBid := none, relist := false, slips := 0, parity := false }

/-- The reserved share of a stream that holds none (R77). -/
def Reserved.none : Reserved := { lane := 0, amount := 0 }

/-- The entry of a tag as stored. -/
def State.station (s : State) (t : Nat) : StationEntry := Table.get StationEntry.free t s.stations.entries

/-- Write the entry of a tag; its parity is written with it (R35). -/
def State.putStation (s : State) (t : Nat) (e : StationEntry) : State :=
  { s with stations := { s.stations with entries := Table.set StationEntry.free t e.seal s.stations.entries } }

def State.modStation (s : State) (t : Nat) (f : StationEntry → StationEntry) : State := s.putStation t (f (s.station t))

/-- The entry of a stream index as stored. -/
def State.stream (s : State) (i : Nat) : StreamEntry := Table.get StreamEntry.free i s.streams.entries

/-- Write the entry of a stream index; its parity is written with it (R75). -/
def State.putStream (s : State) (i : Nat) (e : StreamEntry) : State :=
  { s with streams := { s.streams with entries := Table.set StreamEntry.free i e.seal s.streams.entries } }

def State.modStream (s : State) (i : Nat) (f : StreamEntry → StreamEntry) : State := s.putStream i (f (s.stream i))

/-- The reserved share kept beside a stream (R77). -/
def State.reservedOf (s : State) (i : Nat) : Reserved := Table.get Reserved.none i s.streams.reserved

def State.setReserved (s : State) (i : Nat) (r : Reserved) : State :=
  { s with streams := { s.streams with reserved := Table.set Reserved.none i r s.streams.reserved } }

def State.shareSum (s : State) (l : LaneId) : Nat := s.streams.shareSums[l]

def State.setShareSum (s : State) (l : LaneId) (n : Nat) : State :=
  { s with streams := { s.streams with shareSums := s.streams.shareSums.set l n } }

def State.stationRefs (s : State) (t : Nat) : Nat := Table.get 0 t s.refs.stations
def State.streamRefs (s : State) (i : Nat) : Nat := Table.get 0 i s.refs.streams

def State.setStationRefs (s : State) (t n : Nat) : State :=
  { s with refs := { s.refs with stations := Table.set 0 t n s.refs.stations } }
def State.setStreamRefs (s : State) (i n : Nat) : State :=
  { s with refs := { s.refs with streams := Table.set 0 i n s.refs.streams } }

/-- Note that a tag is quarantined, and that it is so no longer (log entry 29). -/
def State.noteQuarantine (s : State) (t : Nat) : State :=
  { s with stations := { s.stations with quarantined := addName t s.stations.quarantined } }

def State.forgetQuarantine (s : State) (t : Nat) : State :=
  { s with stations := { s.stations with quarantined := s.stations.quarantined.filter (· ≠ t) } }

/-- The number of FREE stream entries (R97, R159). -/
def State.freeStreams (s : State) : Nat := Config.streams - (Table.indices (fun e => e.state ≠ .free) s.streams.entries).length

/-- The draft in progress names the station, the stream (R117). -/
def State.draftNamesStation (s : State) (t : Nat) : Bool :=
  match s.builder.draft with
  | some d => d.namedStations.contains t
  | none => false

def State.draftNamesStream (s : State) (i : Nat) : Bool :=
  match s.builder.draft with
  | some d => d.namedStreams.contains i
  | none => false

def State.setDraft (s : State) (d : Option Draft) : State := { s with builder := { s.builder with draft := d } }

/-- A build of the lane is in progress (R14, R20). -/
def State.building (s : State) (l : LaneId) : Bool :=
  match s.builder.draft with
  | some d => d.lane = l
  | none => false

/-- The number of the lane's plans in the output queue (R20, R137). -/
def State.queuedOf (s : State) (l : LaneId) : Nat := (s.link.queue.filter (fun p => p.record.lane = l)).length

/-- A station state in which the station is aligned or maintained (R52, R58, R60). -/
def StationState.kept (st : StationState) : Bool :=
  match st with
  | .aligning | .ready | .active | .held | .lapsed => true
  | .free | .quarantined | .releasing => false

/-! ### The due queue (R58) -/

/-- A station leaves the due queue. -/
def State.leaveDue (s : State) (t : Nat) : State :=
  { s with align := { s.align with dueQueue := s.align.dueQueue.filter (· ≠ t), dueFresh := s.align.dueFresh.filter (· ≠ t) } }

/-- The place of a tag joining now: behind every earlier member, and among those that joined at the present plant time in
tag order. -/
def insertDue (fresh : List Nat) (t : Nat) : List Nat → List Nat
  | [] => [t]
  | m :: rest => if m ∈ fresh ∧ t < m then t :: m :: rest else m :: insertDue fresh t rest

/-- A station joins the due queue at the present plant time. -/
def State.joinDue (s : State) (t : Nat) : State :=
  let s := s.leaveDue t
  { s with align := { s.align with dueQueue := insertDue s.align.dueFresh t s.align.dueQueue, dueFresh := t :: s.align.dueFresh } }

/-- The maintenance due is set to now, and the station joins the queue at once (R58). -/
def State.setDueNow (s : State) (t : Nat) : State :=
  (s.modStation t fun e => { e with due := s.now }).joinDue t

/-- The maintenance due is set to a later time, and the station leaves the queue until then (R58). -/
def State.setDueLater (s : State) (t : Nat) (at_ : Time) : State :=
  (s.modStation t fun e => { e with due := at_ }).leaveDue t

/-! ### Service lists (R91, R92) -/

def State.list (s : State) (l : LaneId) (k : Fin 4) : List Nat := s.streams.service[l][k]

def State.setList (s : State) (l : LaneId) (k : Fin 4) (v : List Nat) : State :=
  { s with streams := { s.streams with service := s.streams.service.set l ((s.streams.service[l]).set k v) } }

/-- The streams that have joined a list of the lane since the latest build begin on it. -/
def State.joinedOf (s : State) (l : LaneId) : List Nat := s.streams.joined[l]

def State.setJoined (s : State) (l : LaneId) (v : List Nat) : State :=
  { s with streams := { s.streams with joined := s.streams.joined.set l v } }

/-- A stream joins the tail of a list it is not on; the join is noted for the build in progress (R124). -/
def State.joinList (s : State) (l : LaneId) (k : Fin 4) (i : Nat) : State :=
  if i ∈ s.list l k then s else (s.setList l k (s.list l k ++ [i])).setJoined l (addName i (s.joinedOf l))

/-- A stream leaves one list. -/
def State.leaveList (s : State) (l : LaneId) (k : Fin 4) (i : Nat) : State := s.setList l k ((s.list l k).filter (· ≠ i))

/-- A stream leaves every list of one lane. -/
def State.leaveLane (s : State) (i : Nat) (l : LaneId) : State := allClasses.foldl (fun s k => s.leaveList l k i) s

/-- A stream leaves every service list. -/
def State.leaveLists (s : State) (i : Nat) : State := allLanes.foldl (State.leaveLane · i ·) s

/-- A visited stream moves to the tail of its list (R127). -/
def State.moveToTail (s : State) (l : LaneId) (k : Fin 4) (i : Nat) : State :=
  s.setList l k ((s.list l k).filter (· ≠ i) ++ [i])

/-- The stream stands on a list of the lane. -/
def State.onLane (s : State) (l : LaneId) (i : Nat) : Bool := allClasses.any (fun k => (s.list l k).contains i)

/-- The lanes on whose lists the stream stands (R97). -/
def State.listedLanes (s : State) (i : Nat) : LaneSet :=
  (allLanes.filter (fun l => s.onLane l i)).foldl addLane 0

/-- The available demand A = D − G (R84). -/
def StreamEntry.avail (e : StreamEntry) : Nat := e.D - e.G

/-- The state of the stream's recorded owner is `st`. -/
def State.ownerIs (s : State) (e : StreamEntry) (st : StationState) : Bool :=
  match e.owner with
  | some (t, _) => (s.station t).state = st
  | none => false

/-- The stream meets the membership condition of R91 on a lane of its set. -/
def State.listable (s : State) (i : Nat) : Bool :=
  let e := s.stream i
  e.state = .inUse && e.kind = .bidding && s.ownerIs e .active && decide (0 < e.avail)

/-- The stream is one that a list may serve: IN_USE and BIDDING (R91). A fault may leave another standing on a list until its
check finds it. -/
def State.servable (s : State) (i : Nat) : Bool := (s.stream i).state = .inUse && (s.stream i).kind = .bidding

/-- The stream joins the tail of its class list on every lane of its lane set (R86, R90, R92). -/
def State.joinLists (s : State) (i : Nat) : State :=
  let e := s.stream i
  (lanesOf e.laneSet).foldl (fun s l => s.joinList l e.cls i) s

/-- Clearing a stream's demand: D becomes G, the credit 0, and it leaves every list (R87). -/
def State.clearDemand (s : State) (i : Nat) : State :=
  (s.modStream i fun e => { e with D := e.G, credit := 0 }).leaveLists i

/-- A stream entry becomes FREE: it stands on no list, and is rewritten with its free values (R82, R91). -/
def State.freeStream (s : State) (i : Nat) : State := (s.leaveLists i).putStream i StreamEntry.free

/-! ### Stream references (R75) -/

/-- The reference leads to a stream: an IN_USE or QUARANTINED entry that records the tag and slot as its owner. -/
def State.leads (s : State) (t : Nat) (k : Fin 8) (i : Nat) : Bool :=
  decide (i < Config.streams) && ((s.stream i).state = .inUse || (s.stream i).state = .quarantined) &&
    (s.stream i).owner == some (t, k)

/-- The stream a station's slot leads to; a reference that does not lead to one is taken as absent. -/
def State.slotStream (s : State) (t : Nat) (k : Fin 8) : Option Nat :=
  ((s.station t).refs[k]).filter (s.leads t k)

/-- The station's streams, in stream slot order. -/
def State.streamsOf (s : State) (t : Nat) : List Nat := allSlots.filterMap (s.slotStream t)

/-- A rule that acts on a station's streams and writes its entry writes absent each reference that leads to no stream (R75). -/
def State.tidyRefs (s : State) (t : Nat) : State :=
  allSlots.foldl (fun (s : State) (k : Fin 8) => s.modStation t fun e => { e with refs := e.refs.set k (s.slotStream t k) }) s

/-- The station's bidding streams with available demand above 0 join their lists, in stream slot order (R49, R68). -/
def State.relistStreams (s : State) (t : Nat) : State :=
  (s.streamsOf t).foldl
    (fun s i => if (s.stream i).state = .inUse ∧ (s.stream i).kind = .bidding ∧ 0 < (s.stream i).avail then s.joinLists i else s) s

/-! ### The notice queues (R12) -/

def NoticeBody.tag : NoticeBody → Nat
  | .join _ t _ _ => t
  | .correction t _ _ _ => t

def NoticeBody.isCorrection : NoticeBody → Bool
  | .join .. => false
  | .correction .. => true

/-- A notice joins the tail of a lane's notice queue, unmarked. -/
def State.pushNotice (s : State) (l : LaneId) (b : NoticeBody) : State :=
  s.modLane l fun v => { v with notices := v.notices ++ [{ body := b, mark := none, taken := false }] }

/-- Change every notice of a lane's queue. -/
def State.mapNotices (s : State) (l : LaneId) (f : Notice → Notice) : State :=
  s.modLane l fun v => { v with notices := v.notices.map f }

/-- Every notice naming the tag is removed from every lane's notice queue (R54). -/
def State.dropNoticesOf (s : State) (t : Nat) : State :=
  allLanes.foldl (fun s l => s.modLane l fun v => { v with notices := v.notices.filter (fun n => n.body.tag ≠ t) }) s

/-- A CORRECTION notice for the tag stands in some lane's notice queue (R12). -/
def State.correctionWaits (s : State) (t : Nat) : Bool :=
  allLanes.any fun l => (s.lane l).notices.any fun n => n.body.isCorrection && n.body.tag == t

/-! ### Entries becoming FREE (R54, R82) -/

/-- A station entry becomes FREE (R54). -/
def State.freeStation (s : State) (t : Nat) : State :=
  let s := (s.putStation t StationEntry.free).leaveDue t
  { s with stations := { s.stations with freeTags := s.stations.freeTags ++ [t] } }.dropNoticesOf t

/-- A RELEASING station becomes FREE once its count is 0 and the draft does not name it (R54). -/
def State.settleStation (s : State) (t : Nat) : State :=
  if (s.station t).state = .releasing ∧ s.stationRefs t = 0 ∧ s.draftNamesStation t = false then s.freeStation t else s

/-- A RETIRING stream becomes FREE once its count is 0 and the draft does not name it (R82). -/
def State.settleStream (s : State) (i : Nat) : State :=
  if (s.stream i).state = .retiring ∧ s.streamRefs i = 0 ∧ s.draftNamesStream i = false then s.freeStream i else s

/-- One plan fewer names the station, the stream (R53). -/
def State.lowerStation (s : State) (t : Nat) : State := (s.setStationRefs t (s.stationRefs t - 1)).settleStation t
def State.lowerStream (s : State) (i : Nat) : State := (s.setStreamRefs i (s.streamRefs i - 1)).settleStream i

/-- The counts of what a plan names fall by one (R9, R11, R146). DESIGN CHOICE: the manual gives no order among the entries; they fall
in the order in which the plan names them, stations before streams (log entry 25). -/
def State.lowerRefs (s : State) (stations streams : List Nat) : State :=
  streams.foldl State.lowerStream (stations.foldl State.lowerStation s)

/-- The counts of what a plan names rise by one (R140). -/
def State.raiseRefs (s : State) (stations streams : List Nat) : State :=
  streams.foldl (fun s i => s.setStreamRefs i (s.streamRefs i + 1))
    (stations.foldl (fun s t => s.setStationRefs t (s.stationRefs t + 1)) s)

/-! ### Holding the part under reset (R172) -/

/-- While the reset pin is asserted every block is held at its reset values, and the command does nothing. -/
def State.unlessReset (s : State) (f : State → State) : Host.Outcome State Fault Refusal :=
  .next (if s.resetPin then s else f s)

end Sys2Proof.Machine
end

