-- ==== Sys2Proof/Machine/Integrity.lean ====
section
/-! DEFINITION. Table integrity: the check of a read and what a failed check does (R151 to R156), and the meanings of the
scrub step and of the end of the memory test (R157 to R161). -/

namespace Sys2Proof.Machine

/-! ### The counts of a running scrub (R157) -/

/-- Raise a count of the running scrub, where the scrub is the finder. -/
def State.tallyScrub (s : State) (f : Finder) (g : Scrub → Scrub) : State :=
  if f = .scrub then { s with integrity := { s.integrity with scrub := s.integrity.scrub.map g } } else s

def Scrub.oneQuarantined (c : Scrub) : Scrub := { c with quarantined := c.quarantined + 1 }
def Scrub.oneRewritten (c : Scrub) : Scrub := { c with rewritten := c.rewritten + 1 }
def Scrub.oneWaiting (c : Scrub) : Scrub := { c with waiting := c.waiting + 1 }

/-! ### A failed check (R153 to R155) -/

/-- A stream entry is quarantined at the read that found its check failed (R155). -/
def State.quarantineStream (s : State) (f : Finder) (i : Nat) : State :=
  (((s.modStream i fun e => { e with state := .quarantined }).clearDemand i).raise (.quarantined .stream i f)).tallyScrub f
    Scrub.oneQuarantined

/-- A read of a stream entry with its check; a failure is handled by R153 before the reader acts. Whatever the outcome, the
stream is IN_USE no longer and stands on no service list (R91). DEDUCED: that the entry "was QUARANTINED already" is read from its
state field, as R153 decides the rest (log entry 29). -/
def State.checkStream (s : State) (f : Finder) (i : Nat) : State :=
  let e := s.stream i
  if e.checks then s
  else if (e.state = .free ∨ e.state = .retiring) ∧ (s.reservedOf i).amount = 0 then
    if 0 < s.streamRefs i ∨ s.draftNamesStream i then
      ((s.putStream i { e with state := .retiring }).leaveLists i).tallyScrub f Scrub.oneWaiting
    else
      (s.freeStream i).tallyScrub f Scrub.oneRewritten
  else if e.state = .quarantined then (s.putStream i e).leaveLists i
  else s.quarantineStream f i

/-- The stream entries that are IN_USE and record the tag as their owner, in stream index order (R154). -/
def State.streamsOwnedBy (s : State) (t : Nat) : List Nat :=
  Table.indices (fun e => e.state == .inUse && e.owner.any (fun o => o.1 == t)) s.streams.entries

/-- A stream of a quarantined station: read with a check, and its demand cleared if it is still IN_USE (R154). DESIGN CHOICE: the
table of R152 has no row for this read, and a stream that fails its check here is reported with the finder of the station's read (log
entry 30). -/
def State.strandStream (f : Finder) (s : State) (i : Nat) : State :=
  let s := s.checkStream f i
  if (s.stream i).state = .inUse then s.clearDemand i else s

/-- A station entry is quarantined at the read that found its check failed (R154). -/
def State.quarantineStation (s : State) (f : Finder) (t : Nat) : State :=
  let s := ((s.modStation t fun e => { e with state := .quarantined }).noteQuarantine t).leaveDue t
  (((s.streamsOwnedBy t).foldl (State.strandStream f) s).raise (.quarantined .station t f)).tallyScrub f Scrub.oneQuarantined

/-- A station quarantined already whose check fails again: its entry is sealed as QUARANTINED. As R58 and R91 say of a station that is
QUARANTINED, it is not in the due queue and its streams are on no list, whatever its state field had read since (log entry 29). -/
def State.resealStation (s : State) (t : Nat) : State :=
  let s := (s.modStation t fun e => { e with state := .quarantined }).leaveDue t
  (s.streamsOwnedBy t).foldl State.leaveLists s

/-- A read of a station entry with its check; a failure is handled by R153, decided from the free tag list and the join map.
An entry found RELEASING whose count is 0 and which no draft names becomes FREE at once, the first moment R54 gives (log entry 10).
DESIGN CHOICE: that a mapped station "was QUARANTINED already" is read from the model's own note of the tags quarantined, since R153
does not decide it from the entry's own state field (log entry 29). -/
def State.checkStation (s : State) (f : Finder) (t : Nat) : State :=
  let e := s.station t
  if e.checks then s
  else if t ∈ s.stations.freeTags then
    (s.putStation t StationEntry.free).tallyScrub f Scrub.oneRewritten
  else if s.stations.joinMap.any (fun m => m.2 == t) then
    if t ∈ s.stations.quarantined then s.resealStation t else s.quarantineStation f t
  else
    (((s.putStation t { e with state := .releasing }).leaveDue t).settleStation t).tallyScrub f Scrub.oneWaiting

/-! ### Reads made by a build (R116): each entry is checked at the build's first read of it -/

def State.buildReadStation (s : State) (t : Nat) : State :=
  match s.builder.draft with
  | none => s
  | some d =>
    if t ∈ d.readStations then s
    else (s.setDraft (some { d with readStations := t :: d.readStations })).checkStation .build t

def State.buildReadStream (s : State) (i : Nat) : State :=
  match s.builder.draft with
  | none => s
  | some d =>
    if i ∈ d.readStreams then s
    else (s.setDraft (some { d with readStreams := i :: d.readStreams })).checkStream .build i

/-- The build reads the entry of a stream's recorded owner. -/
def State.buildReadOwner (s : State) (i : Nat) : State :=
  match (s.stream i).owner with
  | some (t, _) => s.buildReadStation t
  | none => s

/-! ### Clearing the tables (R161, R172) -/

/-- Every table memory holds its reset contents. -/
def State.clearTables (s : State) : State :=
  { s with
    stations := StationTable.reset
    streams := StreamTable.reset
    refs := RefTable.reset
    align := { s.align with dueQueue := [], dueFresh := [] } }

/-! ### The scrub (R157, R158) -/

/-- Set the position of the running scrub. -/
def State.setScrubPos (s : State) (p : ScrubPos) : State :=
  { s with integrity := { s.integrity with scrub := s.integrity.scrub.map fun c => { c with pos := p } } }

/-- The end of the scrub: IDLE, and SCRUB_DONE with its counts (R158). -/
def State.endScrub (s : State) : State :=
  match s.integrity.scrub with
  | none => s
  | some c =>
    { s with integrity := { s.integrity with scrub := none } }.raise
      (.scrubDone Config.scrubEntries c.quarantined c.rewritten c.waiting)

/-- One step of a running scrub: the entry at its position is read with a check (R157). -/
def State.scrubOne (s : State) : State :=
  match s.integrity.scrub with
  | none => s
  | some c =>
    match c.pos with
    | .station t =>
      (s.checkStation .scrub t).setScrubPos (if t < Config.stations then .station (t + 1) else .stream 0)
    | .stream i =>
      if i + 1 < Config.streams then (s.checkStream .scrub i).setScrubPos (.stream (i + 1))
      else (s.checkStream .scrub i).endScrub

/-- SCRUB_STEP (R157, R158). Without a running scrub there is no step, and nothing changes. -/
def execScrubStep (s : State) : Host.Outcome State Fault Refusal := s.unlessReset State.scrubOne

/-! ### The memory test (R160) -/

/-- The table after this one in the test. -/
def testTableAfter : TestTable → Option TestTable
  | .station => some .stream
  | .stream => some .support
  | .support => none

/-- The first access of a table's two passes. -/
def testStart (t : TestTable) : TestPos := { table := t, act := .fill, entry := testFirst t, word := 0 }

/-- The same act at the next word of the table, none at its last word. -/
def TestPos.nextWord (p : TestPos) : Option TestPos :=
  if p.word + 1 < testWords p.table then some { p with word := p.word + 1 }
  else if p.entry < testLast p.table then some { p with entry := p.entry + 1, word := 0 }
  else none

/-- An act at the first word of the table. -/
def TestPos.restart (p : TestPos) (a : TestAct) : TestPos := { p with act := a, entry := testFirst p.table, word := 0 }

/-- The access that follows, none after the last read of pass 2 of SUPPORT: pass 1 fills every word and then checks every word;
pass 2 walks the bits of each word and clears it; then the next table. -/
def TestPos.succ (p : TestPos) : Option TestPos :=
  match p.act with
  | .fill => some (p.nextWord.getD (p.restart .check))
  | .check => some ((p.nextWord).getD (p.restart (.set 0)))
  | .set b => some { p with act := .get b }
  | .get b =>
    if h : b.val + 1 < 32 then some { p with act := .set ⟨b.val + 1, h⟩ }
    else if p.table = .support ∧ p.nextWord = none then none
    else some { p with act := .clear }
  | .clear =>
    match p.nextWord with
    | some q => some { q with act := .set 0 }
    | none => (testTableAfter p.table).map testStart

/-- The word an access writes, or that its read expects. -/
def TestPos.value (p : TestPos) : BitVec 32 :=
  match p.act with
  | .fill | .check => testExpected p.table .pattern p.entry p.word
  | .set b | .get b => testExpected p.table (.walk b) p.entry p.word
  | .clear => 0

/-- The number of a word among the words of the three tables: its address pattern, which no other word has. -/
def TestPos.address (p : TestPos) : Nat := (testExpected p.table .pattern p.entry p.word).toNat

/-- One access of the test: a write stores its word, and the test goes on; a read goes on when it finds what was written, and the
test stops at a read that does not. -/
def MemTest.access (m : MemTest) : MemTest :=
  match m.next with
  | none => m
  | some p =>
    match p.act with
    | .fill | .set _ | .clear => { next := p.succ, words := Table.set 0 p.address p.value m.words }
    | .check | .get _ => if Table.get 0 p.address m.words = p.value then { m with next := p.succ } else m

/-- What the part does while no command waits: an access of a memory test in progress, and otherwise nothing (log entries 5 and
17). -/
def State.idle (s : State) : State :=
  match s.integrity.memTest with
  | none => s
  | some m => { s with integrity := { s.integrity with memTest := some m.access } }

/-! ### The end of the memory test (R161) -/

/-- The read that a mismatch was met at: the place it names, and a value that is not the one written there. -/
def TestPos.mismatches (p : TestPos) (m : Mismatch) : Bool :=
  (match p.act, m.pass with
    | .check, .pattern => true
    | .get b, .walk c => b == c
    | _, _ => false) &&
  m.table == p.table && m.entry.toNat == p.entry && m.word.toNat == p.word && m.found != p.value

/-- The test is at an end: every read was made and none was a mismatch, or the next read is the one the mismatch was met at (R161). -/
def MemTest.endsWith (t : MemTest) : Option Mismatch → Bool
  | none => t.next.isNone
  | some m => t.next.any fun p => p.mismatches m

/-- The memory test ends at its last read or at a mismatch: TEST_RESULT, every table memory cleared, CONFIG (R161). -/
def State.endMemoryTest (m : Option Mismatch) (s : State) : State :=
  if s.port.part = .testing ∧ s.integrity.memTest.any (·.endsWith m) then
    let s := (s.raise (.testResult m)).clearTables
    { s with integrity := { s.integrity with memTest := none }, port := { s.port with part := .config } }.refreshPart
  else s

/-- MEMORY_TEST_END (R161). The part acts on it only while it is TESTING and the test has come to that end (log entry 17). -/
def execMemoryTestEnd (mismatch : Option Mismatch) (s : State) : Host.Outcome State Fault Refusal :=
  s.unlessReset (State.endMemoryTest mismatch)

end Sys2Proof.Machine
end

