-- ==== Sys2Proof/Machine/Release.lean ====
section
/-! DEFINITION. Removing a stream (R81), releasing a station (R50), entry into LAPSED (R70), and the settling of the two
outstanding marks of a station. Requests, alignment and lane events share these steps. -/

namespace Sys2Proof.Machine

/-- The station entry a stream's removal concerns: the recorded owner, when its tag lies in 1..4095 and that entry's reference
for the recorded slot leads to this stream (R156). -/
def State.ownerOf (s : State) (i : Nat) : Option (Nat × Fin 8) :=
  (s.stream i).owner.filter fun o =>
    decide (1 ≤ o.1 ∧ o.1 ≤ Config.stations) && s.slotStream o.1 o.2 == some i

/-- The owner's stream reference for the stream's slot becomes absent (R81). -/
def State.dropReference (s : State) (i : Nat) : State :=
  match s.ownerOf i with
  | some (t, k) => s.modStation t fun e => { e with refs := e.refs.set k none }
  | none => s

/-- The lane charged with a stream's reserved share has its sum lowered by it, and the share becomes 0 (R77, R151). -/
def State.dropShare (s : State) (i : Nat) : State :=
  let r := s.reservedOf i
  (s.setShareSum r.lane (s.shareSum r.lane - r.amount)).setReserved i Reserved.none

/-- The removal of a stream, in the order of R81: reference, lists, demand, share, and then RETIRING or FREE. -/
def State.removeStream (s : State) (i : Nat) : State :=
  let s := ((s.dropReference i).leaveLists i).clearDemand i
  let s := (s.modStream i fun e => { e with credit := 0, relist := false }).dropShare i
  (s.modStream i fun e => { e with state := .retiring }).settleStream i

/-- The release of a station, in the order of R50; RELEASED is reported with the cause. -/
def State.release (s : State) (t : Nat) (cause : Cause) : State :=
  let s := { s with stations := { s.stations with joinMap := s.stations.joinMap.filter (fun m => m.2 ≠ t) } }
  let s := s.forgetQuarantine t
  let s := s.modStation t fun e => { e with addr := none }
  let s := (s.streamsOf t).foldl State.removeStream s
  let s := s.modStation t fun e =>
    { e with refs := Vector.replicate 8 none, admitted := false, paused := false, laneSet := 0, state := .releasing }
  ((s.leaveDue t).settleStation t).raise (.released t cause)

/-- Every stream of the station has its demand cleared (R43, R46, R70). -/
def State.clearStreams (s : State) (t : Nat) : State := (s.streamsOf t).foldl State.clearDemand s

/-- Every stream of the station leaves every service list (R48). -/
def State.unlistStreams (s : State) (t : Nat) : State := (s.streamsOf t).foldl State.leaveLists s

/-- Entry into LAPSED from READY, ACTIVE or HELD (R70). -/
def State.enterLapsed (s : State) (t : Nat) (cause : Cause) : State :=
  let s := s.modStation t fun e => { e with state := .lapsed, attempts := 0, misses := 0 }
  let s := ((s.tidyRefs t).clearStreams t).setDueNow t
  s.raise (.lapsed t (s.station t).home cause)

/-- The station's outstanding mark becomes absent if it still names the plan (R61). -/
def State.clearMark (s : State) (l : LaneId) (q : PlanSeq) (t : Nat) : State :=
  if (s.station t).outstanding = some (l, q) then s.modStation t fun e => { e with outstanding := none } else s

/-- The same, read with a check first: the reads of the Plan Link (R152). -/
def State.clearMarkLink (l : LaneId) (q : PlanSeq) (s : State) (t : Nat) : State :=
  (s.checkStation .link t).clearMark l q t

end Sys2Proof.Machine
end

