-- ==== Sys2Proof/Machine/Alignment.lean ====
section
/-! DEFINITION. The Alignment Unit: the first correction (R62), results and no-shows (R63 to R69), verdicts (R68, R69, R71)
and no-shows (R72, R73), and the meaning of the maintenance due event (R58). -/

namespace Sys2Proof.Machine

/-- A RESULT or NO_SHOW is discarded and counted (R19). -/
def State.discardResult (s : State) (l : LaneId) : State :=
  s.count l fun k => { k with resultsDiscarded := raiseBy 1 k.resultsDiscarded }

/-- The first correction of a join or rejoin, from the lane's setup and the result (R62). -/
def firstOffset (u : LaneSetup) (et : Int) : Nat := (clampI 0 Config.offsetMax (u.Od + et)).toNat
def firstPower (u : LaneSetup) (ep : Int) : Nat := (clampI u.Pmin u.Pmax (((u.Pmin + u.Pmax) / 2 : Nat) - ep)).toNat

/-! ### No-shows -/

/-- A no-show of a station on a turn of lane `l` (R72, R73). A paused station, and one in any other state, is left as it is. -/
def State.noShow (s : State) (l : LaneId) (t : Nat) : State :=
  let e := s.station t
  let aMax := s.align.settings.aMax
  if e.paused then s
  else
    match e.state with
    | .aligning | .lapsed =>
      let n := min (e.attempts + 1) aMax
      let s := s.modStation t fun e => { e with attempts := n }
      if aMax ≤ n then (s.raise (.alignFailed t l .noShows)).release t .alignFailed else s.setDueNow t
    | .ready | .active | .held =>
      let n := min (e.misses + 1) aMax
      let s := s.modStation t fun e => { e with misses := n }
      if aMax ≤ n then s.enterLapsed t .misses else s
    | .free | .quarantined | .releasing => s

/-! ### Verdicts -/

/-- A verdict puts a CORRECTION notice at the tail of the turn's lane and sets verdict waiting (R67). -/
def State.giveVerdict (s : State) (l : LaneId) (t : Nat) (dt dp : Int) (v : Verdict) : State :=
  (s.pushNotice l (.correction t dt dp v)).modStation t fun e => { e with verdictWaiting := true }

/-- A DONE verdict, by the station's state at the measurement (R68). -/
def State.verdictDone (s : State) (l : LaneId) (t : Nat) : State :=
  let e := s.station t
  let later := s.now + tu s.align.settings.miTu
  let s := s.modStation t fun e => { e with attempts := 0, misses := 0 }
  match e.state with
  | .aligning =>
    let st := if e.admitted then StationState.active else StationState.ready
    let s := (s.modStation t fun e => { e with state := st }).setDueLater t later
    let s := if st = .active then (s.tidyRefs t).relistStreams t else s
    s.raise (.aligned t l st e.O e.Pw)
  | .ready | .active | .held => s.setDueLater t later
  | .lapsed => (s.modStation t fun e => { e with state := .aligning }).setDueNow t
  | .free | .quarantined | .releasing => s

/-- An ABORT verdict, by the station's state (R71). -/
def State.verdictAbort (s : State) (l : LaneId) (t : Nat) : State :=
  match (s.station t).state with
  | .aligning | .lapsed => (s.raise (.alignFailed t l .notConverged)).release t .alignFailed
  | .ready | .active | .held => s.enterLapsed t .notConverged
  | .free | .quarantined | .releasing => s

/-- The measurement has converged: both errors as measured lie within tolerance (R66). -/
def converged (p : PartSettings) (et ep : Int) : Bool := et.natAbs ≤ p.tolT && ep.natAbs ≤ p.tolP

/-- The offset and the level a measurement leads to (R65). -/
def correctedOffset (O : Nat) (et : Int) : Nat := (clampI 0 Config.offsetMax (O + et)).toNat
def correctedPower (u : LaneSetup) (Pw : Nat) (ep : Int) : Nat := (clampI u.Pmin u.Pmax (Pw - ep)).toNat

/-- A measurement that found room in the notice queue: corrections applied, convergence judged, verdict given (R65 to R69,
R71). -/
def State.measure (s : State) (l : LaneId) (t : Nat) (et ep : Int) : State :=
  let e := s.station t
  let O := correctedOffset e.O et
  let Pw := correctedPower (s.setupOf l) e.Pw ep
  let aMax := s.align.settings.aMax
  let s := s.modStation t fun e => { e with O := O, Pw := Pw }
  let dt : Int := (O : Int) - e.O
  let dp : Int := (Pw : Int) - e.Pw
  if converged s.align.settings et ep then (s.giveVerdict l t dt dp .done).verdictDone l t
  else
    let n := min (e.attempts + 1) aMax
    let s := s.modStation t fun e => { e with attempts := n }
    if aMax ≤ n then (s.giveVerdict l t dt dp .abort).verdictAbort l t
    else (s.giveVerdict l t dt dp .cont).setDueNow t

/-! ### Records about alignment turns -/

/-- The history entry of the lane with the plan sequence (R30). -/
def State.historyEntry (s : State) (l : LaneId) (q : PlanSeq) : Option HistEntry := (s.lane l).history.find? (fun h => h.seq == q)

/-- Change the history entry of the lane with the plan sequence. -/
def State.modHistory (s : State) (l : LaneId) (q : PlanSeq) (f : HistEntry → HistEntry) : State :=
  s.modLane l fun v => { v with history := v.history.map fun h => if h.seq = q then f h else h }

/-- The turn of the tag in the entry is marked resolved. -/
def HistEntry.resolve (t : Nat) (h : HistEntry) : HistEntry :=
  { h with turns := h.turns.map fun a => if a.tag = t then { a with resolved := true } else a }

/-- What a record of an alignment turn brings: nothing heard, or et, ep and quality. -/
abbrev TurnReport := Option (Int × Int × Nat)

/-- A passing record is a no-show or a measurement (R64). -/
def State.takeTurnReport (s : State) (l : LaneId) (t : Nat) (r : TurnReport) : State :=
  match r with
  | none => s.noShow l t
  | some (et, ep, quality) =>
    if quality < s.align.settings.qMin then s.noShow l t
    else if Config.notices ≤ (s.lane l).notices.length then (s.discardResult l).noShow l t
    else s.measure l t et ep

/-- A tagged RESULT or a NO_SHOW for the tag, matched to the entry of the lane with the plan sequence (R63). -/
def State.alignmentRecord (s : State) (l : LaneId) (h : HistEntry) (t : Nat) (r : TurnReport) : State :=
  match h.turns.find? (fun a => a.tag == t) with
  | none => s.discardResult l
  | some a =>
    if a.resolved then s.discardResult l
    else
      let s := s.checkStation .record t
      let st := (s.station t).state
      let s := (s.modHistory l h.seq (HistEntry.resolve t)).clearMark l h.seq t
      if st.kept then s.takeTurnReport l t r else s.discardResult l

/-! ### The maintenance schedule (R58) -/

/-- Plant time reaches the station's maintenance due: it joins the due queue if its due time is still that value and its
state qualifies; its entry is read with a check. -/
def State.becomeDue (t : Nat) (s : State) : State :=
  let e := s.station t
  if e.due = s.now ∧ e.state.kept ∧ t ∉ s.align.dueQueue then
    let s := s.checkStation .other t
    if (s.station t).state.kept then s.joinDue t else s
  else s

/-- MAINTENANCE_DUE (R58). Away from the due time, or for a station that does not qualify, nothing changes. -/
def execMaintenanceDue (tag : BitVec 12) (s : State) : Host.Outcome State Fault Refusal :=
  s.unlessReset (State.becomeDue tag.toNat)

end Sys2Proof.Machine
end

