-- ==== Sys2Proof/Machine/Frames.lean ====
section
/-! DEFINITION. The Control Port: frames, delivery, the attention gate, and the taking of a request (R162 to R170). -/

namespace Sys2Proof.Machine

/-- The attention line: asserted while the gate is OPEN or LATCHED and a record waits, never while the reset pin is asserted
(R169). -/
def State.attention (s : State) : Bool :=
  !s.resetPin && (s.port.gate = .opened || s.port.gate = .latched) && !(s.port.replies.isEmpty && s.port.reports.isEmpty)

/-- The outgoing record of a frame that starts now: the head reply, else the head report, else the empty marker (R162). -/
def State.chooseOutgoing (s : State) : Outgoing :=
  match s.port.replies, s.port.reports with
  | r :: _, _ => .reply r
  | [], r :: _ => .report r
  | [], [] => .empty

/-- What the part shifts out over `n` bytes: the empty marker while the reset pin is asserted, and otherwise the outgoing record of
the frame in progress; between frames it shifts nothing (R162). -/
def State.shiftedOut (s : State) (n : Nat) : List Byte :=
  if s.resetPin then Outgoing.empty.shifted n
  else
    match s.port.frame with
    | some o => o.shifted n
    | none => []

/-- Setting the gate at the delivery of a carried-out ATTENTION_ARM's reply (R170). -/
def State.armGate (s : State) (h : BitVec 16) : State :=
  let p := s.port
  if h = 0 then { s with port := { p with gate := .opened, holdoff := none } }
  else if h = 65535 then { s with port := { p with gate := .suspended, holdoff := none } }
  else { s with port := { p with gate := .holdoff, holdoff := some (s.now + tu (h.toNat * Config.tuPerHoldoff)) } }

/-- The body of a reply to an ATTENTION_ARM that was carried out (R163, R170). -/
def Reply.arming (r : Reply) : Option (BitVec 16) :=
  match r.outcome, r.body with
  | .done, .attentionArm h => some h
  | _, _ => none

/-- A removed report with the overrun mark set: OVERRUN takes the freed place, the mark and the count are cleared (R168). -/
def State.reportOverrun (s : State) : State :=
  if s.port.overrun then
    { s with port := { s.port with overrun := false, lost := 0 } }.raise (.overrunReports s.port.lost)
  else s

/-- Steps 1 and 2 of a frame end, for a frame of `n` bytes: delivery and arming (R163). -/
def State.deliver (s : State) (o : Outgoing) (n : Nat) : State :=
  if n < o.bytes.length then s
  else
    match o with
    | .empty => s
    | .reply r =>
      let s := { s with port := { s.port with replies := s.port.replies.tail } }
      match r.arming with
      | some h => s.armGate h
      | none => s
    | .report _ => { s with port := { s.port with reports := s.port.reports.tail } }.reportOverrun

/-- Step 4 of a frame end: the gate (R163). -/
def State.gateStep (s : State) : State :=
  let empty := s.port.replies.isEmpty && s.port.reports.isEmpty
  let gate :=
    match s.port.gate with
    | .latched => if empty then Gate.suspended else .latched
    | .opened => if empty then Gate.opened else .latched
    | g => g
  { s with port := { s.port with gate := gate } }

/-- The frame in progress is over. -/
def State.closeFrame (s : State) : State := { s with port := { s.port with frame := none } }

/-- A frame end of a frame that brought `n` bytes, with `take` for its step 3 (R163). Without a frame in progress there is no
frame end, and nothing changes (log entry 6). -/
def State.frameEnd (n : Nat) (take : State → State) (s : State) : State :=
  match s.port.frame with
  | none => s
  | some o => ((take (s.deliver o n)).gateStep).closeFrame

/-- A reply joins the tail of the reply queue, with the part state as it stands now (R165, R167). -/
def State.queueReply (s : State) (kind reference : Byte) (o : ReqOutcome) (body : ReplyBody) : State :=
  let r : Reply := { kind := kind, reference := reference, outcome := o, part := s.port.part, body := body }
  { s with port := { s.port with replies := s.port.replies ++ [r], gate := s.port.gate.latch } }

/-- What a request's own rule gives: the state after it, the outcome, and the reply's body. -/
structure Answer where
  state : State
  outcome : ReqOutcome
  body : ReplyBody
  deriving DecidableEq, Repr

/-- A refusal: the request is not carried out (R164). -/
def refuse (o : ReqOutcome) (s : State) : Answer := ⟨s, o, .empty⟩

/-- DONE, with a body. -/
def carryOut (body : ReplyBody) (s : State) : Answer := ⟨s, .done, body⟩

/-- Check 4 of R164: a request that meets a full reply queue is lost, and OVERRUN reported; otherwise it goes on. -/
def State.unlessLost (kind reference : Byte) (go : State → State) (s : State) : State :=
  if Config.replies ≤ s.port.replies.length then s.raise (.overrunRequest kind reference) else go s

/-- Reply to a request with its own rule's answer. -/
def State.answer (kind reference : Byte) (own : State → Answer) (s : State) : State :=
  let a := own s
  a.state.queueReply kind reference a.outcome a.body

/-- The taking of a well-formed request other than RESTART: checks 4, 6 and 7 of R164, with the part states of R165. -/
def State.takeRequest (kind reference : Byte) (own : State → Answer) : State → State :=
  State.unlessLost kind reference fun s =>
    match s.port.part with
    | .starting => s.queueReply kind reference .busy .empty
    | .testing => if kind = kindFetch then s.answer kind reference own else s.queueReply kind reference .busy .empty
    | .config | .running => s.answer kind reference own

/-- A request command: the frame end that brings the request of the kind, whose body is `len` bytes (R163, R164). -/
def State.request (kind : Byte) (len : Nat) (req : Req) (own : State → Answer) (s : State) : Host.Outcome State Fault Refusal :=
  s.unlessReset (State.frameEnd (4 + len + req.extra) (State.takeRequest kind req.reference own))

end Sys2Proof.Machine
end

