-- ==== Sys2Proof/Machine/Claims.lean ====
section
/-! DEFINITION. The Claim Controllers: the target update (R101, R105 to R107), tallies (R103, R104), missing tallies (R108),
backoff exponents (R110), and the meaning of CLAIM_SETUP (R99, R100). -/

namespace Sys2Proof.Machine

/-- The gain numerator gn of a gain setting (R99). -/
def gainNumerator (gain : Nat) : Nat :=
  match gain with
  | 0 => 1 | 1 => 2 | 2 => 4 | _ => 6

/-- The boost multiplier m of a growth boost setting (R99). -/
def boostMultiplier (boost : Nat) : Nat :=
  match boost with
  | 0 => 1 | 1 => 2 | 2 => 3 | 3 => 4 | 4 => 6 | 5 => 8 | 6 => 16 | _ => 1

/-- With growth boost setting 7, T is held against every decrease (R99). -/
def holdsDecreases (boost : Nat) : Bool := boost == 7

/-- The ceiling Ce: min(C_max, floor(S / b)), raised to C_min (R101). -/
def claimCeiling (c : ClaimSettings) (u : LaneSetup) : Nat := max c.cMin (min c.cMax (u.S / u.b))

/-- The estimate of contenders, clamped into C_min..Ce (R105). -/
def claimEstimate (c : ClaimSettings) (ce clean collided : Nat) : Nat := clampN c.cMin ce (clean + (5 * collided + 1) / 2)

/-- The new T from an estimate B: growth by R106, shrinking by R107. -/
def claimMove (c : ClaimSettings) (ce B T : Nat) : Nat :=
  let gn := gainNumerator c.gain
  if T < B then min (T + ceilDiv ((B - T) * gn * boostMultiplier c.boost) 8) ce
  else if B < T then
    if holdsDecreases c.boost then T else max (T - max 1 ((T - B) * gn / 8)) c.cMin
  else T

/-- The update of a used tally (R105): held back below the sample gate. -/
def claimUpdate (c : ClaimSettings) (u : LaneSetup) (T offered clean collided : Nat) : Nat :=
  if offered < c.Gs then T
  else claimMove c (claimCeiling c u) (claimEstimate c (claimCeiling c u) clean collided) T

/-- The backoff end: max(bs, min(10, ceil_log2(T) + 1)) (R110). -/
def backoffEnd (bs T : Nat) : Nat := max bs (min 10 (ceilLog2 T + 1))

/-- A used tally's steps 2 to 4: missing count 0, OPEN left with CLAIM_MODE, T updated (R104, R111). -/
def State.useTally (s : State) (l : LaneId) (offered clean collided : Nat) : State :=
  let c := s.claim l
  let T := claimUpdate c.settings (s.setupOf l) (c.target.getD 0) offered clean collided
  let s := s.setClaim l { c with mode := .tracking, target := some T, missing := 0 }
  if c.mode = .opening then s.raise (.claimMode l .tracking T .firstTally) else s

/-- A TALLY matched to a history entry of the lane (R103, R104). -/
def State.takeTally (s : State) (l : LaneId) (h : HistEntry) (offered clean collided : Nat) : State :=
  if h.slots = 0 ∨ h.tallyArrived ∨ offered ≠ h.slots then
    s.count l fun k => { k with talliesDiscarded := raiseBy 1 k.talliesDiscarded }
  else (s.modHistory l h.seq fun h => { h with tallyArrived := true }).useTally l offered clean collided

/-- The Claim Controller enters OPEN from TRACKING: T is C_open, and CLAIM_MODE is reported (R108, R100). -/
def State.enterOpen (s : State) (l : LaneId) : State :=
  let c := s.claim l
  (s.setClaim l { c with mode := .opening, target := some c.settings.cOpen }).raise
    (.claimMode l .opening c.settings.cOpen .missing)

/-- A missing tally (R108). -/
def State.missingTally (s : State) (l : LaneId) : State :=
  let c := s.claim l
  let n := min (c.missing + 1) c.settings.K
  let s := s.setClaim l { c with missing := n }
  if c.mode = .tracking ∧ c.settings.K ≤ n then s.enterOpen l else s

/-! ### CLAIM_SETUP -/

/-- The settings in force after the clamps of R99. -/
def claimClamp (b : ClaimSetupBody) : ClaimSettings :=
  let cMin := clampN 1 64 b.cMin.toNat
  let cMax := clampN cMin 512 b.cMax.toNat
  { cMin := cMin, cMax := cMax, cOpen := clampN cMin cMax b.cOpen.toNat, gain := b.gain.toNat, boost := b.boost.toNat,
    Gs := clampN 1 16 b.Gs.toNat, K := clampN 3 6 b.K.toNat, bs := clampN 0 9 b.bs.toNat }

/-- The Claim Controller after its settings are replaced, before an OPEN entry the new K may cause (R100). With T absent the
mode and the missing-tally count are left as they are. -/
def Claim.replace (c : Claim) (n : ClaimSettings) : Claim :=
  match c.target with
  | none => { c with settings := n }
  | some T =>
    let target := match c.mode with | .opening => n.cOpen | .tracking => clampN n.cMin n.cMax T
    { mode := c.mode, target := some target, missing := min c.missing n.K, settings := n }

/-- The carrying out of a CLAIM_SETUP (R100). -/
def State.replaceClaim (s : State) (l : LaneId) (n : ClaimSettings) : State :=
  let c := (s.claim l).replace n
  let s := s.setClaim l c
  if c.mode = .tracking ∧ c.target.isSome ∧ c.missing = n.K then s.enterOpen l else s

/-- CLAIM_SETUP's own rule (R99, R100). -/
def claimSetupRule (b : ClaimSetupBody) (s : State) : Answer :=
  match laneOfByte b.lane with
  | none => refuse .badValue s
  | some l =>
    if 3 < b.gain.toNat ∨ 7 < b.boost.toNat then refuse .badValue s
    else
      let s := s.replaceClaim l (claimClamp b)
      let c := s.claim l
      carryOut (.claimSetup c.settings c.mode c.target c.missing) s

/-- CLAIM_SETUP (R99, R100). -/
def execClaimSetup (req : Req) (body : ClaimSetupBody) (s : State) : Host.Outcome State Fault Refusal :=
  s.request kindClaimSetup 12 req (claimSetupRule body)

end Sys2Proof.Machine
end

