-- ==== Sys2Proof/Machine/LaneOps.lean ====
section
/-! DEFINITION. The shared steps of lanes and plans: eviction and clearing of the history (R9, R11), emptying a notice queue
(R12), home lanes (R52), a plan's restoration at a drop (R90, R146), a lane leaving LIVE, reaching IDLE (R16) or entering
FAULTED (R17, R18), and a drop of the lane. -/

namespace Sys2Proof.Machine

/-! ### The plan history -/

/-- An unresolved turn of an evicted entry is resolved as a no-show, and the station's mark is cleared with it (R9). -/
def State.evictTurn (l : LaneId) (q : PlanSeq) (s : State) (a : AlignTurn) : State :=
  if a.resolved then s else (State.clearMarkLink l q s a.tag).noShow l a.tag

/-- What follows from an entry evicted from the lane's history, in the order of R9. DESIGN CHOICE: of several unresolved turns,
the manual does not say which no-show comes first; they are taken in turn order, and so are the reports and freed tags that follow
from them (log entry 25). -/
def State.evict (s : State) (l : LaneId) (h : HistEntry) : State :=
  let s := s.lowerRefs h.stations h.streams
  let s := h.turns.foldl (State.evictTurn l h.seq) s
  if 0 < h.slots ∧ h.tallyArrived = false then s.missingTally l else s

/-- An entry joins the tail of the lane's history; the oldest of more than 4 is evicted (R8). -/
def State.pushHistory (s : State) (l : LaneId) (h : HistEntry) : State :=
  let old := (s.lane l).history ++ [h]
  if Config.history < old.length then
    match old with
    | [] => s
    | first :: rest => (s.modLane l fun v => { v with history := rest }).evict l first
  else s.modLane l fun v => { v with history := old }

/-- An entry cleared from the history: unresolved turns are released, references fall, nothing is counted (R11). DESIGN CHOICE: R11
gives these effects no order; they are taken as it lists them, the turns in turn order (log entry 25). -/
def State.releaseEntry (l : LaneId) (s : State) (h : HistEntry) : State :=
  let s := (h.turns.filter (fun a => a.resolved = false)).foldl (fun s a => State.clearMarkLink l h.seq s a.tag) s
  s.lowerRefs h.stations h.streams

/-- Clearing the history (R11). DESIGN CHOICE: the manual does not say which entry is cleared first; they are cleared oldest first,
and the tags that their references free join the free tag list in that order (log entry 25). -/
def State.clearHistory (s : State) (l : LaneId) : State :=
  (s.lane l).history.foldl (State.releaseEntry l) (s.modLane l fun v => { v with history := [] })

/-! ### The notice queue -/

/-- The station of a notice lost by emptying: with no CORRECTION notice for it left in any queue, its verdict-waiting flag is
cleared and it is due now (R12). The lookup reads the entry with a check (log entry 9). -/
def State.loseNotice (s : State) (n : Notice) : State :=
  let t := n.body.tag
  let s := s.checkStation .other t
  if (s.station t).state.kept ∧ s.correctionWaits t = false then
    (s.modStation t fun e => { e with verdictWaiting := false }).setDueNow t
  else s

/-- Emptying the notice queue (R12). DESIGN CHOICE: the manual does not say whose station is looked up first; the notices are taken
in queue order from the head, and so are the QUARANTINED reports of lookups that find a fault (log entry 25). -/
def State.emptyNotices (s : State) (l : LaneId) : State :=
  (s.lane l).notices.foldl State.loseNotice (s.modLane l fun v => { v with notices := [] })

/-! ### Home lanes (R52) -/

/-- A station whose home lane is not LIVE moves to the lowest LIVE lane of its set, or its maintenance is paused. -/
def State.rehome (s : State) (t : Nat) : State :=
  match s.lowestLive (s.station t).laneSet with
  | some l => s.modStation t fun e => { e with home := l }
  | none => s.modStation t fun e => { e with paused := true }

/-- A station is handled when its home lane leaves LIVE: read with a check, then moved or paused. -/
def State.rehomeChecked (s : State) (t : Nat) : State :=
  let s := s.checkStation .other t
  if (s.station t).state.kept then s.rehome t else s

/-- Every station whose home lane `l` has left LIVE is handled, in tag order. DESIGN CHOICE: R52 gives none (log entry 25). -/
def State.rehomeAll (s : State) (l : LaneId) : State :=
  (Table.indices (fun e => e.state.kept && e.home == l && !e.paused) s.stations.entries).foldl State.rehomeChecked s

/-- Paused maintenance resumes on lane `l`: the station is due now. -/
def State.resumeOn (s : State) (t : Nat) (l : LaneId) : State :=
  (s.modStation t fun e => { e with paused := false, home := l }).setDueNow t

def State.resumeChecked (l : LaneId) (s : State) (t : Nat) : State :=
  let s := s.checkStation .other t
  if (s.station t).state.kept then s.resumeOn t l else s

/-- LANE_START of a lane resumes the paused stations whose lane set holds it, in tag order. DESIGN CHOICE: R14 and R52 give none (log
entry 25). -/
def State.resumeAll (s : State) (l : LaneId) : State :=
  (Table.indices (fun e => e.state.kept && e.paused && inSet e.laneSet l) s.stations.entries).foldl (State.resumeChecked l) s

/-! ### Plans given back -/

/-- A DATA turn's stream is read with a check, and its G falls by the cover, stopping at 0 (R90, R152). -/
def State.givePlanned (s : State) (d : DataTurn) : State :=
  (s.checkStream .link d.stream).modStream d.stream fun e => { e with G := e.G - d.cover }

/-- The key that orders streams by owner tag and, for one station, by stream slot. -/
def State.slotKey (s : State) (i : Nat) : Nat :=
  match (s.stream i).owner with
  | some (t, k) => t * 8 + k.val
  | none => 0

/-- An index takes its place in a list ordered by a key. -/
def insertBy (key : Nat → Nat) (i : Nat) : List Nat → List Nat
  | [] => [i]
  | j :: rest => if key i ≤ key j then i :: j :: rest else j :: insertBy key i rest

/-- The streams of each station in slot order 0 to 7 (R92), the stations in tag order (log entry 25). -/
def State.slotOrder (s : State) (l : List Nat) : List Nat := l.foldr (insertBy s.slotKey) []

/-- A stream whose A has risen from 0 since the state `old` joins its lists, if it meets the condition of R91 (R90). -/
def State.rejoinRaised (old s : State) (i : Nat) : State :=
  if (old.stream i).avail = 0 ∧ s.listable i then s.joinLists i else s

/-- The planned bytes of DATA turns are given back (R90), and then the streams whose A that has raised from 0 join their lists, a
station's streams in slot order (R92). DESIGN CHOICE: the streams are read in the order of the turns' placement (log entry 25). -/
def State.restoreData (s : State) (data : List DataTurn) : State :=
  let given := data.foldl State.givePlanned s
  (given.slotOrder (data.map (·.stream))).foldl s.rejoinRaised given

/-- The tags of a plan's ALIGN turns, in turn order (R131). -/
def alignTags (turns : List Turn) : List Nat := (turns.filter (fun t => t.kind = .align)).map (·.tag)

/-- The marks of a dropped plan: its notices lose them, and its stations' outstanding marks are cleared (R146). DESIGN CHOICE: the
manual does not say which station is read first; they are read in turn order (log entry 25). -/
def State.clearMarks (s : State) (p : PlanRecord) : State :=
  let s := s.mapNotices p.lane fun n => if n.mark = some p.seq then { n with mark := none } else n
  (alignTags p.turns).foldl (State.clearMarkLink p.lane p.seq) s

/-- A plan dropped on entry of its lane into FAULTED, its planned bytes given back: marks and references are undone with no
count, slip or report (R18). -/
def State.dropQuietly (s : State) (p : Plan) : State := (s.clearMarks p.record).lowerRefs p.stations p.streams

/-! ### A lane leaving LIVE -/

/-- The lane's spans leave the waiting set with no count (R6). -/
def State.withdraw (s : State) (l : LaneId) : State :=
  { s with builder := { s.builder with waiting := s.builder.waiting.filter (fun w => w.lane ≠ l) } }

/-- The lane enters FAULTED (R18); LANE_FAULTED gives its drop count and the queued plans dropped. The entry is one event, so the
planned bytes of all its queued plans are given back together, and their streams join their lists in slot order (R92). DESIGN CHOICE:
R18 gives the effects of the entry no order but that of the reports; they are taken as it lists them (log entry 25). -/
def State.enterFaulted (s : State) (l : LaneId) : State :=
  let s := (s.setLaneState l .faulted).withdraw l
  let mine := s.link.queue.filter (fun p => p.record.lane = l)
  let s := { s with link := { s.link with queue := s.link.queue.filter (fun p => p.record.lane ≠ l) } }
  let s := mine.foldl State.dropQuietly (s.restoreData (mine.flatMap (·.data)))
  let s := ((s.clearHistory l).emptyNotices l).rehomeAll l
  s.raise (.laneFaulted l (s.lane l).drops mine.length)

/-- The lane reaches IDLE from DRAINING: history cleared, notice queue emptied, span count 0, LANE_STOPPED (R16). DESIGN CHOICE: R16
gives these no order; they are taken as it lists them (log entry 25). -/
def State.reachIdle (s : State) (l : LaneId) : State :=
  let s := ((s.setLaneState l .idle).clearHistory l).emptyNotices l
  (s.modLane l fun v => { v with nextSpan := 0 }).raise (.laneStopped l)

/-- A DRAINING lane with no queued plan and no build in progress reaches IDLE (R16). -/
def State.settleDraining (s : State) (l : LaneId) : State :=
  if (s.lane l).state = .draining ∧ s.queuedOf l = 0 ∧ s.building l = false then s.reachIdle l else s

/-- A drop is counted: plans dropped and the consecutive-drop count, with 15 its ceiling (R17, R19). -/
def State.countDrop (s : State) (l : LaneId) : State :=
  s.modLane l fun v =>
    { v with drops := satAdd Config.dropMax v.drops 1,
             counters := { v.counters with dropped := raiseBy 1 v.counters.dropped } }

/-- A drop that has raised the count of a LIVE lane to Dl faults it (R17). -/
def State.faultIfDue (s : State) (l : LaneId) : State :=
  if (s.lane l).state = .live ∧ (s.setupOf l).Dl ≤ (s.lane l).drops then s.enterFaulted l else s

end Sys2Proof.Machine
end

