-- ==== Sys2Proof/Machine/Control.lean ====
section
/-! DEFINITION. The pins and the control link's own commands: plant time (R1), the reset pin and the clearing (R172), frames
without a carried-out request (R162 to R164), PART_SETUP (R56, R57, R166), SCRUB (R157), MEMORY_TEST (R159), ATTENTION_ARM
(R170), FETCH (R165), RESTART (R173) and the holdoff expiry (R169). -/

namespace Sys2Proof.Machine

/-! ### Pins -/

/-- PLANT_TIME_COUNT (R1). The due queue's members that joined before are no longer members of the present plant time. -/
def execPlantTimeCount (s : State) : Host.Outcome State Fault Refusal :=
  s.unlessReset fun s => { s with now := s.now + 1, align := { s.align with dueFresh := [] } }

/-- The part at its reset values, in STARTING with a start cause; the waiting commands and the framer's ready input are not the
part's (R172, R173). -/
def State.restarted (s : State) (cause : Cause) (pin : Bool) : State :=
  { State.reset with
    pending := s.pending, ready := s.ready, resetPin := pin, port := { ControlPort.reset with startCause := cause } }

/-- RESET_ASSERT (R172): every block is held at its reset values while the pin is asserted. -/
def execResetAssert (s : State) : Host.Outcome State Fault Refusal := .next (s.restarted .powerOn true)

/-- RESET_RELEASE (R172): STARTING with the start cause POWER_ON. A pin that is not asserted cannot be released. -/
def execResetRelease (s : State) : Host.Outcome State Fault Refusal :=
  .next (if s.resetPin then s.restarted .powerOn false else s)

/-- The clearing of STARTING completes: the tables hold their reset contents, and STARTED is reported in CONFIG (R172). -/
def State.completeClearing (s : State) : State :=
  match s.port.part with
  | .starting =>
    let s := s.clearTables
    { s with port := { s.port with part := .config } }.raise (.started s.port.startCause)
  | .config | .running | .testing => s

/-- STARTING_CLEARING_COMPLETES (R172). -/
def execStartingClearingCompletes (s : State) : Host.Outcome State Fault Refusal := s.unlessReset State.completeClearing

/-! ### Frames -/

/-- The frame's outgoing record is chosen; a frame in progress goes on (R162). -/
def State.beginFrame (s : State) : State :=
  match s.port.frame with
  | some _ => s
  | none => { s with port := { s.port with frame := some s.chooseOutgoing } }

/-- FRAME_START (R162). -/
def execFrameStart (s : State) : Host.Outcome State Fault Refusal := s.unlessReset State.beginFrame

/-- NONE: a frame end that carries no request (R163, check 2 of R164). -/
def execNoneFrame (extra : Nat) (s : State) : Host.Outcome State Fault Refusal :=
  s.unlessReset (State.frameEnd (4 + extra) id)

/-- HEADER_INCOMPLETE: a frame end with fewer bytes than a header (R163, check 1 of R164). -/
def execHeaderIncomplete (bytes : Fin 4) (s : State) : Host.Outcome State Fault Refusal :=
  s.unlessReset (State.frameEnd bytes.val id)

/-- The request record of a frame of `frameBytes` bytes is malformed: unknown kind, wrong length or body cut short (check 5 of
R164). -/
def requestMalformed (kind : Byte) (bodyLen frameBytes : Nat) : Bool :=
  kind != 0 && decide (4 ≤ frameBytes) && (bodyLength kind.toNat != some bodyLen || decide (frameBytes < 4 + bodyLen))

/-- MALFORMED_REQUEST (checks 4 and 5 of R164). A header that is not malformed brings no request here. -/
def execMalformedRequest (kind reference : Byte) (bodyLen : BitVec 16) (frameBytes : Nat) (s : State) :
    Host.Outcome State Fault Refusal :=
  s.unlessReset <| State.frameEnd frameBytes <|
    if requestMalformed kind bodyLen.toNat frameBytes then
      State.unlessLost kind reference fun s => s.queueReply kind reference .malformed .empty
    else id

/-! ### PART_SETUP -/

/-- The settings in force after the clamps of R56, the maintenance interval in tu. -/
def partClamp (b : PartSetupBody) : PartSettings :=
  { tolT := b.tolT.toNat, tolP := clampN 0 31 b.tolP.toNat, aMax := clampN 3 6 b.aMax.toNat, qMin := clampN 0 63 b.qMin.toNat,
    miTu := clampN 100 30000 b.miMs.toNat * Config.tuPerMs, creditUnit := clampN 64 4096 b.creditUnit.toNat }

/-- A station whose attempt or miss count is above the limit has it set to the limit (R57). -/
def State.capCounts (n : Nat) (s : State) (t : Nat) : State :=
  s.modStation t fun e => { e with attempts := min e.attempts n, misses := min e.misses n }

/-- The six values replace the part-wide settings; where A_max is lowered, the counts above the new limit are set to it (R57,
R166). -/
def State.setPart (s : State) (p : PartSettings) : State :=
  let lowered := p.aMax < s.align.settings.aMax
  let s := { s with align := { s.align with settings := p } }
  if lowered then
    (Table.indices (fun e => decide (p.aMax < e.attempts) || decide (p.aMax < e.misses)) s.stations.entries).foldl
      (State.capCounts p.aMax) s
  else s

/-- PART_SETUP's own rule (R166). -/
def partSetupRule (b : PartSetupBody) (s : State) : Answer :=
  if s.port.part = .running then refuse .badState s
  else carryOut (.partSetup (partClamp b)) (s.setPart (partClamp b))

/-- PART_SETUP (R56, R57, R166). -/
def execPartSetup (req : Req) (body : PartSetupBody) (s : State) : Host.Outcome State Fault Refusal :=
  s.request kindPartSetup 8 req (partSetupRule body)

/-! ### SCRUB and MEMORY_TEST -/

/-- SCRUB's own rule (R157). -/
def scrubRule (s : State) : Answer :=
  if s.integrity.scrub.isSome then refuse .busy s
  else
    let c : Scrub := { pos := .station 1, quarantined := 0, rewritten := 0, waiting := 0 }
    carryOut .empty { s with integrity := { s.integrity with scrub := some c } }

/-- SCRUB (R157). -/
def execScrub (req : Req) (s : State) : Host.Outcome State Fault Refusal := s.request kindScrub 0 req scrubRule

/-- MEMORY_TEST's own rule (R159); the test begins with the first word of STATION (R160). -/
def memoryTestRule (s : State) : Answer :=
  if s.port.part ≠ .config then refuse .badState s
  else if s.integrity.scrub.isSome ∨ s.builder.draft.isSome then refuse .busy s
  else if s.stations.freeTags.length < Config.stations ∨ s.freeStreams < Config.streams then refuse .notEmpty s
  else
    carryOut .empty
      { s with integrity := { s.integrity with memTest := some { next := some (testStart .station), words := [] } },
               port := { s.port with part := .testing } }

/-- MEMORY_TEST (R159, R160). -/
def execMemoryTest (req : Req) (s : State) : Host.Outcome State Fault Refusal := s.request kindMemoryTest 0 req memoryTestRule

/-! ### ATTENTION_ARM, FETCH and RESTART -/

/-- ATTENTION_ARM (R170): the gate is set at the delivery of the reply, which carries h. -/
def execAttentionArm (req : Req) (h : BitVec 16) (s : State) : Host.Outcome State Fault Refusal :=
  s.request kindAttentionArm 2 req (carryOut (.attentionArm h))

/-- FETCH (R165): it changes no state. -/
def execFetch (req : Req) (s : State) : Host.Outcome State Fault Refusal := s.request kindFetch 0 req (carryOut .empty)

/-- RESTART (check 3 of R164, R173): taken whatever the queues hold and in every part state, with no reply. -/
def execRestart (req : Req) (s : State) : Host.Outcome State Fault Refusal :=
  s.unlessReset (State.frameEnd (4 + req.extra) fun s => s.restarted .restart false)

/-! ### The holdoff expiry -/

/-- Plant time reaches the holdoff expiry: OPEN, and at once LATCHED if a record waits (R169). -/
def State.endHoldoff (s : State) : State :=
  if s.port.gate = .holdoff ∧ s.port.holdoff = some s.now then
    let gate := if s.port.replies.isEmpty && s.port.reports.isEmpty then Gate.opened else .latched
    { s with port := { s.port with gate := gate, holdoff := none } }
  else s

/-- HOLDOFF_EXPIRY (R169). -/
def execHoldoffExpiry (s : State) : Host.Outcome State Fault Refusal := s.unlessReset State.endHoldoff

end Sys2Proof.Machine
end

