-- ==== Sys2Proof/WellFormed.lean ====
section
/-! DEFINITION. Well-formed commands: the operands a command of each row can carry on this hardware. A frame that brings a
complete request of a known kind is that request's command and no MALFORMED_REQUEST, a record of at least 8 bytes is no short
frame, and so on. `exec` is total and answers for ill-formed commands too. -/

namespace Sys2Proof

/-- A frame on a receiver port holds a record when its 8 common bytes are complete (R21, R177). -/
def RecordHead.complete (h : RecordHead) : Bool := 8 ≤ h.frameLen

/-- The operands fit the row. -/
def Instr.wellFormed : Instr → Bool
  | .plantTimeCount => true
  | .resetAssert => true
  | .resetRelease => true
  | .startingClearingCompletes => true
  | .frameStart => true
  | .noneFrame _ => true
  | .headerIncomplete _ => true
  | .malformedRequest kind _ bodyLen frameBytes => Machine.requestMalformed kind bodyLen.toNat frameBytes
  | .laneSetup _ _ => true
  | .laneStart _ _ => true
  | .laneStop _ _ => true
  | .laneRead _ _ => true
  | .claimSetup _ _ => true
  | .partSetup _ _ => true
  | .stationAdmit _ _ => true
  | .stationHold _ _ => true
  | .stationResume _ _ => true
  | .stationRelease _ _ => true
  | .stationRead _ _ _ => true
  | .streamAdd _ _ _ _ => true
  | .streamChange _ _ _ => true
  | .streamRemove _ _ => true
  | .streamRead _ _ _ => true
  | .scrub _ => true
  | .memoryTest _ => true
  | .attentionArm _ _ => true
  | .fetch _ => true
  | .restart _ => true
  | .receptionFrameShort _ frameLen => decide (frameLen < 8)
  | .receptionUnknownKind head kind => head.complete && (kind == 0 || decide (5 < kind.toNat))
  | .bid head _ _ _ _ _ => head.complete
  | .tally head _ _ _ _ => head.complete
  | .resultTagged head form _ _ _ _ => head.complete && form != 2
  | .resultAddressForm head _ _ _ _ => head.complete
  | .noShow head _ => head.complete
  | .mark head => head.complete
  | .spanHandover _ => true
  | .spanSkip _ _ => true
  | .buildBegin => true
  | .stageA1CadencedWalk => true
  | .stageA2AlignmentTurns => true
  | .stageA3OpenWindow => true
  | .stageBClaimFloor => true
  | .stageCVisit => true
  | .stageDLeftoverClaims => true
  | .pendingSelection => true
  | .buildCompletion => true
  | .planExpiry _ _ => true
  | .framerReady _ => true
  | .transmitStart => true
  | .transmitEnd => true
  | .coveredUntilExpiry _ => true
  | .maintenanceDue tag => tag != 0
  | .holdoffExpiry => true
  | .scrubStep => true
  | .memoryTestEnd mismatch => mismatch.all Machine.mismatchPossible

end Sys2Proof
end

