-- ==== Sys2Proof/Decode.lean ====
section
/-! DEFINITION. From bits to commands. No row of the opcode table carries bits, so `decodeTableWord` reads none. What the links
do encode are request frames (R162, R175) and reception records (R177): `requestOfFrame` and `recordOfFrame` read the command
from a frame's bytes, total on any bytes, and `requestFrame` and `recordFrame` write the bytes of a command. -/

namespace Sys2Proof

/-- The command a word spells by the table's bits. No row of spec/opcode_table.json gives bits, so no word spells one. -/
def decodeTableWord (_nbits _w : Nat) : Option Instr := none

/-! ### Fields, most significant byte first (R174) -/

/-- The byte at a position; a byte that did not come reads 0. -/
def byteAt (bs : List Byte) (i : Nat) : Byte := bs.getD i 0
def word2At (bs : List Byte) (i : Nat) : BitVec 16 := byteAt bs i ++ byteAt bs (i + 1)
def word4At (bs : List Byte) (i : Nat) : BitVec 32 := word2At bs i ++ word2At bs (i + 2)
def word6At (bs : List Byte) (i : Nat) : BitVec 48 := word2At bs i ++ word4At bs (i + 2)

def bytes2 (w : BitVec 16) : List Byte := [w.extractLsb' 8 8, w.extractLsb' 0 8]
def bytes4 (w : BitVec 32) : List Byte := bytes2 (w.extractLsb' 16 16) ++ bytes2 (w.extractLsb' 0 16)
def bytes6 (w : BitVec 48) : List Byte := bytes2 (w.extractLsb' 32 16) ++ bytes4 (w.extractLsb' 0 32)

/-! ### Request frames (R162, R175) -/

/-- The body of LANE_SETUP. -/
def laneSetupOf (b : List Byte) : LaneSetupBody :=
  { lane := byteAt b 0, Lq := word2At b 1, S := word2At b 3, bpq := byteAt b 5, P := byteAt b 6, b := byteAt b 7,
    Ld := word4At b 8, Ba := word2At b 12, Wm := word4At b 14, Df := word4At b 18, Ao := byteAt b 22, Wo := word2At b 23,
    Ua := byteAt b 25, Umax := byteAt b 26, Od := word4At b 27, Pmin := byteAt b 31, Pmax := byteAt b 32, Rc := word2At b 33,
    Dl := byteAt b 35 }

def LaneSetupBody.bytes (u : LaneSetupBody) : List Byte :=
  [u.lane] ++ bytes2 u.Lq ++ bytes2 u.S ++ [u.bpq, u.P, u.b] ++ bytes4 u.Ld ++ bytes2 u.Ba ++ bytes4 u.Wm ++ bytes4 u.Df ++
    [u.Ao] ++ bytes2 u.Wo ++ [u.Ua, u.Umax] ++ bytes4 u.Od ++ [u.Pmin, u.Pmax] ++ bytes2 u.Rc ++ [u.Dl]

/-- The body of CLAIM_SETUP. -/
def claimSetupOf (b : List Byte) : ClaimSetupBody :=
  { lane := byteAt b 0, cMin := word2At b 1, cMax := word2At b 3, cOpen := word2At b 5, gain := byteAt b 7, boost := byteAt b 8,
    Gs := byteAt b 9, K := byteAt b 10, bs := byteAt b 11 }

def ClaimSetupBody.bytes (c : ClaimSetupBody) : List Byte :=
  [c.lane] ++ bytes2 c.cMin ++ bytes2 c.cMax ++ bytes2 c.cOpen ++ [c.gain, c.boost, c.Gs, c.K, c.bs]

/-- The body of PART_SETUP. -/
def partSetupOf (b : List Byte) : PartSetupBody :=
  { tolT := byteAt b 0, tolP := byteAt b 1, aMax := byteAt b 2, qMin := byteAt b 3, miMs := word2At b 4, creditUnit := word2At b 6 }

def PartSetupBody.bytes (p : PartSetupBody) : List Byte :=
  [p.tolT, p.tolP, p.aMax, p.qMin] ++ bytes2 p.miMs ++ bytes2 p.creditUnit

/-- The body of STATION_ADMIT. -/
def admitOf (b : List Byte) : AdmitBody := { tag := word2At b 0, laneSet := byteAt b 2, clearStreams := byteAt b 3 }

def AdmitBody.bytes (a : AdmitBody) : List Byte := bytes2 a.tag ++ [a.laneSet, a.clearStreams]

/-- The fields STREAM_ADD and STREAM_CHANGE share, from kind onward. -/
def streamFieldsOf (b : List Byte) (i : Nat) : StreamFields :=
  { kind := byteAt b i, cls := byteAt b (i + 1), weight := byteAt b (i + 2), maxTurn := byteAt b (i + 3),
    fragmentable := byteAt b (i + 4), laneSet := byteAt b (i + 5), lane := byteAt b (i + 6), c := word2At b (i + 7),
    z := byteAt b (i + 9), phase := word2At b (i + 10), jitter := word2At b (i + 12) }

def StreamFields.bytes (f : StreamFields) : List Byte :=
  [f.kind, f.cls, f.weight, f.maxTurn, f.fragmentable, f.laneSet, f.lane] ++ bytes2 f.c ++ [f.z] ++ bytes2 f.phase ++
    bytes2 f.jitter

/-- The request of a kind, from its body; none for a kind that is none of the requests. -/
def requestOfBody (kind : Nat) (req : Req) (b : List Byte) : Option Instr :=
  match kind with
  | 1 => some (.laneSetup req (laneSetupOf b))
  | 2 => some (.laneStart req (byteAt b 0))
  | 3 => some (.laneStop req (byteAt b 0))
  | 4 => some (.laneRead req (byteAt b 0))
  | 5 => some (.claimSetup req (claimSetupOf b))
  | 6 => some (.partSetup req (partSetupOf b))
  | 7 => some (.stationAdmit req (admitOf b))
  | 8 => some (.stationHold req (word2At b 0))
  | 9 => some (.stationResume req (word2At b 0))
  | 10 => some (.stationRelease req (word2At b 0))
  | 11 => some (.stationRead req (word2At b 0) (byteAt b 2))
  | 12 => some (.streamAdd req (word2At b 0) (byteAt b 2) (streamFieldsOf b 3))
  | 13 => some (.streamChange req (word2At b 0) (streamFieldsOf b 2))
  | 14 => some (.streamRemove req (word2At b 0))
  | 15 => some (.streamRead req (word2At b 0) (byteAt b 2))
  | 16 => some (.attentionArm req (word2At b 0))
  | 17 => some (.scrub req)
  | 18 => some (.memoryTest req)
  | 19 => some (.restart req)
  | 20 => some (.fetch req)
  | _ => none

/-- The command of a frame's end, from all the bytes the processor sent in the frame (R162, R164, R175). -/
def requestOfFrame (bytes : List Byte) : Instr :=
  match bytes with
  | [] => .headerIncomplete 0
  | [_] => .headerIncomplete 1
  | [_, _] => .headerIncomplete 2
  | [_, _, _] => .headerIncomplete 3
  | kind :: reference :: hi :: lo :: rest =>
    let len : BitVec 16 := hi ++ lo
    if kind = 0 then .noneFrame rest.length
    else if Machine.requestMalformed kind len.toNat (4 + rest.length) then
      .malformedRequest kind reference len (4 + rest.length)
    else
      (requestOfBody kind.toNat { reference := reference, extra := rest.length - len.toNat } rest).getD
        (.malformedRequest kind reference len (4 + rest.length))

/-- A frame that brings a request of the kind: header, body, and the bytes beyond it, written as zeros. -/
def frameBytes (kind : Byte) (req : Req) (body : List Byte) : List Byte :=
  [kind, req.reference] ++ bytes2 (BitVec.ofNat 16 body.length) ++ body ++ List.replicate req.extra 0

/-- The bytes of a frame whose end is the command; none for a command that is no frame end. -/
def requestFrame : Instr → Option (List Byte)
  | .noneFrame extra => some (List.replicate (4 + extra) 0)
  | .headerIncomplete n => some (List.replicate n.val 0)
  | .malformedRequest kind reference len n => some ([kind, reference] ++ bytes2 len ++ List.replicate (n - 4) 0)
  | .laneSetup req b => some (frameBytes 1 req b.bytes)
  | .laneStart req l => some (frameBytes 2 req [l])
  | .laneStop req l => some (frameBytes 3 req [l])
  | .laneRead req l => some (frameBytes 4 req [l])
  | .claimSetup req b => some (frameBytes 5 req b.bytes)
  | .partSetup req b => some (frameBytes 6 req b.bytes)
  | .stationAdmit req b => some (frameBytes 7 req b.bytes)
  | .stationHold req t => some (frameBytes 8 req (bytes2 t))
  | .stationResume req t => some (frameBytes 9 req (bytes2 t))
  | .stationRelease req t => some (frameBytes 10 req (bytes2 t))
  | .stationRead req t n => some (frameBytes 11 req (bytes2 t ++ [n]))
  | .streamAdd req t k f => some (frameBytes 12 req (bytes2 t ++ [k] ++ f.bytes))
  | .streamChange req i f => some (frameBytes 13 req (bytes2 i ++ f.bytes))
  | .streamRemove req i => some (frameBytes 14 req (bytes2 i))
  | .streamRead req i n => some (frameBytes 15 req (bytes2 i ++ [n]))
  | .attentionArm req h => some (frameBytes 16 req (bytes2 h))
  | .scrub req => some (frameBytes 17 req [])
  | .memoryTest req => some (frameBytes 18 req [])
  | .restart req => some (frameBytes 19 req [])
  | .fetch req => some (frameBytes 20 req [])
  | _ => none

/-! ### Reception records (R21, R177) -/

/-- The command of a frame on a receiver port. -/
def recordOfFrame (port : LaneId) (b : List Byte) : Instr :=
  if b.length < 8 then .receptionFrameShort port b.length
  else
    let head : RecordHead := { port := port, planSeq := word2At b 2, time := word4At b 4, frameLen := b.length }
    match (byteAt b 0).toNat with
    | 1 => .bid head (word2At b 8) (byteAt b 10) (byteAt b 11) (word4At b 12) (byteAt b 16)
    | 2 => .tally head (word2At b 8) (word2At b 10) (word2At b 12) (word2At b 14)
    | 3 =>
      if byteAt b 8 = 2 then .resultAddressForm head (word6At b 12) (word2At b 18) (byteAt b 20) (byteAt b 21)
      else .resultTagged head (byteAt b 8) (word2At b 10) (word2At b 18) (byteAt b 20) (byteAt b 21)
    | 4 => .noShow head (word2At b 8)
    | 5 => .mark head
    | _ => .receptionUnknownKind head (byteAt b 0)

/-- The common bytes of a record. -/
def RecordHead.bytes (h : RecordHead) (kind : Byte) : List Byte := [kind, 0] ++ bytes2 h.planSeq ++ bytes4 h.time

/-- The bytes of a record whose frame has its kind's length, and of the frames with no owner; none for other commands. Pad bytes
are written 0. -/
def recordFrame : Instr → Option (LaneId × List Byte)
  | .receptionFrameShort port n => some (port, List.replicate n 0)
  | .receptionUnknownKind h kind => some (h.port, h.bytes kind ++ List.replicate (h.frameLen - 8) 0)
  | .bid h w slot seq amount source =>
    some (h.port, h.bytes 1 ++ bytes2 w ++ [slot, seq] ++ bytes4 amount ++ [source, 0, 0, 0])
  | .tally h offered clean collided empty =>
    some (h.port, h.bytes 2 ++ bytes2 offered ++ bytes2 clean ++ bytes2 collided ++ bytes2 empty)
  | .resultTagged h form w et ep quality =>
    some (h.port, h.bytes 3 ++ [form, 0] ++ bytes2 w ++ List.replicate 6 0 ++ bytes2 et ++ [ep, quality])
  | .resultAddressForm h addr et ep quality =>
    some (h.port, h.bytes 3 ++ [2, 0, 0, 0] ++ bytes6 addr ++ bytes2 et ++ [ep, quality])
  | .noShow h w => some (h.port, h.bytes 4 ++ bytes2 w ++ [0, 0])
  | .mark h => some (h.port, h.bytes 5)
  | _ => none

end Sys2Proof
end

