-- ==== Sys2Proof/Machine/Apportion.lean ====
section
/-! DEFINITION. Plan apportionment on a draft alone: free runs and first fit (R113), the cap on the turn list (R114), and the
arithmetic of each stage (R118 to R128). Nothing here reads or writes the tables. -/

namespace Sys2Proof.Machine

/-! ### Turns and free runs (R113) -/

/-- The offset just past a turn. -/
def Turn.stop (t : Turn) : Nat := t.start + t.len

/-- A turn takes its place in the turn list, which is ordered by start offset. -/
def insertTurn (t : Turn) : List Turn → List Turn
  | [] => [t]
  | u :: rest => if t.start ≤ u.start then t :: u :: rest else u :: insertTurn t rest

/-- The free runs from offset `pos` on, each a place and a length, in order of place. -/
def freeRunsFrom (S pos : Nat) : List Turn → List (Nat × Nat)
  | [] => if pos < S then [(pos, S - pos)] else []
  | t :: rest => (if pos < t.start then [(pos, t.start - pos)] else []) ++ freeRunsFrom S (max pos t.stop) rest

/-- The free runs of a span of S quanta. -/
def freeRuns (S : Nat) (turns : List Turn) : List (Nat × Nat) := freeRunsFrom S 0 turns

/-- First fit: the start of the lowest-placed free run of at least `g` quanta. -/
def firstFit (S : Nat) (turns : List Turn) (g : Nat) : Option Nat :=
  ((freeRuns S turns).find? (fun r => g ≤ r.2)).map (·.1)

/-- The larger of two runs, the first among equals. -/
def largerRun (a b : Nat × Nat) : Nat × Nat := if a.2 < b.2 then b else a

/-- The largest free run, the lowest-placed one among several of that length (R125); length 0 where there is none. -/
def largestRun (S : Nat) (turns : List Turn) : Nat × Nat := (freeRuns S turns).foldl largerRun (0, 0)

/-- The quanta `p..p+z−1` are all free. -/
def isFree (turns : List Turn) (p z : Nat) : Bool := turns.all fun t => decide (t.stop ≤ p ∨ p + z ≤ t.start)

/-- The turn list is full (R114). -/
def Draft.full (d : Draft) : Bool := Config.turns ≤ d.turns.length

/-- A turn is placed. Every turn covers at least one quantum: no setting gives a turn of length 0 (R4, R99, R119, R125). -/
def Draft.place (d : Draft) (t : Turn) : Draft := if t.len = 0 then d else { d with turns := insertTurn t d.turns }

/-- The draft names a station, a stream (R117). -/
def Draft.nameStation (d : Draft) (t : Nat) : Draft := { d with namedStations := addName t d.namedStations }
def Draft.nameStream (d : Draft) (i : Nat) : Draft := { d with namedStreams := addName i d.namedStreams }

/-! ### Stage A1: cadenced turns -/

/-- A stream's N placed against the span before its walk: kept within the span or ahead of it, else brought forward by whole
cadences (R118). -/
def alignNominal (S : Nat) (startQ N : Quantum) (c : Nat) : Quantum :=
  if (N - startQ).toNat < 48 * S + c then N
  else N + tu (ceilDiv (startQ - N).toNat c * c)

/-- The offsets of the nominal starts that lie within the span (R119). -/
def nominalStarts (S : Nat) (startQ N : Quantum) (c : Nat) : List Nat :=
  let d := (N - startQ).toNat
  List.range' d (ceilDiv (S - d) c) c

/-- N after the nominal starts within the span have been taken (R119). -/
def walkedNominal (S : Nat) (startQ N : Quantum) (c : Nat) : Quantum :=
  N + tu ((nominalStarts S startQ N c).length * c)

/-- A nominal start in the walk's order: its offset and its stream index. -/
abbrev NominalStart := Nat × Nat

/-- The order of the walk: by offset, the lower stream index first where two have the same offset (R119). -/
def startBefore (a b : NominalStart) : Bool := a.1 < b.1 || (a.1 == b.1 && a.2 ≤ b.2)

def insertStart (a : NominalStart) : List NominalStart → List NominalStart
  | [] => [a]
  | b :: rest => if startBefore a b then a :: b :: rest else b :: insertStart a rest

def sortStarts (l : List NominalStart) : List NominalStart := l.foldr insertStart []

/-- The lowest offset in n..n+j at which z free quanta lie within the span (R119). -/
def cadencePlace (d : Draft) (n j z : Nat) : Option Nat :=
  (List.range' n (j + 1)).find? fun p => decide (p + z ≤ d.setup.S) && isFree d.turns p z

/-- What the walk needs of a stream with an ACTIVE owner. -/
structure CadenceAsk where
  tag : Nat
  slot : Nat
  z : Nat
  jitter : Nat
  deriving DecidableEq, Repr

/-- One nominal start: its CADENCE turn, or a slip (R114, R119). -/
def Draft.takeStart (d : Draft) (ask : CadenceAsk) (n i : Nat) : Draft :=
  match (if d.full then none else cadencePlace d n ask.jitter ask.z) with
  | some p =>
    let t : Turn := { kind := .cadence, tag := ask.tag, slot := ask.slot, start := p, len := ask.z, slots := 0, floor := false }
    ((({ d with cadence := d.cadence ++ [i] }).place t).nameStation ask.tag).nameStream i
  | none => { d with slips := d.slips + 1, lowestSlip := some (min i (d.lowestSlip.getD i)) }

/-! ### Stages A2, A3 and B -/

/-- One alignment candidate (R121). -/
def Draft.placeAlign (d : Draft) (tag : Nat) : Draft :=
  match (if d.full then none else firstFit d.setup.S d.turns d.setup.Ua) with
  | some p => d.place { kind := .align, tag := tag, slot := 0, start := p, len := d.setup.Ua, slots := 0, floor := false }
  | none => d

/-- Stage A2 (R121). -/
def Draft.alignTurns (d : Draft) : Draft := { d.candidates.foldl Draft.placeAlign d with stage := .openWindow }

/-- The span is one of those whose plans have an open window (R122). -/
def openWindowDue (Ao : Nat) (k : BitVec 32) : Bool := 0 < Ao && k.toNat % Ao == 0

/-- Stage A3 (R122). -/
def Draft.openWindowTurn (d : Draft) : Draft :=
  let d := { d with stage := .floor }
  match (if openWindowDue d.setup.Ao d.index && !d.full then firstFit d.setup.S d.turns d.setup.Wo else none) with
  | some p =>
    { d with openWindow := true }.place
      { kind := .opening, tag := 0, slot := 0, start := p, len := d.setup.Wo, slots := 0, floor := false }
  | none => d

/-- A floor window of `n` claim slots at offset `p` (R123). -/
def floorWindow (b p n : Nat) : Turn :=
  { kind := .claim, tag := 0, slot := 0, start := p, len := n * b, slots := n, floor := true }

/-- The floor split over the free runs in order of place: from each, as many whole slots as it holds and are still wanted
(R123). `n` is the number of slots still to be placed. -/
def Draft.splitFloor (d : Draft) (n : Nat) : List (Nat × Nat) → Draft
  | [] => d
  | (p, r) :: rest =>
    let k := min (r / d.setup.b) n
    if k = 0 ∨ d.full then d.splitFloor n rest
    else (d.place (floorWindow d.setup.b p k)).splitFloor (n - k) rest

/-- The stage that follows stage B or a visit: stage C ends with its last visit, with no free run of P + 1 quanta, and with a
full turn list (R127). -/
def Draft.visitsEnded (d : Draft) : Bool :=
  d.visits.isEmpty || d.full || !(freeRuns d.setup.S d.turns).any (fun r => d.setup.P + 1 ≤ r.2)

def Draft.toVisits (d : Draft) : Draft := { d with stage := if d.visitsEnded then .leftover else .visits }

/-- Stage B (R123). -/
def Draft.claimFloor (d : Draft) : Draft :=
  let d :=
    match firstFit d.setup.S d.turns (d.target * d.setup.b) with
    | some p => if d.full then d else d.place (floorWindow d.setup.b p d.target)
    | none => d.splitFloor d.target (freeRuns d.setup.S d.turns)
  d.toVisits

/-! ### Stage C: the arithmetic of a visit (R125, R126) -/

/-- The credit after step 1. -/
def visitCredit (credit : Int) (weight unit : Nat) : Int := min (credit + (weight * unit : Nat)) Config.creditMax

/-- The size sought, step 2. -/
def visitSize (u : LaneSetup) (A : Nat) (credit : Int) (maxTurn : Nat) : Int :=
  min (A : Int) (min credit (((clampN (u.P + 1) 255 maxTurn - u.P) * u.bpq : Nat) : Int))

/-- Where the DATA turn goes and how long it is, steps 3 to 7; none when the stream is skipped. -/
def visitPlace (d : Draft) (x : Int) (fragmentable : Bool) : Option (Nat × Nat) :=
  if x ≤ 0 then none
  else
    let g := d.setup.P + ceilDiv x.toNat d.setup.bpq
    match firstFit d.setup.S d.turns g with
    | some p => some (p, g)
    | none =>
      let run := largestRun d.setup.S d.turns
      if fragmentable && decide (d.setup.P + 1 ≤ run.2) then some run else none

/-- The cover of a DATA turn of `g` quanta (R126). -/
def coverOf (u : LaneSetup) (A g : Nat) : Nat := min A ((g - u.P) * u.bpq)

/-- The placement of a DATA turn in the draft and its accounts (R126). -/
def Draft.placeData (d : Draft) (i tag slot p g cover : Nat) : Draft :=
  let t : Turn := { kind := .data, tag := tag, slot := slot, start := p, len := g, slots := 0, floor := false }
  ((({ d with data := d.data ++ [DataTurn.mk i cover] }).place t).nameStation tag).nameStream i

/-! ### Stage D (R128) -/

/-- The claim slots offered: the sum of the slot counts of the CLAIM turns. -/
def slotsOffered (turns : List Turn) : Nat := (turns.map fun t => if t.kind = .claim then t.slots else 0).sum

/-- The turn is a floor window that ends at offset `p`. -/
def Turn.floorEndsAt (p : Nat) (t : Turn) : Bool := t.floor && t.stop == p

/-- A floor window ending at `p` grows by `n` slots. -/
def Turn.grow (b p n : Nat) (t : Turn) : Turn :=
  if t.floorEndsAt p then { t with len := t.len + n * b, slots := t.slots + n } else t

/-- One free run: merged into the floor window it follows, or made a claim window, or left idle. -/
def Draft.takeRun (d : Draft) (run : Nat × Nat) : Draft :=
  let n := min (run.2 / d.setup.b) (Config.claimSlots - slotsOffered d.turns)
  if n = 0 then d
  else if d.turns.any (Turn.floorEndsAt run.1) then { d with turns := d.turns.map (Turn.grow d.setup.b run.1 n) }
  else if d.full then d
  else d.place { kind := .claim, tag := 0, slot := 0, start := run.1, len := n * d.setup.b, slots := n, floor := false }

/-- Stage D (R128). -/
def Draft.leftoverClaims (d : Draft) : Draft :=
  { (freeRuns d.setup.S d.turns).foldl Draft.takeRun d with stage := .notices }

/-! ### What the build hands on (R131, R132) -/

/-- The notices of the plan: the queue notices taken, then the PENDING notices (R130). -/
def Draft.planNotices (d : Draft) : List PlanNotice :=
  d.notices.map .queued ++ d.pendings.map fun c => .pending c.tag c.slot

/-- A turn's station, where it carries one (R53). -/
def Turn.station (t : Turn) : Option Nat :=
  match t.kind with
  | .data | .cadence | .align => some t.tag
  | .opening | .claim => none

def PlanNotice.tag : PlanNotice → Nat
  | .queued b => b.tag
  | .pending t _ => t

/-- The list with each element once, at its first place. -/
def eachOnce (l : List Nat) : List Nat := l.foldl (fun acc n => addName n acc) []

/-- The plan record and its accounts. -/
def Draft.plan (d : Draft) (now : Time) : Plan :=
  { record :=
      { lane := d.lane, seq := planSeqOf d.index, startQ := d.startQ, start := d.start, S := d.setup.S, Lq := d.setup.Lq,
        ack := d.ack, bs := d.bs, be := d.be, b := d.setup.b, turns := d.turns, notices := d.planNotices },
    data := d.data, cadence := d.cadence, pendings := d.pendings.map (·.stream),
    stations := eachOnce (d.turns.filterMap Turn.station ++ d.planNotices.map PlanNotice.tag),
    streams := eachOnce (d.data.map (·.stream) ++ d.cadence ++ d.pendings.map (·.stream)),
    openWindow := d.openWindow, slips := d.slips, lowestSlip := d.lowestSlip,
    expired := decide (marginOf d.start now < d.setup.Df) }

end Sys2Proof.Machine
end

