-- ==== Sys2Proof/Machine/LaneRequests.lean ====
section
/-! DEFINITION. The meanings of LANE_SETUP, LANE_START, LANE_STOP and LANE_READ (R3, R4, R14, R15, R20), and of the lane's timed
events: the span handover (R6) and the end of the covered span (R7). -/

namespace Sys2Proof.Machine

/-! ### LANE_SETUP -/

/-- The first failing check of the fields, in table order (R3); `none` when none fails. `shares` is the lane's share sum. -/
def setupRefusal (b : LaneSetupBody) (shares : Nat) : Option ReqOutcome :=
  if b.Lq.toNat < 16 ∨ 512 < b.Lq.toNat then some .badValue
  else if b.S.toNat < 128 ∨ 2048 < b.S.toNat ∨ 262144 < b.S.toNat * b.Lq.toNat then some .badValue
  else if b.bpq.toNat < 4 ∨ 128 < b.bpq.toNat then some .badValue
  else if 8 < b.P.toNat then some .badValue
  else if b.b.toNat < 1 ∨ 8 < b.b.toNat then some .badValue
  else if b.Ld.toNat < 1600 ∨ 80000 < b.Ld.toNat then some .badValue
  else if b.Ba.toNat < 160 ∨ 16000 < b.Ba.toNat then some .badValue
  else if b.Pmax.toNat < b.Pmin.toNat then some .badValue
  else if 768 < b.Rc.toNat then some .badValue
  else if b.Rc.toNat < shares then some .noRoom
  else none

/-- The eighteen values in force after the clamps, in the order of R4. -/
def setupClamp (b : LaneSetupBody) : LaneSetup :=
  let Wm := clampN 0 b.Ld.toNat b.Wm.toNat
  { Lq := b.Lq.toNat, S := b.S.toNat, bpq := b.bpq.toNat, P := b.P.toNat, b := b.b.toNat, Ld := b.Ld.toNat, Ba := b.Ba.toNat,
    Wm := Wm,
    Df := clampN 0 Wm b.Df.toNat,
    Ao := b.Ao.toNat,
    Wo := clampN 8 (min 512 (b.S.toNat / 2)) b.Wo.toNat,
    Ua := clampN (b.P.toNat + 2) 64 b.Ua.toNat,
    Umax := clampN 0 16 b.Umax.toNat,
    Od := clampN 0 1048575 b.Od.toNat,
    Pmin := b.Pmin.toNat, Pmax := b.Pmax.toNat, Rc := b.Rc.toNat,
    Dl := clampN 1 15 b.Dl.toNat }

/-- LANE_SETUP's own rule (R3, R4). -/
def laneSetupRule (b : LaneSetupBody) (s : State) : Answer :=
  match laneOfByte b.lane with
  | none => refuse .badValue s
  | some l =>
    if (s.lane l).state ≠ .idle then refuse .badState s
    else
      match setupRefusal b (s.shareSum l) with
      | some o => refuse o s
      | none => carryOut (.laneSetup (setupClamp b)) (s.modLane l fun v => { v with setup := some (setupClamp b) })

/-- LANE_SETUP (R3, R4). -/
def execLaneSetup (req : Req) (body : LaneSetupBody) (s : State) : Host.Outcome State Fault Refusal :=
  s.request kindLaneSetup 36 req (laneSetupRule body)

/-! ### LANE_START -/

/-- The IN_USE cadenced streams of the lane, in index order (R14). -/
def State.cadencedOf (s : State) (l : LaneId) : List Nat :=
  Table.indices (fun e => e.state == .inUse && e.kind == .cadenced && e.lane == l) s.streams.entries

/-- The start of a lane at t0 = now, in one step (R14). -/
def State.startLane (s : State) (l : LaneId) : State :=
  let u := s.setupOf l
  let t0 := s.now
  let s := (s.clearHistory l).emptyNotices l
  let s := s.modLane l fun v =>
    { v with start0 := t0 + tu (2 * (u.Ld + u.Ba)), nextSpan := 0, drops := 0, late := false, counters := LaneCounters.zero }
  let c := s.claim l
  let s := s.setClaim l { c with mode := .opening, target := some c.settings.cOpen, missing := 0 }
  let s := s.setRx l { RxPort.reset with watermark := t0 }
  let s := (s.cadencedOf l).foldl (fun s i => s.modStream i fun e => { e with N := tu e.phase }) s
  (s.resumeAll l).setLaneState l .live

/-- LANE_START's own rule (R14). -/
def laneStartRule (lane : Byte) (s : State) : Answer :=
  match laneOfByte lane with
  | none => refuse .badValue s
  | some l =>
    let v := s.lane l
    if v.state = .live ∨ v.state = .draining then refuse .badState s
    else if v.state = .idle ∧ v.setup = none then refuse .badState s
    else if s.building l then refuse .busy s
    else if v.coveredUntil.isSome then refuse .busy s
    else
      let t := s.startLane l
      carryOut (.laneStart s.now (t.lane l).start0) t

/-- LANE_START (R14). -/
def execLaneStart (req : Req) (lane : Byte) (s : State) : Host.Outcome State Fault Refusal :=
  s.request kindLaneStart 1 req (laneStartRule lane)

/-! ### LANE_STOP -/

/-- LANE_STOP from LIVE: DRAINING, waiting spans withdrawn, home lanes moved, and IDLE at once with nothing in flight (R15). -/
def State.stopLive (s : State) (l : LaneId) : State :=
  (((s.setLaneState l .draining).withdraw l).rehomeAll l).settleDraining l

/-- LANE_STOP from FAULTED: IDLE, span count 0, LANE_STOPPED (R15). -/
def State.stopFaulted (s : State) (l : LaneId) : State :=
  ((s.setLaneState l .idle).modLane l fun v => { v with nextSpan := 0 }).raise (.laneStopped l)

/-- LANE_STOP's own rule (R15). -/
def laneStopRule (lane : Byte) (s : State) : Answer :=
  match laneOfByte lane with
  | none => refuse .badValue s
  | some l =>
    match (s.lane l).state with
    | .live => carryOut .empty (s.stopLive l)
    | .faulted => carryOut .empty (s.stopFaulted l)
    | .idle | .draining => refuse .badState s

/-- LANE_STOP (R15). -/
def execLaneStop (req : Req) (lane : Byte) (s : State) : Host.Outcome State Fault Refusal :=
  s.request kindLaneStop 1 req (laneStopRule lane)

/-! ### LANE_READ -/

/-- A history entry as LANE_READ returns it (R20). -/
def HistEntry.view (h : HistEntry) : HistView :=
  { seq := h.seq, start := h.start, slots := h.slots, tallyArrived := h.tallyArrived, turns := h.turns.length,
    unresolved := (h.turns.filter (fun a => a.resolved = false)).length, openWindow := h.openWindow, joins := h.joins }

/-- What LANE_READ returns of a lane (R20). -/
def State.laneView (s : State) (l : LaneId) : LaneView :=
  let v := s.lane l
  let c := s.claim l
  { lane := l, state := v.state, setup := v.setup, start0 := v.start0, nextSpan := v.nextSpan, coveredUntil := v.coveredUntil,
    drops := v.drops, late := v.late, queued := s.queuedOf l, building := s.building l,
    waiting := (s.builder.waiting.filter (fun w => w.lane = l)).length,
    history := v.history.map HistEntry.view, notices := v.notices.length,
    marked := (v.notices.filter (fun n => n.mark.isSome)).length,
    mode := c.mode, target := c.target, missing := c.missing, counters := v.counters, rx := s.rx l }

/-- LANE_READ's own rule (R20). -/
def laneReadRule (lane : Byte) (s : State) : Answer :=
  match laneOfByte lane with
  | none => refuse .badValue s
  | some l => carryOut (.laneRead (s.laneView l)) s

/-- LANE_READ (R20). -/
def execLaneRead (req : Req) (lane : Byte) (s : State) : Host.Outcome State Fault Refusal :=
  s.request kindLaneRead 1 req (laneReadRule lane)

/-! ### Timed events of a lane -/

/-- Span k of the lane, as the waiting set holds it (R5, R136). -/
def State.spanOf (s : State) (l : LaneId) (k : BitVec 32) : WaitingSpan :=
  let u := s.setupOf l
  let start := spanStart (s.lane l).start0 u.S u.Lq k
  { lane := l, index := k, start := start, buildPoint := start - tu (u.Ld + u.Ba) }

/-- The next span of a LIVE lane is handed over at its build point (R6). -/
def State.handOver (l : LaneId) (s : State) : State :=
  let w := s.spanOf l (s.lane l).nextSpan
  if (s.lane l).state = .live ∧ s.now = w.buildPoint then
    let s := { s with builder := { s.builder with waiting := s.builder.waiting ++ [w] } }
    s.modLane l fun v => { v with nextSpan := v.nextSpan + 1 }
  else s

/-- SPAN_HANDOVER (R6). Away from the build point, or with the lane not LIVE, nothing is handed over. -/
def execSpanHandover (lane : LaneId) (s : State) : Host.Outcome State Fault Refusal := s.unlessReset (State.handOver lane)

/-- The covered-until time becomes absent when plant time reaches it (R7). -/
def State.endCovered (l : LaneId) (s : State) : State :=
  if (s.lane l).coveredUntil = some s.now then s.modLane l fun v => { v with coveredUntil := none } else s

/-- COVERED_UNTIL_EXPIRY (R7). -/
def execCoveredUntilExpiry (lane : LaneId) (s : State) : Host.Outcome State Fault Refusal := s.unlessReset (State.endCovered lane)

/-! ### A waiting span skipped by its expiry (R138) -/

/-- The skip of a span: a drop of its lane, reported as SKIPPED, which may fault the lane (R138, R147). -/
def State.skipSpan (s : State) (w : WaitingSpan) : State :=
  let m := marginOf w.start s.now
  let s := { s with builder := { s.builder with waiting := s.builder.waiting.filter (fun v => v ≠ w) } }
  let s := s.countDrop w.lane
  (s.raise (.dropped w.lane (planSeqOf w.index) .skipped m (s.lane w.lane).drops)).faultIfDue w.lane

/-- Plant time reaches span start − Df + 1 while the span waits (R138). -/
def State.expireSpan (l : LaneId) (k : BitVec 32) (s : State) : State :=
  match s.builder.waiting.find? (fun w => w.lane == l && w.index == k) with
  | none => s
  | some w => if s.now = w.start - tu (s.setupOf l).Df + 1 then s.skipSpan w else s

/-- SPAN_SKIP (R138). -/
def execSpanSkip (lane : LaneId) (span : BitVec 32) (s : State) : Host.Outcome State Fault Refusal :=
  s.unlessReset (State.expireSpan lane span)

end Sys2Proof.Machine
end

