-- ==== Sys2Proof/Machine/Build.lean ====
section
/-! DEFINITION. The Plan Builder: the choice of a span and build begin (R115, R129, R137 to R139), the stages A1 to D and the
PENDING selection as events over the tables (R118 to R130), and build completion (R140, R141). -/

namespace Sys2Proof.Machine

/-- Act on the draft in progress, if its next stage is the one named. -/
def State.atStage (s : State) (st : Stage) (f : Draft → State) : State :=
  match s.builder.draft with
  | some d => if d.stage = st then f d else s
  | none => s

/-- Change the draft in progress. -/
def State.modDraft (s : State) (f : Draft → Draft) : State := s.setDraft (s.builder.draft.map f)

/-! ### The choice of a span (R137) -/

/-- A waiting span is eligible. -/
def State.eligible (s : State) (w : WaitingSpan) : Bool :=
  s.isLive w.lane && decide (s.queuedOf w.lane < Config.queuedPlans) && !s.building w.lane

/-- The span `w` is taken before `v`: it starts earlier, or at the same time on a lower lane. -/
def WaitingSpan.before (w v : WaitingSpan) : Bool :=
  earlier w.start v.start || (w.start == v.start && decide (w.lane < v.lane))

/-- The span taken among the eligible ones. -/
def chooseSpan : Option WaitingSpan → List WaitingSpan → Option WaitingSpan
  | best, [] => best
  | none, w :: rest => chooseSpan (some w) rest
  | some v, w :: rest => chooseSpan (some (if w.before v then w else v)) rest

/-- The choice of R137. -/
def State.nextSpan (s : State) : Option WaitingSpan := chooseSpan none (s.builder.waiting.filter s.eligible)

/-! ### Build begin (R115, R139) -/

/-- The acknowledgement point: the serial minimum of the watermarks of the LIVE lanes, formed in lane order (R32). -/
def ackPoint (s : State) (own : Time) : Time :=
  ((allLanes.filter s.isLive).foldl
    (fun (c : Option Time) l =>
      match c with
      | none => some (s.rx l).watermark
      | some t => some (if earlier (s.rx l).watermark t then (s.rx l).watermark else t))
    none).getD own

/-- The empty draft of a span, with the values that are read from the lane, the Claim Controller and the part settings. -/
def State.openDraft (s : State) (w : WaitingSpan) : Draft :=
  let u := s.setupOf w.lane
  let c := s.claim w.lane
  let T := c.target.getD 0
  { lane := w.lane, index := w.index, setup := u, startQ := spanStartQ u.S w.index, start := w.start, target := T,
    bs := c.settings.bs, be := backoffEnd c.settings.bs T, creditUnit := s.align.settings.creditUnit,
    ack := ackPoint s (s.rx w.lane).watermark, candidates := [], notices := [], visits := [], stage := .cadenced, turns := [],
    data := [], cadence := [], pendings := [], openWindow := false, slips := 0, lowestSlip := none, namedStations := [],
    namedStreams := [], readStations := [], readStreams := [] }

/-- The station is an alignment candidate of lane `l` (R60). -/
def StationEntry.candidateOn (e : StationEntry) (l : LaneId) : Bool :=
  e.home == l && e.state.kept && e.outstanding.isNone && !e.verdictWaiting && !e.paused

/-- One station of the due queue, read with a check and taken if it qualifies and fewer than Umax are taken (R60). -/
def State.considerCandidate (s : State) (t : Nat) : State :=
  match s.builder.draft with
  | none => s
  | some d =>
    if d.setup.Umax ≤ d.candidates.length then s
    else
      let s := s.buildReadStation t
      if (s.station t).candidateOn d.lane then
        s.modDraft fun d => { d with candidates := d.candidates ++ [t] }.nameStation t
      else s

/-- The first notice equal to `n` is taken by the build. -/
def takeFirst (n : Notice) : List Notice → List Notice
  | [] => []
  | m :: rest => if m = n then { m with taken := true } :: rest else m :: takeFirst n rest

/-- One notice of the lane's notice queue, its station read with a check (R129). -/
def State.considerNotice (s : State) (n : Notice) : State :=
  match s.builder.draft with
  | none => s
  | some d =>
    if n.mark.isSome ∨ Config.planNotices ≤ d.notices.length then s
    else
      let s := s.buildReadStation n.body.tag
      if (s.station n.body.tag).state = .quarantined ∨ n ∉ (s.lane d.lane).notices then s
      else
        (s.modDraft fun d => { d with notices := d.notices ++ [n.body] }.nameStation n.body.tag).modLane d.lane fun v =>
          { v with notices := takeFirst n v.notices }

/-- The lane's service lists in the order of stage C: class 3 first, each from head to tail (R124). -/
def State.visitOrder (s : State) (l : LaneId) : List (Fin 4 × Nat) :=
  allClasses.reverse.flatMap fun k => (s.list l k).map fun i => (k, i)

/-- A build begins: the span leaves the waiting set, and the values of R115 are fixed. -/
def State.beginBuild (s : State) (w : WaitingSpan) : State :=
  let s := { s with builder := { waiting := s.builder.waiting.filter (· ≠ w), draft := some (s.openDraft w) } }.setJoined w.lane []
  let s := s.align.dueQueue.foldl State.considerCandidate s
  let s := (s.lane w.lane).notices.foldl State.considerNotice s
  s.modDraft fun d => { d with visits := s.visitOrder w.lane }

/-- BUILD_BEGIN: the span taken is built, or skipped when its margin is below Df (R137 to R139). -/
def State.takeSpan (s : State) : State :=
  match s.builder.draft, s.nextSpan with
  | none, some w => if marginOf w.start s.now < (s.setupOf w.lane).Df then s.skipSpan w else s.beginBuild w
  | _, _ => s

/-- BUILD_BEGIN (R137 to R139). With a build in progress, or no span eligible, nothing begins. -/
def execBuildBegin (s : State) : Host.Outcome State Fault Refusal := s.unlessReset State.takeSpan

/-! ### Stage A1 (R118 to R120) -/

/-- The cadenced streams of the lane, as their entries are stored, in index order. -/
def State.cadencedOn (s : State) (l : LaneId) : List Nat :=
  Table.indices (fun e => e.kind == .cadenced && e.lane == l) s.streams.entries

/-- The stream is walked: IN_USE, cadenced on the lane, with an ACTIVE or HELD owner (R118). -/
def State.walks (s : State) (l : LaneId) (i : Nat) : Bool :=
  let e := s.stream i
  decide (e.state = .inUse) && e.kind == .cadenced && e.lane == l && (s.ownerIs e .active || s.ownerIs e .held)

/-- The nominal starts of one walked stream that ask for a turn: those of an ACTIVE owner (R119). -/
def State.startsOf (s : State) (d : Draft) (i : Nat) : List NominalStart :=
  let e := s.stream i
  if s.ownerIs e .active then
    (nominalStarts d.setup.S d.startQ (alignNominal d.setup.S d.startQ e.N e.c) e.c).map fun n => (n, i)
  else []

/-- What a stream asks of the walk. -/
def StreamEntry.ask (e : StreamEntry) : CadenceAsk :=
  let o := e.owner.getD (0, 0)
  { tag := o.1, slot := o.2.val, z := e.z, jitter := e.jitter }

/-- N and the slip count of one walked stream are written (R120): N past the starts taken, and a slip for each of the stream's
starts that has no turn. -/
def State.writeWalk (d : Draft) (before : Nat → Nat) (s : State) (i : Nat) : State :=
  s.modStream i fun e =>
    let N := alignNominal d.setup.S d.startQ e.N e.c
    { e with N := walkedNominal d.setup.S d.startQ N e.c, slips := satAdd Config.slipMax e.slips (before i) }

/-- Stage A1 on the tables and the draft. DESIGN CHOICE: R118 gives the reads at the start of the stage no order; they are made in
stream index order, each stream before its owner, and so are the QUARANTINED reports that follow (log entry 25). -/
def State.walkCadenced (s : State) : State :=
  s.atStage .cadenced fun d =>
    let s := (s.cadencedOn d.lane).foldl (fun s i => (s.buildReadStream i).buildReadOwner i) s
    let walked := (s.cadencedOn d.lane).filter (s.walks d.lane)
    let starts := walked.flatMap (s.startsOf d)
    let after := (sortStarts starts).foldl (fun (d : Draft) a => d.takeStart (s.stream a.2).ask a.1 a.2) d
    let slipsOf := fun i => (starts.filter (·.2 == i)).length - (after.cadence.count i - d.cadence.count i)
    let s := walked.foldl (State.writeWalk d slipsOf) s
    let s := s.count d.lane fun k => { k with slips := raiseBy (after.slips - d.slips) k.slips }
    s.modDraft fun now => { after with stage := .alignment, readStations := now.readStations, readStreams := now.readStreams }

/-- STAGE_A1_CADENCED_WALK (R118 to R120). -/
def execStageA1CadencedWalk (s : State) : Host.Outcome State Fault Refusal := s.unlessReset State.walkCadenced

/-! ### Stages A2, A3 and B (R121 to R123) -/

/-- STAGE_A2_ALIGNMENT_TURNS (R121). -/
def execStageA2AlignmentTurns (s : State) : Host.Outcome State Fault Refusal :=
  s.unlessReset fun s => s.atStage .alignment fun d => s.setDraft (some d.alignTurns)

/-- STAGE_A3_OPEN_WINDOW (R122). -/
def execStageA3OpenWindow (s : State) : Host.Outcome State Fault Refusal :=
  s.unlessReset fun s => s.atStage .openWindow fun d => s.setDraft (some d.openWindowTurn)

/-- STAGE_B_CLAIM_FLOOR (R123). -/
def execStageBClaimFloor (s : State) : Host.Outcome State Fault Refusal :=
  s.unlessReset fun s => s.atStage .floor fun d => s.setDraft (some d.claimFloor)

/-! ### Stage C (R124 to R127) -/

/-- A visited stream that is not served keeps the credit of step 1 and moves to the tail (R125, R127). -/
def State.skipVisit (s : State) (l : LaneId) (k : Fin 4) (i : Nat) (credit : Int) : State :=
  (s.modStream i fun e => { e with credit := credit }).moveToTail l k i

/-- A served stream: G rises and its credit falls by the cover; with A at 0 it leaves every list and its credit is 0, else it
moves to the tail (R126, R127). -/
def State.serveVisit (s : State) (l : LaneId) (k : Fin 4) (i : Nat) (credit : Int) (cover : Nat) : State :=
  let s := s.modStream i fun e => { e with G := e.G + cover, credit := credit - cover }
  if (s.stream i).avail = 0 then (s.modStream i fun e => { e with credit := 0 }).leaveLists i else s.moveToTail l k i

/-- The visit of a stream that still stands on the list (R125 to R127). -/
def State.visit (s : State) (d : Draft) (k : Fin 4) (i : Nat) : State :=
  let e := s.stream i
  let credit := visitCredit e.credit e.weight d.creditUnit
  match visitPlace d (visitSize d.setup e.avail credit e.maxTurn) e.fragmentable with
  | none => s.skipVisit d.lane k i credit
  | some (p, g) =>
    let cover := coverOf d.setup e.avail g
    let o := e.owner.getD (0, 0)
    (s.serveVisit d.lane k i credit cover).modDraft fun d => d.placeData i o.1 o.2.val p g cover

/-- The stream stands, since build begin, on the list it is to be visited on, and is one a list may serve, with an owner that is
ACTIVE as the build has read it (R91, R116, R124, R134). -/
def State.awaitsVisit (s : State) (l : LaneId) (k : Fin 4) (i : Nat) : Bool :=
  (s.list l k).contains i && !(s.joinedOf l).contains i && s.servable i && s.ownerIs (s.stream i) .active

/-- One visit: the stream and its owner are read; a stream that does not stand on the list, or that joined it after build begin,
or that is not IN_USE and BIDDING with an ACTIVE owner, is passed over (R116, R124, R134). The conditions that end the stage are
checked before the visit and after it (R127). -/
def State.visitNext (s : State) : State :=
  s.atStage .visits fun d =>
    match (if d.visitsEnded then [] else d.visits) with
    | [] => s.setDraft (some d.toVisits)
    | (k, i) :: rest =>
      let s := ((s.setDraft (some { d with visits := rest })).buildReadStream i).buildReadOwner i
      let s := if s.awaitsVisit d.lane k i then s.visit d k i else s
      s.modDraft Draft.toVisits

/-- STAGE_C_VISIT (R124 to R127). -/
def execStageCVisit (s : State) : Host.Outcome State Fault Refusal := s.unlessReset State.visitNext

/-! ### Stage D and the PENDING selection (R96, R128, R130) -/

/-- STAGE_D_LEFTOVER_CLAIMS (R128). -/
def execStageDLeftoverClaims (s : State) : Host.Outcome State Fault Refusal :=
  s.unlessReset fun s => s.atStage .leftover fun d => s.setDraft (some d.leftoverClaims)

/-- The streams that qualify for PENDING notices, in the order of their choice (R96). -/
def State.pendingOrder (s : State) (d : Draft) : List Nat :=
  let q := ((s.visitOrder d.lane).map (·.2)).filter fun i => !(d.data.any fun t => t.stream == i)
  sortNat (q.filter fun i => (s.stream i).relist) ++ q.filter fun i => !(s.stream i).relist

/-- One stream of that order: read with a check, and chosen while fewer than 48 are taken, it still stands on a list of the lane,
and it is IN_USE and BIDDING (R96, R116, R155). -/
def State.choosePending (s : State) (i : Nat) : State :=
  match s.builder.draft with
  | none => s
  | some d =>
    if Config.pendings ≤ d.pendings.length then s
    else
      let s := s.buildReadStream i
      let o := (s.stream i).owner.getD (0, 0)
      if s.onLane d.lane i && s.servable i then
        s.modDraft fun d =>
          ({ d with pendings := d.pendings ++ [PendingChoice.mk i o.1 o.2.val] }.nameStation o.1).nameStream i
      else s

/-- The PENDING selection (R96, R130). -/
def State.selectPending (s : State) : State :=
  s.atStage .notices fun d =>
    ((s.pendingOrder d).foldl State.choosePending s).modDraft fun d => { d with stage := .complete }

/-- PENDING_SELECTION (R96, R130). -/
def execPendingSelection (s : State) : Host.Outcome State Fault Refusal := s.unlessReset State.selectPending

/-! ### Build completion (R140, R141) -/

/-- The station's outstanding mark becomes the plan's (R61). -/
def State.setMark (l : LaneId) (q : PlanSeq) (s : State) (t : Nat) : State :=
  s.modStation t fun e => { e with outstanding := some (l, q) }

/-- The plan enters the output queue, in the order of R140. -/
def State.queuePlan (s : State) (p : Plan) : State :=
  let s := { s with link := { s.link with queue := s.link.queue ++ [p] } }
  let s := s.raiseRefs p.stations p.streams
  let s := s.mapNotices p.record.lane fun n => if n.taken then { n with mark := some p.record.seq, taken := false } else n
  (alignTags p.record.turns).foldl (State.setMark p.record.lane p.record.seq) s

/-- The plan is discarded: its planned bytes are given back, and the notices it had taken are as they were (R141). -/
def State.discardPlan (s : State) (p : Plan) : State :=
  (s.restoreData p.data).mapNotices p.record.lane fun n => { n with taken := false }

/-- The entries that the draft named become FREE if nothing else holds them (R117). DESIGN CHOICE: R117 gives no order among them;
they are taken in the order in which the draft named them, stations before streams (log entry 25). -/
def State.settleNamed (s : State) (d : Draft) : State :=
  d.namedStreams.foldl State.settleStream (d.namedStations.foldl State.settleStation s)

/-- Build completion: the builder is IDLE, the plan enters the output queue or is discarded, and a DRAINING lane may reach
IDLE (R140, R141). -/
def State.completeBuild (s : State) : State :=
  s.atStage .complete fun d =>
    let p := d.plan s.now
    let s := s.setDraft none
    let s := if s.isLive d.lane then s.queuePlan p else s.discardPlan p
    (s.settleNamed d).settleDraining d.lane

/-- BUILD_COMPLETION (R140, R141). -/
def execBuildCompletion (s : State) : Host.Outcome State Fault Refusal := s.unlessReset State.completeBuild

end Sys2Proof.Machine
end

