-- ==== Sys2Proof/Machine/Link.lean ====
section
/-! DEFINITION. The Plan Link: expired marks (R143), the ready input and the transmitter (R144, R148), and the commit and the
drop of a plan at its transmit start (R145, R146, R147). -/

namespace Sys2Proof.Machine

/-! ### Expired marks (R143) -/

/-- Plant time reaches span start − Df + 1 of the lane's queued plan with the sequence: its expired mark is set. -/
def State.expirePlan (l : LaneId) (q : PlanSeq) (s : State) : State :=
  let due := fun (p : Plan) =>
    p.record.lane == l && p.record.seq == q && s.now == p.record.start - tu (s.setupOf l).Df + 1
  { s with link := { s.link with queue := s.link.queue.map fun p => if due p then { p with expired := true } else p } }

/-- PLAN_EXPIRY (R143). -/
def execPlanExpiry (lane : LaneId) (seq : PlanSeq) (s : State) : Host.Outcome State Fault Refusal :=
  s.unlessReset (State.expirePlan lane seq)

/-! ### The ready input and the end of a transmission (R144, R148) -/

/-- FRAMER_READY (R144): the level is the framer's, whether or not the reset pin is asserted (log entry 1). -/
def execFramerReady (level : Bool) (s : State) : Host.Outcome State Fault Refusal := .next { s with ready := level }

/-- TRANSMIT_END (R148): the transmitter becomes IDLE. -/
def execTransmitEnd (s : State) : Host.Outcome State Fault Refusal :=
  s.unlessReset fun s => { s with link := { s.link with sending := none } }

/-! ### Commit (R145) -/

/-- Step 1 for one DATA turn: D and G fall by the cover, and the relist flag becomes no (R89). -/
def State.commitData (s : State) (d : DataTurn) : State :=
  (s.checkStream .link d.stream).modStream d.stream fun e =>
    { e with D := e.D - d.cover, G := e.G - d.cover, relist := false }

/-- Step 1 (R89, R94). DESIGN CHOICE: the manual does not say which stream is read first; they are read in the order of their turns'
placement, and the QUARANTINED reports of reads that find a fault follow in it (log entry 25). -/
def State.commitStreams (s : State) (p : Plan) : State :=
  p.pendings.foldl (fun s i => s.modStream i fun e => { e with relist := false }) (p.data.foldl State.commitData s)

/-- A CORRECTION notice that leaves with its plan clears its station's verdict-waiting flag (R67). -/
def State.commitNotice (s : State) (n : Notice) : State :=
  if n.body.isCorrection then
    (s.checkStation .link n.body.tag).modStation n.body.tag fun e => { e with verdictWaiting := false }
  else s

/-- Step 2: the notices the plan carries leave the lane's queue. DESIGN CHOICE: the manual does not say which station is read first;
they are read in the order of the notices in the queue, and the QUARANTINED reports follow in it (log entry 25). -/
def State.commitNotices (s : State) (p : PlanRecord) : State :=
  let mine := (s.lane p.lane).notices.filter fun n => n.mark == some p.seq
  let s := s.modLane p.lane fun v => { v with notices := v.notices.filter fun n => n.mark != some p.seq }
  mine.foldl State.commitNotice s

/-- The plan's history entry (R133). -/
def Plan.entry (p : Plan) : HistEntry :=
  { seq := p.record.seq, startQ := p.record.startQ, start := p.record.start, slots := slotsOffered p.record.turns,
    tallyArrived := false, turns := (alignTags p.record.turns).map fun t => ⟨t, false⟩, openWindow := p.openWindow, joins := 0,
    stations := p.stations, streams := p.streams }

/-- The end of the plan's span (R7). -/
def PlanRecord.stop (r : PlanRecord) : Time := r.start + tu (r.S * r.Lq)

/-- Step 4: covered-until, the consecutive-drop count and the plans-transmitted counter. -/
def State.commitLane (s : State) (r : PlanRecord) : State :=
  s.modLane r.lane fun v =>
    { v with coveredUntil := some r.stop, drops := 0,
             counters := { v.counters with transmitted := raiseBy 1 v.counters.transmitted } }

/-- Step 5: the late flag and LATE. -/
def State.judgeLate (s : State) (r : PlanRecord) (M : Int) : State :=
  if M < (s.setupOf r.lane).Wm then
    if (s.lane r.lane).late then s
    else (s.modLane r.lane fun v => { v with late := true }).raise (.late r.lane r.seq M)
  else s.modLane r.lane fun v => { v with late := false }

/-- SLIPPED, when there are slips to tell of (R147). -/
def State.reportSlips (s : State) (r : PlanRecord) (n : Nat) (lowest : Option Nat) : State :=
  if 0 < n then s.raise (.slipped r.lane r.seq n lowest) else s

/-- The commit of a plan, in the order of R145; the transmitter becomes SENDING (R144). -/
def State.commit (s : State) (p : Plan) (M : Int) : State :=
  let s := (s.commitStreams p).commitNotices p.record
  let s := (s.pushHistory p.record.lane p.entry).commitLane p.record
  let s := (s.judgeLate p.record M).reportSlips p.record p.slips p.lowestSlip
  { s with link := { s.link with sending := some p.record } }

/-! ### Drop (R146) -/

/-- Step 2 for one CADENCE turn: a lost slip of the stream and of the lane (R95). -/
def State.loseCadence (l : LaneId) (s : State) (i : Nat) : State :=
  (s.modStream i fun e => { e with slips := satAdd Config.slipMax e.slips 1 }).count l fun k => { k with slips := raiseBy 1 k.slips }

/-- The lowest of the placement slips' lowest stream index and the lost CADENCE turns' streams (R147). -/
def lowestOf (a : Option Nat) (l : List Nat) : Option Nat :=
  l.foldl (fun a i => some (min i (a.getD i))) a

/-- The drop of a plan at its transmit start, in the order of R146. -/
def State.drop (s : State) (p : Plan) (M : Int) : State :=
  let l := p.record.lane
  let s := s.restoreData p.data
  let s := p.cadence.foldl (State.loseCadence l) s
  let s := (s.clearMarks p.record).lowerRefs p.stations p.streams
  let s := s.countDrop l
  let s := s.raise (.dropped l p.record.seq .margin M (s.lane l).drops)
  (s.reportSlips p.record (p.slips + p.cadence.length) (lowestOf p.lowestSlip p.cadence)).faultIfDue l

/-! ### Transmit start (R144) -/

/-- The head plan leaves the queue and is committed or dropped; a DRAINING lane whose last plan it was reaches IDLE. -/
def State.startTransmit (s : State) : State :=
  match s.link.sending, s.link.queue with
  | none, p :: rest =>
    if s.ready then
      let M := marginOf p.record.start s.now
      let late := p.expired || decide (M < (s.setupOf p.record.lane).Df)
      let s := { s with link := { s.link with queue := rest } }
      (if late then s.drop p M else s.commit p M).settleDraining p.record.lane
    else s
  | _, _ => s

/-- TRANSMIT_START (R144 to R147). With the transmitter SENDING, the ready input deasserted or the queue empty there is no
transmit start. -/
def execTransmitStart (s : State) : Host.Outcome State Fault Refusal := s.unlessReset State.startTransmit

end Sys2Proof.Machine
end

