-- ==== Sys2Proof/Machine/Reception.lean ====
section
/-! DEFINITION. The Reception Unit's checks and watermarks (R21 to R34), and the meanings of the reception records: BID (R85,
R86), TALLY (R103), RESULT (R63, R40 to R43), NO_SHOW (R63) and MARK (R31). -/

namespace Sys2Proof.Machine

/-! ### Checks and watermark -/

/-- A lane is open to records while it is LIVE or DRAINING (R27). -/
def State.laneOpen (s : State) (l : LaneId) : Bool := (s.lane l).state = .live || (s.lane l).state = .draining

/-- Checks 1 and 2 of R27, with the watermark update of R31 between them: `bad` says a condition of R28 holds. -/
def State.admitRecord (h : RecordHead) (bad : Bool) (go : State → State) (s : State) : State :=
  if s.laneOpen h.port then
    let s := s.modRx h.port fun p => { p with watermark := serialMax p.watermark h.time }
    if bad then s.modRx h.port fun p => { p with malformed := raiseBy 1 p.malformed } else go s
  else s.modRx h.port fun p => { p with notOpen := raiseBy 1 p.notOpen }

/-- Check 3 of R27. -/
def State.checkTag (h : RecordHead) (w : BitVec 16) (go : State → State) (s : State) : State :=
  if tagCheckPasses w then go s else s.modRx h.port fun p => { p with tagCheck := raiseBy 1 p.tagCheck }

/-- Check 4 of R27: the record goes to its owner with the history entry it matched (R30, R33). -/
def State.matchHistory (h : RecordHead) (own : HistEntry → State → State) (s : State) : State :=
  match s.historyEntry h.port h.planSeq with
  | some e => own e s
  | none => s.modRx h.port fun p => { p with stale := raiseBy 1 p.stale }

/-! ### BID -/

/-- A bid is discarded and counted (R85). -/
def State.discardBid (s : State) (l : LaneId) : State :=
  s.count l fun k => { k with bidsDiscarded := raiseBy 1 k.bidsDiscarded }

/-- A BID's conditions of R28, for a record of 20 bytes (R177). -/
def bidMalformed (h : RecordHead) (w : BitVec 16) (slot seq : Byte) (amount : BitVec 32) (source : Byte) : Bool :=
  h.frameLen != 20 || tagOfTagWord w == 0 || decide (7 < slot.toNat) || decide (15 < seq.toNat) || amount == 0 ||
    decide (1048575 < amount.toNat) || !(source == 1 || source == 2)

/-- An accepted bid is applied to its stream: a duplicate sets the relist flag, a new bid raises D (R86). -/
def State.applyBid (s : State) (i seq amount : Nat) : State :=
  let e := s.stream i
  if e.lastBid = some seq then s.modStream i fun e => { e with relist := true }
  else
    let s := s.modStream i fun e => { e with D := min (e.D + amount) Config.demandMax, lastBid := some seq }
    let e' := s.stream i
    if e.avail = 0 ∧ 0 < e'.avail ∧ s.ownerIs e' .active then s.joinLists i else s

/-- A BID handed to the Stream Table, its checks in the order of R85; each entry is read with a check. -/
def State.takeBid (s : State) (l : LaneId) (t : Nat) (slot : Fin 8) (seq amount : Nat) : State :=
  let s := s.checkStation .record t
  let e := s.station t
  if ¬(e.state = .active ∨ e.state = .held) then s.discardBid l
  else
    match e.refs[slot] with
    | none => s.discardBid l
    | some i =>
      if Config.streams ≤ i then s.discardBid l
      else
        let s := s.checkStream .record i
        let r := s.stream i
        if r.state = .inUse ∧ r.kind = .bidding ∧ r.owner = some (t, slot) then
          (s.applyBid i seq amount).count l fun k => { k with bidsAccepted := raiseBy 1 k.bidsAccepted }
        else s.discardBid l

/-- The stream slot of a slot byte in range. -/
def slotOf (x : Byte) : Fin 8 := ⟨x.toNat % 8, Nat.mod_lt _ (by decide)⟩

/-- BID (R23, R27, R85, R86). The source field is checked for its range alone. -/
def execBid (head : RecordHead) (tagWord : BitVec 16) (slot seq : Byte) (amount : BitVec 32) (source : Byte) (s : State) :
    Host.Outcome State Fault Refusal :=
  s.unlessReset <|
    State.admitRecord head (bidMalformed head tagWord slot seq amount source) <|
      State.checkTag head tagWord <|
        State.matchHistory head fun _ s => s.takeBid head.port (tagOfTagWord tagWord) (slotOf slot) seq.toNat amount.toNat

/-! ### TALLY -/

/-- A TALLY's conditions of R28, for a record of 16 bytes (R177). -/
def tallyMalformed (h : RecordHead) (offered clean collided empty : BitVec 16) : Bool :=
  h.frameLen != 16 || decide (1024 < offered.toNat) || decide (1024 < clean.toNat) || decide (1024 < collided.toNat) ||
    decide (1024 < empty.toNat) || clean.toNat + collided.toNat + empty.toNat != offered.toNat

/-- TALLY (R24, R27, R103 to R107). -/
def execTally (head : RecordHead) (offered clean collided empty : BitVec 16) (s : State) : Host.Outcome State Fault Refusal :=
  s.unlessReset <|
    State.admitRecord head (tallyMalformed head offered clean collided empty) <|
      State.matchHistory head fun e s => s.takeTally head.port e offered.toNat clean.toNat collided.toNat

/-! ### RESULT, tagged -/

/-- The measurement fields of a RESULT lie outside their ranges (R28). -/
def measurementMalformed (et : BitVec 16) (ep quality : Byte) : Bool :=
  decide (et.toInt < -2048) || decide (2047 < et.toInt) || decide (ep.toInt < -64) || decide (63 < ep.toInt) ||
    decide (63 < quality.toNat)

/-- A tagged RESULT's conditions of R28, for a record of 22 bytes whose target form byte is 1 (R177). -/
def taggedMalformed (h : RecordHead) (form : Byte) (w : BitVec 16) (et : BitVec 16) (ep quality : Byte) : Bool :=
  h.frameLen != 22 || form != 1 || tagOfTagWord w == 0 || measurementMalformed et ep quality

/-- RESULT_TAGGED (R25, R27, R63 to R71). -/
def execResultTagged (head : RecordHead) (form : Byte) (tagWord : BitVec 16) (et : BitVec 16) (ep quality : Byte) (s : State) :
    Host.Outcome State Fault Refusal :=
  s.unlessReset <|
    State.admitRecord head (taggedMalformed head form tagWord et ep quality) <|
      State.checkTag head tagWord <|
        State.matchHistory head fun e s =>
          s.alignmentRecord head.port e (tagOfTagWord tagWord) (some (et.toInt, ep.toInt, quality.toNat))

/-! ### RESULT, address form: joins -/

/-- The tag an address is mapped to (R39). -/
def State.mapped (s : State) (a : HwAddr) : Option Nat := (s.stations.joinMap.find? (fun m => m.1 == a)).map (·.2)

/-- A join refused: discarded, counted and reported (R41). -/
def State.refuseJoin (s : State) (l : LaneId) (a : HwAddr) (r : JoinRefusal) : State :=
  (s.discardResult l).raise (.joinRefused l a r)

/-- The joins-accepted count of the matched entry rises by one (R40). -/
def State.countJoin (s : State) (l : LaneId) (q : PlanSeq) : State := s.modHistory l q fun h => { h with joins := h.joins + 1 }

/-- A new join, taking the tag at the head of the free tag list (R42). -/
def State.newJoin (s : State) (l : LaneId) (h : HistEntry) (a : HwAddr) (t : Nat) (et ep : Int) : State :=
  let O := firstOffset (s.setupOf l) et
  let Pw := firstPower (s.setupOf l) ep
  let s := { s with stations := { s.stations with freeTags := s.stations.freeTags.tail,
                                                  joinMap := s.stations.joinMap ++ [(a, t)] } }
  let s := s.putStation t
    { StationEntry.free with state := .aligning, addr := some a, laneSet := laneBit l, home := l, O := O, Pw := Pw }
  let s := ((s.setDueNow t).pushNotice l (.join a t O Pw)).countJoin l h.seq
  s.raise (.joined l t a)

/-- A rejoin of the mapped station (R43). -/
def State.rejoin (s : State) (l : LaneId) (h : HistEntry) (a : HwAddr) (t : Nat) (et ep : Int) : State :=
  let O := firstOffset (s.setupOf l) et
  let Pw := firstPower (s.setupOf l) ep
  let previous := (s.station t).state
  let s := s.modStation t fun e =>
    { e with state := .aligning, attempts := 0, misses := 0, laneSet := addLane e.laneSet l, home := l, paused := false,
             O := O, Pw := Pw }
  let s := ((s.tidyRefs t).clearStreams t).setDueNow t
  let s := (s.pushNotice l (.join a t O Pw)).countJoin l h.seq
  s.raise (.rejoined l t a previous)

/-- An address-form RESULT matched to an entry of the lane: R40, then R41, then R42 or R43. -/
def State.joinRecord (s : State) (l : LaneId) (h : HistEntry) (a : HwAddr) (et ep : Int) (quality : Nat) : State :=
  if h.openWindow = false ∨ Config.joins ≤ h.joins ∨ quality < s.align.settings.qMin then s.discardResult l
  else
    let full := decide (Config.notices ≤ (s.lane l).notices.length)
    match s.mapped a with
    | some t =>
      let s := s.checkStation .record t
      if (s.station t).state = .quarantined then s.refuseJoin l a .quarantined
      else if s.isLive l = false ∨ full then s.refuseJoin l a .busy
      else s.rejoin l h a t et ep
    | none =>
      if s.isLive l = false then s.refuseJoin l a .busy
      else
        match s.stations.freeTags with
        | [] => s.refuseJoin l a .full
        | t :: _ => if full then s.refuseJoin l a .busy else s.newJoin l h a t et ep

/-- An address-form RESULT's conditions of R28, for a record of 22 bytes (R177). -/
def addressMalformed (h : RecordHead) (a : HwAddr) (et : BitVec 16) (ep quality : Byte) : Bool :=
  h.frameLen != 22 || a == 0 || a == BitVec.allOnes 48 || measurementMalformed et ep quality

/-- RESULT_ADDRESS_FORM (R25, R27, R40 to R44). -/
def execResultAddressForm (head : RecordHead) (addr : HwAddr) (et : BitVec 16) (ep quality : Byte) (s : State) :
    Host.Outcome State Fault Refusal :=
  s.unlessReset <|
    State.admitRecord head (addressMalformed head addr et ep quality) <|
      State.matchHistory head fun e s => s.joinRecord head.port e addr et.toInt ep.toInt quality.toNat

/-! ### NO_SHOW, MARK and the two frames without an owner -/

/-- NO_SHOW, a record of 12 bytes (R26, R27, R63). -/
def execNoShow (head : RecordHead) (tagWord : BitVec 16) (s : State) : Host.Outcome State Fault Refusal :=
  s.unlessReset <|
    State.admitRecord head (head.frameLen != 12 || tagOfTagWord tagWord == 0) <|
      State.checkTag head tagWord <|
        State.matchHistory head fun e s => s.alignmentRecord head.port e (tagOfTagWord tagWord) none

/-- MARK, a record of 8 bytes: its effect is its watermark update (R26, R27, R31). -/
def execMark (head : RecordHead) (s : State) : Host.Outcome State Fault Refusal :=
  s.unlessReset (State.admitRecord head (head.frameLen != 8) id)

/-- RECEPTION_UNKNOWN_KIND: malformed on an open lane (R28, R31). -/
def execReceptionUnknownKind (head : RecordHead) (_kind : Byte) (s : State) : Host.Outcome State Fault Refusal :=
  s.unlessReset (State.admitRecord head true id)

/-- RECEPTION_FRAME_SHORT: not a record; ignored (R21). -/
def execReceptionFrameShort (_port : LaneId) (_frameLen : Nat) (s : State) : Host.Outcome State Fault Refusal :=
  s.unlessReset id

end Sys2Proof.Machine
end

