-- ==== Sys2Proof/Machine/StationRequests.lean ====
section
/-! DEFINITION. The meanings of the station requests: STATION_ADMIT, STATION_HOLD, STATION_RESUME, STATION_RELEASE and
STATION_READ (R45 to R50, R55). -/

namespace Sys2Proof.Machine

/-- The checks of R45, the entry read with its check, and then the request's own rule on the tag. -/
def onStation (tag : BitVec 16) (own : Nat → State → Answer) (s : State) : Answer :=
  match tagOfWord tag with
  | none => refuse .badValue s
  | some t =>
    let s := s.checkStation .request t
    if (s.station t).state = .free then refuse .unknownTag s else own t s

/-! ### STATION_ADMIT -/

/-- A stream is fitted to the station's new lane set: it leaves the lanes taken away, or is removed when none is left (R47). -/
def State.fitStream (m : LaneSet) (s : State) (i : Nat) : State :=
  let e := s.stream i
  match e.kind with
  | .bidding =>
    let kept := e.laneSet &&& m
    if kept = 0 then s.removeStream i
    else (lanesOf (e.laneSet &&& ~~~m)).foldl (State.leaveLane · i ·) (s.modStream i fun e => { e with laneSet := kept })
  | .cadenced => if inSet m e.lane then s else s.removeStream i

/-- The home lane after the lane set changes: kept if it is in the set, else the lowest of it, handled by R52 when that lane is
not LIVE; paused maintenance resumes where the set holds a LIVE lane (R46). -/
def State.admitHome (s : State) (t : Nat) (m : LaneSet) : State :=
  let e := s.station t
  let s :=
    if inSet m e.home then s
    else
      let low := ((lanesOf m).head?).getD e.home
      let s := s.modStation t fun e => { e with home := low }
      if s.isLive low ∨ e.paused then s else s.rehome t
  match (s.station t).paused, s.lowestLive m with
  | true, some l => s.resumeOn t l
  | _, _ => s

/-- STATION_ADMIT carried out, in the order of R46. -/
def State.admission (s : State) (t : Nat) (m : LaneSet) (clear : Bool) : State × Nat :=
  let s := s.tidyRefs t
  let s := if clear then s.clearStreams t else s
  let before := (s.streamsOf t).length
  let s := s.modStation t fun e => { e with laneSet := m }
  let s := (s.streamsOf t).foldl (State.fitStream m) s
  let removed := before - (s.streamsOf t).length
  let s := s.admitHome t m
  let s := s.modStation t fun e => { e with admitted := true }
  if (s.station t).state = .ready then
    ((s.modStation t fun e => { e with state := .active }).relistStreams t, removed)
  else (s, removed)

/-- Checks 3 and 4 of R46, and the admission. -/
def admitOwn (m : LaneSet) (clear : Bool) (t : Nat) (s : State) : Answer :=
  match (s.station t).state with
  | .ready | .active | .held =>
    if m = 0 then refuse .badValue s
    else
      let r := s.admission t m clear
      let e := r.1.station t
      carryOut (.admission e.laneSet e.home e.state e.admitted r.2) r.1
  | _ => refuse .badState s

/-- STATION_ADMIT's own rule (R45, R46). -/
def stationAdmitRule (b : AdmitBody) : State → Answer := onStation b.tag (admitOwn b.laneSet (flagOf b.clearStreams))

/-- STATION_ADMIT (R46, R47). -/
def execStationAdmit (req : Req) (body : AdmitBody) (s : State) : Host.Outcome State Fault Refusal :=
  s.request kindStationAdmit 4 req (stationAdmitRule body)

/-! ### STATION_HOLD and STATION_RESUME -/

/-- An ACTIVE station becomes HELD and its streams leave every list (R48). -/
def holdOwn (t : Nat) (s : State) : Answer :=
  if (s.station t).state = .active then
    carryOut .empty (((s.tidyRefs t).modStation t fun e => { e with state := .held }).unlistStreams t)
  else refuse .badState s

/-- STATION_HOLD (R48). -/
def execStationHold (req : Req) (tag : BitVec 16) (s : State) : Host.Outcome State Fault Refusal :=
  s.request kindStationHold 2 req (onStation tag holdOwn)

/-- A HELD station becomes ACTIVE and its streams with available demand join their lists (R49). -/
def resumeOwn (t : Nat) (s : State) : Answer :=
  if (s.station t).state = .held then
    carryOut .empty (((s.tidyRefs t).modStation t fun e => { e with state := .active }).relistStreams t)
  else refuse .badState s

/-- STATION_RESUME (R49). -/
def execStationResume (req : Req) (tag : BitVec 16) (s : State) : Host.Outcome State Fault Refusal :=
  s.request kindStationResume 2 req (onStation tag resumeOwn)

/-! ### STATION_RELEASE -/

/-- A station that is not RELEASING is released (R50). -/
def releaseOwn (t : Nat) (s : State) : Answer :=
  if (s.station t).state = .releasing then refuse .badState s
  else
    let s := s.release t .request
    carryOut (.release (s.station t).state) s

/-- STATION_RELEASE (R50). -/
def execStationRelease (req : Req) (tag : BitVec 16) (s : State) : Host.Outcome State Fault Refusal :=
  s.request kindStationRelease 2 req (onStation tag releaseOwn)

/-! ### STATION_READ -/

/-- The entry of a tag as STATION_READ returns it (R55). -/
def State.stationView (s : State) (t : Nat) : StationView := { tag := t, entry := s.station t, refs := s.stationRefs t }

/-- The tags a STATION_READ returns, in tag order (R55). -/
def readTags (first count : Nat) : List Nat := (List.range' first count).filter (· ≤ Config.stations)

/-- STATION_READ's own rule: each entry returned is read with a check (R55). -/
def stationReadRule (first : BitVec 16) (count : Byte) (s : State) : Answer :=
  match tagOfWord first with
  | none => refuse .badValue s
  | some t =>
    if count.toNat = 0 ∨ Config.readEntries < count.toNat then refuse .badValue s
    else
      let tags := readTags t count.toNat
      let s := tags.foldl (fun s t => s.checkStation .request t) s
      carryOut (.stationRead s.stations.freeTags.length s.stations.joinMap.length (tags.map s.stationView)) s

/-- STATION_READ (R55). -/
def execStationRead (req : Req) (first : BitVec 16) (count : Byte) (s : State) : Host.Outcome State Fault Refusal :=
  s.request kindStationRead 3 req (stationReadRule first count)

end Sys2Proof.Machine
end

