-- ==== Sys2Proof/Machine/StreamRequests.lean ====
section
/-! DEFINITION. The meanings of the stream requests: STREAM_ADD, STREAM_CHANGE, STREAM_REMOVE and STREAM_READ (R78 to R82,
R97). -/

namespace Sys2Proof.Machine

/-- The kind a kind byte gives (R174). -/
def kindOfByte (x : Byte) : Option StreamKind :=
  if x = StreamKind.bidding.code then some .bidding else if x = StreamKind.cadenced.code then some .cadenced else none

/-- Check 1 of R78 on the fields. The jitter bytes of a bidding request are pad bytes and not examined (R174, R175). -/
def fieldsInRange (f : StreamFields) : Bool :=
  match kindOfByte f.kind with
  | none => false
  | some .bidding => f.cls.toNat ≤ 3
  | some .cadenced => f.cls.toNat ≤ 3 && decide (f.jitter.toNat ≤ 255)

/-- The class of a class byte in range. -/
def classOf (x : Byte) : Fin 4 := ⟨x.toNat % 4, Nat.mod_lt _ (by decide)⟩

/-- The cadence after its clamps: into 16..65,535, and then no less than the size (R79). -/
def cadenceOf (f : StreamFields) : Nat := max (clampN 16 65535 f.c.toNat) f.z.toNat

/-- The fields of a stream as clamped by R79, written over an entry. A kind holds the free values in the fields it does not
use (R75). -/
def StreamEntry.withFields (e : StreamEntry) (k : StreamKind) (f : StreamFields) (lane : LaneId) : StreamEntry :=
  let e := { e with kind := k, cls := classOf f.cls, weight := clampN 1 64 f.weight.toNat,
                    maxTurn := clampN 1 255 f.maxTurn.toNat, fragmentable := flagOf f.fragmentable }
  match k with
  | .bidding => { e with laneSet := f.laneSet, lane := 0, c := 16, z := 1, phase := 0, jitter := 0, N := 0 }
  | .cadenced =>
    { e with laneSet := 0, lane := lane, c := cadenceOf f, z := f.z.toNat, phase := f.phase.toNat % cadenceOf f,
             jitter := f.jitter.toNat }

/-- The next unbuilt span start of the lane, as a quantum index (R6). -/
def State.nextUnbuilt (s : State) (l : LaneId) : Quantum := spanStartQ (s.setupOf l).S (s.lane l).nextSpan

/-- The lane a cadenced request names; `none` is a lane above 7. A bidding request names none and lane 0 stands in. -/
def fieldLane (k : StreamKind) (f : StreamFields) : Option LaneId :=
  match k with
  | .bidding => some 0
  | .cadenced => laneOfByte f.lane

/-- Checks 5 to 8 of R78 for the owner's lane set (R78, R80). -/
def State.laneRefusal (s : State) (k : StreamKind) (f : StreamFields) (own : LaneSet) : Option ReqOutcome :=
  match k, fieldLane k f with
  | _, none => some .badValue
  | .bidding, some _ =>
    if f.laneSet = 0 then some .badValue else if subsetOf f.laneSet own then none else some .badValue
  | .cadenced, some l =>
    match (s.lane l).setup with
    | none => some .badState
    | some u =>
      if f.z.toNat < u.P + 1 then some .badValue else if inSet own l then none else some .badValue

/-- A station whose streams may be added or changed (R78, R80). -/
def StationState.servable (st : StationState) : Bool := st = .ready || st = .active || st = .held

/-- The share a request asks for after the clamps of R79: 0 for a bidding stream (R77). -/
def askedShare (k : StreamKind) (f : StreamFields) : Nat :=
  match k with
  | .bidding => 0
  | .cadenced => laneShare f.z.toNat (cadenceOf f)

/-- The share would exceed the lane's reserve cap (R77). -/
def State.overCap (s : State) (k : StreamKind) (l : LaneId) (sum share : Nat) : Bool :=
  k = .cadenced && decide ((s.setupOf l).Rc < sum + share)

/-- The lowest FREE stream index (R79). -/
def State.lowestFree (s : State) : Option Nat := (List.range' 0 Config.streams).find? (fun i => (s.stream i).state = .free)

/-! ### STREAM_ADD -/

/-- A share is recorded for a cadenced stream and its lane's sum rises by it (R79, R80). -/
def State.recordShare (s : State) (i : Nat) (l : LaneId) (share : Nat) : State :=
  (s.setShareSum l (s.shareSum l + share)).setReserved i (if share = 0 then Reserved.none else { lane := l, amount := share })

/-- A STREAM_ADD carried out on stream index `i` (R79); the new stream stands on no list. Where a fault alone made the entry
read FREE, a reserved share may still be kept for the index, and the manual does not say what becomes of it. DESIGN CHOICE: a
bidding stream leaves it kept, so that its removal lowers the sum by it, and a cadenced stream's own share replaces it with no
sum lowered (log entry 28). -/
def State.addStream (s : State) (i t : Nat) (slot : Fin 8) (k : StreamKind) (f : StreamFields) (l : LaneId) : State :=
  let e := { StreamEntry.free with state := .inUse, owner := some (t, slot) }.withFields k f l
  let e := if k = .cadenced then { e with N := firstNominal (s.nextUnbuilt l) e.c e.phase } else e
  let s := ((s.leaveLists i).putStream i e).modStation t fun e => { e with refs := e.refs.set slot (some i) }
  if k = .cadenced then s.recordShare i l (askedShare k f) else s

/-- STREAM_ADD's own rule, its checks in the order of R78. -/
def streamAddRule (tag : BitVec 16) (slot : Byte) (f : StreamFields) (s : State) : Answer :=
  match tagOfWord tag, kindOfByte f.kind with
  | some t, some k =>
    if h : slot.toNat < 8 then
      if fieldsInRange f = false then refuse .badValue s
      else
        let s := s.checkStation .request t
        let e := s.station t
        if e.state = .free then refuse .unknownTag s
        else if e.state.servable = false then refuse .badState s
        else if (s.slotStream t ⟨slot.toNat, h⟩).isSome then refuse .badValue s
        else
          match s.laneRefusal k f e.laneSet with
          | some o => refuse o s
          | none =>
            let l := (fieldLane k f).getD 0
            if s.overCap k l (s.shareSum l) (askedShare k f) then refuse .noRoom s
            else
              match s.lowestFree with
              | none => refuse .noRoom s
              | some i =>
                let s := s.addStream i t ⟨slot.toNat, h⟩ k f l
                carryOut (.streamAdd i (s.stream i) (if k = .cadenced then some (s.shareSum l) else none)) s
    else refuse .badValue s
  | _, _ => refuse .badValue s

/-- STREAM_ADD (R78, R79). -/
def execStreamAdd (req : Req) (tag : BitVec 16) (slot : Byte) (fields : StreamFields) (s : State) :
    Host.Outcome State Fault Refusal :=
  s.request kindStreamAdd 17 req (streamAddRule tag slot fields)

/-! ### STREAM_CHANGE -/

/-- On a lane where the stream stands on a list, it leaves its old class list for the tail of the new one (R80). -/
def State.reclass (i : Nat) (old new : Fin 4) (s : State) (l : LaneId) : State :=
  if i ∈ s.list l old then (s.leaveList l old i).joinList l new i else s

/-- The list places of a bidding stream after a change (R80). -/
def State.replaceLists (s : State) (i : Nat) (old : StreamEntry) : State :=
  let e := s.stream i
  let s := if e.cls = old.cls then s else allLanes.foldl (State.reclass i old.cls e.cls) s
  let s := (lanesOf (old.laneSet &&& ~~~e.laneSet)).foldl (State.leaveLane · i ·) s
  (lanesOf (e.laneSet &&& ~~~old.laneSet)).foldl (fun s l => if s.listable i then s.joinList l e.cls i else s) s

/-- The share, and where the lane, c or φ changed the N, of a cadenced stream after a change (R80). -/
def State.replaceCadence (s : State) (i : Nat) (old : StreamEntry) : State :=
  let e := s.stream i
  let s := (s.dropShare i).recordShare i e.lane (laneShare e.z e.c)
  if e.lane = old.lane ∧ e.c = old.c ∧ e.phase = old.phase then s
  else s.modStream i fun e => { e with N := firstNominal (s.nextUnbuilt e.lane) e.c e.phase }

/-- A STREAM_CHANGE carried out (R80). -/
def State.changeStream (s : State) (i : Nat) (k : StreamKind) (f : StreamFields) (l : LaneId) : State :=
  let old := s.stream i
  let s := s.modStream i fun e => e.withFields k f l
  match k with
  | .bidding => s.replaceLists i old
  | .cadenced => s.replaceCadence i old

/-- The owner's entry, read with a check; a recorded owner outside the tags names no entry. -/
def State.checkOwner (s : State) (i : Nat) : State :=
  match (s.stream i).owner with
  | some (t, _) => if 1 ≤ t ∧ t ≤ Config.stations then s.checkStation .request t else s
  | none => s

/-- The entry of the recorded owner tag. -/
def State.ownerEntry (s : State) (i : Nat) : StationEntry :=
  match (s.stream i).owner with
  | some (t, _) => s.station t
  | none => StationEntry.free

/-- Checks 5 to 7 of R80, and the change. -/
def changeOwn (i : Nat) (k : StreamKind) (f : StreamFields) (s : State) : Answer :=
  let s := s.checkOwner i
  let o := s.ownerEntry i
  if o.state.servable = false then refuse .badState s
  else
    match s.laneRefusal k f o.laneSet with
    | some r => refuse r s
    | none =>
      let l := (fieldLane k f).getD 0
      let r := s.reservedOf i
      let sum := if r.lane = l then s.shareSum l - r.amount else s.shareSum l
      if s.overCap k l sum (askedShare k f) then refuse .noRoom s
      else
        let s := s.changeStream i k f l
        carryOut (.streamChange (s.stream i)) s

/-- STREAM_CHANGE's own rule, its checks in the order of R80. -/
def streamChangeRule (index : BitVec 16) (f : StreamFields) (s : State) : Answer :=
  match kindOfByte f.kind with
  | none => refuse .badValue s
  | some k =>
    let i := index.toNat
    if Config.streams ≤ i ∨ fieldsInRange f = false then refuse .badValue s
    else
      let s := s.checkStream .request i
      let e := s.stream i
      match e.state with
      | .free | .retiring => refuse .unknownStream s
      | .quarantined | .corrupt _ => refuse .badState s
      | .inUse => if e.kind ≠ k then refuse .badValue s else changeOwn i k f s

/-- STREAM_CHANGE (R80). -/
def execStreamChange (req : Req) (index : BitVec 16) (fields : StreamFields) (s : State) : Host.Outcome State Fault Refusal :=
  s.request kindStreamChange 16 req (streamChangeRule index fields)

/-! ### STREAM_REMOVE -/

/-- Check 3 of R81 fails: the stream's owner for removal is QUARANTINED (R156). -/
def State.ownerQuarantined (s : State) (i : Nat) : Bool :=
  match s.ownerOf i with
  | some (t, _) => (s.station t).state = .quarantined
  | none => false

/-- STREAM_REMOVE's own rule, its checks in the order of R81. -/
def streamRemoveRule (index : BitVec 16) (s : State) : Answer :=
  let i := index.toNat
  if Config.streams ≤ i then refuse .badValue s
  else
    let s := s.checkStream .request i
    match (s.stream i).state with
    | .free | .retiring => refuse .unknownStream s
    | _ =>
      let s := s.checkOwner i
      if s.ownerQuarantined i then refuse .badState s
      else
        let s := s.removeStream i
        carryOut (.streamRemove (s.stream i).state) s

/-- STREAM_REMOVE (R81). -/
def execStreamRemove (req : Req) (index : BitVec 16) (s : State) : Host.Outcome State Fault Refusal :=
  s.request kindStreamRemove 2 req (streamRemoveRule index)

/-! ### STREAM_READ -/

/-- An entry as STREAM_READ returns it (R97). -/
def State.streamView (s : State) (i : Nat) : StreamView :=
  { index := i, entry := s.stream i, reserved := (s.reservedOf i).amount, lists := s.listedLanes i, refs := s.streamRefs i }

/-- The indices a STREAM_READ returns, in index order (R97). -/
def readIndices (first count : Nat) : List Nat := (List.range' first count).filter (· < Config.streams)

/-- STREAM_READ's own rule: each entry returned is read with a check (R97). -/
def streamReadRule (first : BitVec 16) (count : Byte) (s : State) : Answer :=
  if Config.streams ≤ first.toNat ∨ count.toNat = 0 ∨ Config.readEntries < count.toNat then refuse .badValue s
  else
    let is := readIndices first.toNat count.toNat
    let s := is.foldl (fun s i => s.checkStream .request i) s
    carryOut (.streamRead s.freeStreams s.streams.shareSums (is.map s.streamView)) s

/-- STREAM_READ (R97). -/
def execStreamRead (req : Req) (first : BitVec 16) (count : Byte) (s : State) : Host.Outcome State Fault Refusal :=
  s.request kindStreamRead 3 req (streamReadRule first count)

end Sys2Proof.Machine
end

