-- ==== Sys2Proof/Machine/Dispatch.lean ====
section
/-! DEFINITION. The one dispatch: an arm for every command, each a direct call of its meaning. -/

namespace Sys2Proof.Machine

def exec (i : Instr) (s : State) : Host.Outcome State Fault Refusal :=
  match i with
  | .plantTimeCount => Sys2Proof.Machine.execPlantTimeCount s
  | .resetAssert => Sys2Proof.Machine.execResetAssert s
  | .resetRelease => Sys2Proof.Machine.execResetRelease s
  | .startingClearingCompletes => Sys2Proof.Machine.execStartingClearingCompletes s
  | .frameStart => Sys2Proof.Machine.execFrameStart s
  | .noneFrame extra => Sys2Proof.Machine.execNoneFrame extra s
  | .headerIncomplete bytes => Sys2Proof.Machine.execHeaderIncomplete bytes s
  | .malformedRequest kind reference bodyLen frameBytes => Sys2Proof.Machine.execMalformedRequest kind reference bodyLen frameBytes s
  | .laneSetup req body => Sys2Proof.Machine.execLaneSetup req body s
  | .laneStart req lane => Sys2Proof.Machine.execLaneStart req lane s
  | .laneStop req lane => Sys2Proof.Machine.execLaneStop req lane s
  | .laneRead req lane => Sys2Proof.Machine.execLaneRead req lane s
  | .claimSetup req body => Sys2Proof.Machine.execClaimSetup req body s
  | .partSetup req body => Sys2Proof.Machine.execPartSetup req body s
  | .stationAdmit req body => Sys2Proof.Machine.execStationAdmit req body s
  | .stationHold req tag => Sys2Proof.Machine.execStationHold req tag s
  | .stationResume req tag => Sys2Proof.Machine.execStationResume req tag s
  | .stationRelease req tag => Sys2Proof.Machine.execStationRelease req tag s
  | .stationRead req first count => Sys2Proof.Machine.execStationRead req first count s
  | .streamAdd req tag slot fields => Sys2Proof.Machine.execStreamAdd req tag slot fields s
  | .streamChange req index fields => Sys2Proof.Machine.execStreamChange req index fields s
  | .streamRemove req index => Sys2Proof.Machine.execStreamRemove req index s
  | .streamRead req first count => Sys2Proof.Machine.execStreamRead req first count s
  | .scrub req => Sys2Proof.Machine.execScrub req s
  | .memoryTest req => Sys2Proof.Machine.execMemoryTest req s
  | .attentionArm req h => Sys2Proof.Machine.execAttentionArm req h s
  | .fetch req => Sys2Proof.Machine.execFetch req s
  | .restart req => Sys2Proof.Machine.execRestart req s
  | .receptionFrameShort port frameLen => Sys2Proof.Machine.execReceptionFrameShort port frameLen s
  | .receptionUnknownKind head kind => Sys2Proof.Machine.execReceptionUnknownKind head kind s
  | .bid head tagWord slot seq amount source => Sys2Proof.Machine.execBid head tagWord slot seq amount source s
  | .tally head offered clean collided empty => Sys2Proof.Machine.execTally head offered clean collided empty s
  | .resultTagged head form tagWord et ep quality => Sys2Proof.Machine.execResultTagged head form tagWord et ep quality s
  | .resultAddressForm head addr et ep quality => Sys2Proof.Machine.execResultAddressForm head addr et ep quality s
  | .noShow head tagWord => Sys2Proof.Machine.execNoShow head tagWord s
  | .mark head => Sys2Proof.Machine.execMark head s
  | .spanHandover lane => Sys2Proof.Machine.execSpanHandover lane s
  | .spanSkip lane span => Sys2Proof.Machine.execSpanSkip lane span s
  | .buildBegin => Sys2Proof.Machine.execBuildBegin s
  | .stageA1CadencedWalk => Sys2Proof.Machine.execStageA1CadencedWalk s
  | .stageA2AlignmentTurns => Sys2Proof.Machine.execStageA2AlignmentTurns s
  | .stageA3OpenWindow => Sys2Proof.Machine.execStageA3OpenWindow s
  | .stageBClaimFloor => Sys2Proof.Machine.execStageBClaimFloor s
  | .stageCVisit => Sys2Proof.Machine.execStageCVisit s
  | .stageDLeftoverClaims => Sys2Proof.Machine.execStageDLeftoverClaims s
  | .pendingSelection => Sys2Proof.Machine.execPendingSelection s
  | .buildCompletion => Sys2Proof.Machine.execBuildCompletion s
  | .planExpiry lane seq => Sys2Proof.Machine.execPlanExpiry lane seq s
  | .framerReady level => Sys2Proof.Machine.execFramerReady level s
  | .transmitStart => Sys2Proof.Machine.execTransmitStart s
  | .transmitEnd => Sys2Proof.Machine.execTransmitEnd s
  | .coveredUntilExpiry lane => Sys2Proof.Machine.execCoveredUntilExpiry lane s
  | .maintenanceDue tag => Sys2Proof.Machine.execMaintenanceDue tag s
  | .holdoffExpiry => Sys2Proof.Machine.execHoldoffExpiry s
  | .scrubStep => Sys2Proof.Machine.execScrubStep s
  | .memoryTestEnd mismatch => Sys2Proof.Machine.execMemoryTestEnd mismatch s

end Sys2Proof.Machine
end

