-- ==== Sys2Proof/Safety.lean ====
section
/-! DEFINITION. What a safe run keeps: the invariants of the part as the rules state them, in the terms the statements use; the
timed events that fall due at the present plant time; and the shapes in which statements speak of frames. -/

namespace Sys2Proof.Machine

/-! ### Invariants -/

/-- The attention gate is never OPEN with a record waiting, and a holdoff expiry is held exactly while it is HOLDOFF (R169). -/
abbrev State.gateSound (s : State) : Prop :=
  (s.port.gate = .opened → s.port.replies = [] ∧ s.port.reports = []) ∧ (s.port.holdoff.isSome ↔ s.port.gate = .holdoff)

/-- The queues of the Control Port keep their bounds, and the overrun mark is set exactly while reports are counted as lost
(R167, R168). -/
abbrev State.queuesBounded (s : State) : Prop :=
  s.port.replies.length ≤ Config.replies ∧ s.port.reports.length ≤ Config.reports ∧ s.port.lost ≤ Config.reportsLost ∧
    (s.port.overrun = true ↔ 0 < s.port.lost)

/-- Every lane is IDLE. -/
abbrev State.allIdle (s : State) : Prop := ∀ l : LaneId, (s.lane l).state = .idle

/-- CONFIG and RUNNING follow the lane states; in STARTING and TESTING every lane is IDLE (R171, R150). -/
abbrev State.partFollowsLanes (s : State) : Prop :=
  match s.port.part with
  | .running => ¬s.allIdle
  | .starting | .config | .testing => s.allIdle

/-- The sparse tables are in their one canonical form (the model's own: log entry 20). -/
abbrev State.tablesCanonical (s : State) : Prop :=
  Table.wf StationEntry.free s.stations.entries = true ∧ Table.wf StreamEntry.free s.streams.entries = true ∧
    Table.wf Reserved.none s.streams.reserved = true ∧ Table.wf 0 s.refs.stations = true ∧ Table.wf 0 s.refs.streams = true

/-- The words of a memory test in progress are in the same form (log entries 17 and 20). -/
abbrev State.testWordsCanonical (s : State) : Prop := ∀ m ∈ s.integrity.memTest, Table.wf 0 m.words = true

/-- For every stream, the planned bytes never exceed the demand, and the demand keeps its bound (R84). -/
abbrev State.demandSound (s : State) : Prop :=
  ∀ r ∈ s.streams.entries, r.2.G ≤ r.2.D ∧ r.2.D ≤ Config.demandMax

/-- Each lane's plan history holds at most 4 entries and its notice queue at most 96 notices (R8, R12). -/
abbrev State.lanesBounded (s : State) : Prop :=
  ∀ l : LaneId, (s.lane l).history.length ≤ Config.history ∧ (s.lane l).notices.length ≤ Config.notices

/-- The clamped settings of a Claim Controller are in order (R99). -/
abbrev ClaimSettings.inOrder (c : ClaimSettings) : Prop :=
  1 ≤ c.cMin ∧ c.cMin ≤ c.cOpen ∧ c.cOpen ≤ c.cMax ∧ c.cMax ≤ 512

/-- T is present on every lane that is not IDLE, and lies within C_min and C_max wherever it is present (R98, R100). -/
abbrev State.claimsSound (s : State) : Prop :=
  ∀ l : LaneId, (s.claim l).settings.inOrder ∧
    (∀ T ∈ (s.claim l).target, (s.claim l).settings.cMin ≤ T ∧ T ≤ (s.claim l).settings.cMax) ∧
    ((s.lane l).state ≠ .idle → (s.claim l).target.isSome = true)

/-- The turn covers the quantum at offset `q`. -/
abbrev Turn.covers (t : Turn) (q : Nat) : Prop := t.start ≤ q ∧ q < t.stop

/-- Two turns share no quantum. -/
abbrev Turn.apart (t u : Turn) : Prop := t.stop ≤ u.start ∨ u.stop ≤ t.start

/-- The turn list of a span of S quanta with claim slots of b quanta: turns within the span, none of them sharing a quantum, in
order of start, at most 240, and every claim window a whole number of slots (R113). -/
abbrev turnsShaped (S b : Nat) (turns : List Turn) : Prop :=
  turns.length ≤ Config.turns ∧ turns.Pairwise (fun t u => t.start ≤ u.start ∧ t.apart u) ∧
    ∀ t ∈ turns, 1 ≤ t.len ∧ t.stop ≤ S ∧ (t.kind = .claim → t.len = t.slots * b)

/-- The draft, the queued plans and the record being sent have shaped turn lists. -/
abbrev State.plansShaped (s : State) : Prop :=
  (∀ d ∈ s.builder.draft, turnsShaped d.setup.S d.setup.b d.turns ∧ ∀ t ∈ d.turns, t.floor = true → t.kind = .claim) ∧
    (∀ p ∈ s.link.queue, turnsShaped p.record.S p.record.b p.record.turns) ∧
    ∀ r ∈ s.link.sending, turnsShaped r.S r.b r.turns

/-! ### Timed events (R2) -/

/-- A timed event of the part falls due at the present plant time: a build point of a LIVE lane, a skip time, an expiry of a
queued plan, the end of a covered span, a maintenance due time or the holdoff expiry. -/
def State.timedDue (s : State) : Bool :=
  allLanes.any (fun l => s.isLive l && s.now == (s.spanOf l (s.lane l).nextSpan).buildPoint) ||
  s.builder.waiting.any (fun w => s.now == w.start - tu (s.setupOf w.lane).Df + 1) ||
  s.link.queue.any (fun p => !p.expired && s.now == p.record.start - tu (s.setupOf p.record.lane).Df + 1) ||
  allLanes.any (fun l => (s.lane l).coveredUntil == some s.now) ||
  s.stations.entries.any (fun r => r.2.state.kept && r.2.due == s.now && !s.align.dueQueue.contains r.1) ||
  (s.port.gate = .holdoff && s.port.holdoff == some s.now)

/-- A queue of commands is punctual from a state when no count of plant time is taken while a timed event is due: the runs in
which the part's own timed events come when R2 says they do (log entry 5). -/
def punctual : List Instr → State → Prop
  | [], _ => True
  | c :: rest, s =>
    (c = .plantTimeCount → s.resetPin = false → s.timedDue = false) ∧ ∀ t, exec c s = .next t → punctual rest t

/-! ### Frames, as the statements speak of them -/

/-- At the frame end of `n` bytes, `d` is the state at step 3: the pin is released, a frame is in progress, and steps 1 and 2
have been made for its outgoing record (R163). -/
abbrev State.atStep3 (s : State) (n : Nat) (d : State) : Prop :=
  s.resetPin = false ∧ ∃ o, s.port.frame = some o ∧ d = s.deliver o n

/-- The request taken at step 3 reaches its own rule: a reply has a place, and the part is in CONFIG or RUNNING (R164, R165). -/
abbrev State.open_ (d : State) : Prop :=
  d.port.replies.length < Config.replies ∧ (d.port.part = .config ∨ d.port.part = .running)

/-- The state after the frame end that answered a request: the reply at the tail of the reply queue, then step 4 (R163,
R165). -/
def State.replied (d : State) (kind reference : Byte) (o : ReqOutcome) (body : ReplyBody) : State :=
  ((d.queueReply kind reference o body).gateStep).closeFrame

/-! ### Records on an open lane -/

/-- The state once a record has passed check 1 of R27: its port's watermark is the serial maximum of itself and the reception
time (R31). -/
def State.seen (s : State) (h : RecordHead) : State :=
  s.modRx h.port fun p => { p with watermark := if earlier p.watermark h.time then h.time else p.watermark }

/-- What entry of lane `l` into FAULTED leaves of the state `s`, at a drop that gives back `plans`: the dropped plan, if there was one,
and the lane's plans still queued. The lane is FAULTED with no history, notices or waiting spans. Streams have G lowered by the covers,
and stand on their lists where that raised A from 0; references fall for the plans and for the history; marks of those plans' turns and
of the history's unresolved turns are cleared; and stations at home on the lane move to the lowest LIVE lane of their set or are paused
(R11, R18, R52, R90). -/
def State.faultedTo (s t : State) (l : LaneId) (plans : List Plan) : Prop :=
  t.lane l = { s.lane l with state := .faulted, history := [], notices := [], drops := (t.lane l).drops,
                             counters := (t.lane l).counters } ∧
  (∀ m : LaneId, m ≠ l → (t.lane m).state = (s.lane m).state ∧ (t.lane m).history = (s.lane m).history) ∧
  t.builder = { s.builder with waiting := s.builder.waiting.filter fun v => v.lane ≠ l } ∧ t.claims = s.claims ∧ t.ports = s.ports ∧
  (∀ k, t.stationRefs k = s.stationRefs k -
    ((plans.map fun p => p.stations.count k).sum + ((s.lane l).history.map fun h => h.stations.count k).sum)) ∧
  (∀ i, t.streamRefs i = s.streamRefs i -
    ((plans.map fun p => p.streams.count i).sum + ((s.lane l).history.map fun h => h.streams.count i).sum)) ∧
  (∀ i, (s.stream i).state = .inUse → (t.stream i).state = .inUse ∧ (t.stream i).D = (s.stream i).D ∧
    (t.stream i).G = (s.stream i).G -
      (((plans.flatMap (·.data)).filter fun x => x.stream = i).map (·.cover)).sum ∧
    ((s.stream i).kind = .bidding → s.ownerIs (s.stream i) .active = true → (s.stream i).D ≤ (s.stream i).G →
      (t.stream i).G < (t.stream i).D → ∀ m : LaneId, inSet (s.stream i).laneSet m = true → i ∈ t.list m (s.stream i).cls)) ∧
  ∀ k, (s.station k).state.kept = true →
    let e := s.station k
    let low := ([0, 1, 2, 3, 4, 5, 6, 7] : List LaneId).find? fun m =>
      decide (m ≠ l ∧ inSet e.laneSet m = true ∧ (s.lane m).state = .live)
    let cleared := (∃ p ∈ plans, e.outstanding = some (l, p.record.seq) ∧ ∃ x ∈ p.record.turns, x.kind = .align ∧ x.tag = k) ∨
      ∃ h ∈ (s.lane l).history, e.outstanding = some (l, h.seq) ∧ ∃ a ∈ h.turns, a.tag = k ∧ a.resolved = false
    (t.station k).state = e.state ∧ (cleared → (t.station k).outstanding = none) ∧
    (¬cleared → (t.station k).outstanding = e.outstanding) ∧
    (e.home ≠ l ∨ e.paused = true → (t.station k).home = e.home ∧ (t.station k).paused = e.paused) ∧
    (∀ m, e.home = l → e.paused = false → low = some m → (t.station k).home = m ∧ (t.station k).paused = false) ∧
    (e.home = l → e.paused = false → low = none → (t.station k).home = l ∧ (t.station k).paused = true)

end Sys2Proof.Machine

namespace Sys2Proof

open Machine

/-! ### Requests and records among the commands -/

/-- The kind, the body length and the frame's own fields of a command that is the frame end of a well-formed request other than
RESTART (R164, R175). -/
def Instr.requestOf : Instr → Option (Byte × Nat × Req)
  | .laneSetup req _ => some (kindLaneSetup, 36, req)
  | .laneStart req _ => some (kindLaneStart, 1, req)
  | .laneStop req _ => some (kindLaneStop, 1, req)
  | .laneRead req _ => some (kindLaneRead, 1, req)
  | .claimSetup req _ => some (kindClaimSetup, 12, req)
  | .partSetup req _ => some (kindPartSetup, 8, req)
  | .stationAdmit req _ => some (kindStationAdmit, 4, req)
  | .stationHold req _ => some (kindStationHold, 2, req)
  | .stationResume req _ => some (kindStationResume, 2, req)
  | .stationRelease req _ => some (kindStationRelease, 2, req)
  | .stationRead req _ _ => some (kindStationRead, 3, req)
  | .streamAdd req _ _ _ => some (kindStreamAdd, 17, req)
  | .streamChange req _ _ => some (kindStreamChange, 16, req)
  | .streamRemove req _ => some (kindStreamRemove, 2, req)
  | .streamRead req _ _ => some (kindStreamRead, 3, req)
  | .attentionArm req _ => some (kindAttentionArm, 2, req)
  | .scrub req => some (kindScrub, 0, req)
  | .memoryTest req => some (kindMemoryTest, 0, req)
  | .fetch req => some (kindFetch, 0, req)
  | _ => none

/-- The common fields of a command that is the arrival of a reception record (R22). -/
def Instr.recordHead : Instr → Option RecordHead
  | .receptionUnknownKind h _ => some h
  | .bid h _ _ _ _ _ => some h
  | .tally h _ _ _ _ => some h
  | .resultTagged h _ _ _ _ _ => some h
  | .resultAddressForm h _ _ _ _ => some h
  | .noShow h _ => some h
  | .mark h => some h
  | _ => none

/-- A condition of R28 holds of the record. -/
def Instr.recordMalformed : Instr → Bool
  | .receptionUnknownKind _ _ => true
  | .bid h w slot seq amount source => bidMalformed h w slot seq amount source
  | .tally h offered clean collided empty => tallyMalformed h offered clean collided empty
  | .resultTagged h form w et ep quality => taggedMalformed h form w et ep quality
  | .resultAddressForm h addr et ep quality => addressMalformed h addr et ep quality
  | .noShow h w => h.frameLen != 12 || tagOfTagWord w == 0
  | .mark h => h.frameLen != 8
  | _ => false

/-- The tag word of a record that carries a tag: a BID, a NO_SHOW or a tagged RESULT (R29). -/
def Instr.recordTag : Instr → Option (BitVec 16)
  | .bid _ w _ _ _ _ => some w
  | .resultTagged _ _ w _ _ _ => some w
  | .noShow _ w => some w
  | _ => none

end Sys2Proof
end

