-- ==== Sys2Proof/Certificates/Slice0/Obligations.lean ====
section
/-! DEFINITION. The statements for the provers. `s.atStep3 n d` says that the frame end of n bytes has made its steps 1 and 2 and
stands at `d`; `d.replied …` is the state after the reply has been queued and step 4 made (R163). An equation for the next state
states the frame too: what the right side does not write is unchanged. -/

open Sys2Proof Sys2Proof.Machine

/-! ### Steps, pins and reset -/

/-- The command at the front of the queue is run on the state with the queue's rest; on an empty queue the part idles, which
changes nothing while no memory test is in progress (that the idle step is the test's next access is the model's: log entry 17). -/
def Obligations.StepRunsTheFrontCommand : Prop :=
  (∀ (c : Instr) (rest : List Instr) (s : State), step (s.withPending (c :: rest)) = exec c (s.withPending rest)) ∧
  ∀ s : State, s.pending = [] → s.integrity.memTest = none → step s = .next s

/-- Every command answers a next state, since the manual gives each an effect, if only that nothing changes (read from the manual:
log entry 21), and leaves the commands that wait behind it (the queue is the model's own: log entry 16). -/
def Obligations.EveryCommandAnswersAndKeepsTheQueue : Prop :=
  ∀ (c : Instr) (s : State), ∃ t, exec c s = .next t ∧ t.pending = s.pending

/-- What reset leaves, as the rules give it: R13, R17, R19 (lanes), R31 (watermarks), R35, R38, R39 (stations), R53 (references),
R56 (settings), R75, R77, R91 (streams), R98 (claims), R135, R142, R144 (builder and link), R157 (scrub), R172 (Control Port). -/
def Obligations.ResetLeavesTheStatedValues : Prop :=
  let s := State.reset
  s.now = 0 ∧
  (∀ l : LaneId, s.lane l = Lane.reset ∧ (s.lane l).state = .idle ∧ (s.lane l).setup = none ∧ (s.rx l).watermark = 0) ∧
  (∀ l : LaneId, s.claim l =
    { mode := .opening, target := none, missing := 0,
      settings := { cMin := 2, cMax := 128, cOpen := 16, gain := 1, boost := 1, Gs := 4, K := 5, bs := 2 } }) ∧
  s.align.settings = { tolT := 24, tolP := 4, aMax := 5, qMin := 12, miTu := 160000000, creditUnit := 256 } ∧
  s.align.dueQueue = [] ∧
  (∀ t, s.station t = StationEntry.free) ∧ s.stations.freeTags = List.range' 1 4095 ∧ s.stations.joinMap = [] ∧
  (∀ i, s.stream i = StreamEntry.free) ∧ (∀ i, (s.reservedOf i).amount = 0) ∧ (∀ l : LaneId, s.shareSum l = 0) ∧
  (∀ (l : LaneId) (k : Fin 4), s.list l k = []) ∧
  (∀ t, s.stationRefs t = 0) ∧ (∀ i, s.streamRefs i = 0) ∧
  s.builder = { waiting := [], draft := none } ∧ s.link = { queue := [], sending := none } ∧
  s.integrity.scrub = none ∧
  s.port.part = .starting ∧ s.port.startCause = .powerOn ∧ s.port.replies = [] ∧ s.port.reports = [] ∧
  s.port.overrun = false ∧ s.port.lost = 0 ∧ s.port.gate = .opened ∧ s.port.holdoff = none

/-- PLANT_TIME_COUNT adds one to plant time, wrapping at 2^32, and nothing else of the part changes but the model's own note of
the due queue's latest members (log entry 16). -/
def Obligations.PlantTimeCountAddsOne : Prop :=
  ∀ s : State, s.resetPin = false →
    exec .plantTimeCount s = .next { s with now := s.now + 1, align := { s.align with dueFresh := [] } }

/-- While the reset pin is asserted the part shifts out the empty marker, and no command but the pin's own and the framer's level
changes the part. -/
def Obligations.AssertedResetPinHoldsThePart : Prop :=
  ∀ s : State, s.resetPin = true →
    (∀ n, s.shiftedOut n = List.replicate n 0) ∧
    ∀ c : Instr, c ≠ .resetAssert → c ≠ .resetRelease → (∀ b, c ≠ .framerReady b) → exec c s = .next s

/-- RESET_ASSERT brings every block to its reset values; RESET_RELEASE leaves STARTING with the start cause POWER_ON and plant
time 0. The waiting commands and the framer's ready level are not the part's (log entries 1 and 16). -/
def Obligations.ResetPinBringsResetValues : Prop :=
  ∀ s : State,
    exec .resetAssert s = .next { State.reset with pending := s.pending, ready := s.ready, resetPin := true } ∧
    (s.resetPin = true → exec .resetRelease s = .next { State.reset with pending := s.pending, ready := s.ready }) ∧
    State.reset.port.part = .starting ∧ State.reset.port.startCause = .powerOn ∧ State.reset.now = 0

/-- RESTART at the frame end of its frame resets the part in every part state and whatever the queues hold, with the start cause
RESTART and no reply. The framer's ready level and the waiting commands are not the part's and stay (log entries 1 and 16). -/
def Obligations.RestartResetsThePart : Prop :=
  ∀ (s : State) (req : Req), s.resetPin = false → s.port.frame.isSome = true →
    exec (.restart req) s =
      .next { State.reset with
        pending := s.pending, ready := s.ready, port := { ControlPort.reset with startCause := .restart } }

/-- The clearing of STARTING completes: every table at its reset contents, CONFIG, and STARTED with the start cause. -/
def Obligations.ClearingEndsStarting : Prop :=
  ∀ s : State, s.resetPin = false → s.port.part = .starting →
    ∃ t, exec .startingClearingCompletes s = .next t ∧ t.port.part = .config ∧
      t.stations = StationTable.reset ∧ t.streams = StreamTable.reset ∧ t.refs = RefTable.reset ∧ t.align.dueQueue = [] ∧
      (s.port.reports.length < 64 → t.port.reports = s.port.reports ++ [⟨s.now, .started s.port.startCause⟩]) ∧
      t.port.replies = s.port.replies ∧
      t = { s with stations := t.stations, streams := t.streams, refs := t.refs,
                   align := { s.align with dueQueue := [], dueFresh := [] }, port := t.port }

/-! ### Frames, the gate and the queues of the Control Port -/

/-- FRAME_START chooses the head reply, else the head report, else the empty marker; the frame shifts that record out, and zeros
beyond its end. -/
def Obligations.FrameStartChoosesTheOutgoingRecord : Prop :=
  (∀ s : State, s.resetPin = false → s.port.frame = none →
    exec .frameStart s =
      .next { s with port := { s.port with
        frame := some (match s.port.replies, s.port.reports with
          | r :: _, _ => .reply r
          | [], r :: _ => .report r
          | [], [] => .empty) } }) ∧
  ∀ (s : State) (o : Outgoing) (n : Nat), s.resetPin = false → s.port.frame = some o →
    s.shiftedOut n = (o.bytes ++ List.replicate n 0).take n

/-- Step 1 and step 2 of a frame end: a record carried whole leaves its queue, a carried-out ATTENTION_ARM's reply sets the gate
by h, and a report removed under the overrun mark gives its place to OVERRUN. -/
def Obligations.FrameEndDeliversAndArms : Prop :=
  ∀ (s : State) (n : Nat),
    (∀ o, n < o.bytes.length → s.deliver o n = s) ∧
    s.deliver .empty n = s ∧
    (∀ r : Reply, (Outgoing.reply r).bytes.length ≤ n → r.arming = none →
      s.deliver (.reply r) n = { s with port := { s.port with replies := s.port.replies.tail } }) ∧
    (∀ (r : Reply) (h : BitVec 16), (Outgoing.reply r).bytes.length ≤ n → r.outcome = .done → r.body = .attentionArm h →
      s.deliver (.reply r) n =
        { s with port := { s.port with
          replies := s.port.replies.tail,
          gate := if h = 0 then .opened else if h = 65535 then .suspended else .holdoff,
          holdoff := if h = 0 ∨ h = 65535 then none else some (s.now + BitVec.ofNat 32 (h.toNat * 1600)) } }) ∧
    (∀ r : Report, (Outgoing.report r).bytes.length ≤ n → s.port.overrun = false →
      s.deliver (.report r) n = { s with port := { s.port with reports := s.port.reports.tail } }) ∧
    (∀ r : Report, (Outgoing.report r).bytes.length ≤ n → s.port.overrun = true → s.port.reports ≠ [] →
      s.port.reports.length ≤ 64 →
      s.deliver (.report r) n =
        { s with port := { s.port with
          reports := s.port.reports.tail ++ [⟨s.now, .overrunReports s.port.lost⟩], overrun := false, lost := 0,
          gate := if s.port.gate = .opened then .latched else s.port.gate } })

/-- A frame end without a request makes its steps 1 and 2 and then step 4: a LATCHED gate with both queues empty becomes
SUSPENDED, an OPEN one with a record waiting LATCHED. Fewer than 4 bytes carry no outgoing record whole. -/
def Obligations.FrameEndWithoutRequest : Prop :=
  ∀ (s d : State) (k : Nat) (b : Fin 4),
    (s.atStep3 (4 + k) d → exec (.noneFrame k) s = .next d.gateStep.closeFrame) ∧
    (s.atStep3 b.val d → d = s ∧ exec (.headerIncomplete b) s = .next s.gateStep.closeFrame) ∧
    d.gateStep.closeFrame = { d with port := { d.port with frame := none, gate :=
      if d.port.replies = [] ∧ d.port.reports = [] then (if d.port.gate = .latched then .suspended else d.port.gate)
      else (if d.port.gate = .opened then .latched else d.port.gate) } }

/-- A block's report joins the tail of a queue of fewer than 64 with the plant time, and latches an OPEN gate; a full queue loses
it, sets the mark and counts it. -/
def Obligations.ReportQueuedOrLost : Prop :=
  ∀ (s : State) (b : ReportBody),
    (s.port.reports.length < 64 →
      s.raise b = { s with port := { s.port with
        reports := s.port.reports ++ [⟨s.now, b⟩], gate := if s.port.gate = .opened then .latched else s.port.gate } }) ∧
    (64 ≤ s.port.reports.length →
      s.raise b = { s with port := { s.port with overrun := true, lost := min (s.port.lost + 1) 65535 } })

/-- The checks 4 and 6 of R164 for every request but RESTART: lost to a full reply queue with OVERRUN (REQUEST_LOST), refused
with BUSY in STARTING, and in TESTING unless it is FETCH; in CONFIG and RUNNING it is answered, and the reply echoes kind and
reference. -/
def Obligations.RequestChecksBeforeItsOwnRule : Prop :=
  ∀ (c : Instr) (kind : Byte) (len : Nat) (req : Req) (s d : State),
    c.requestOf = some (kind, len, req) → s.atStep3 (4 + len + req.extra) d →
    (8 ≤ d.port.replies.length →
      exec c s = .next ((d.raise (.overrunRequest kind req.reference)).gateStep).closeFrame) ∧
    (d.port.replies.length < 8 → d.port.part = .starting →
      exec c s = .next (d.replied kind req.reference .busy .empty)) ∧
    (d.port.replies.length < 8 → d.port.part = .testing → kind ≠ 20 →
      exec c s = .next (d.replied kind req.reference .busy .empty)) ∧
    (d.open_ → ∃ (t : State) (o : ReqOutcome) (body : ReplyBody), exec c s = .next (t.replied kind req.reference o body))

/-- A malformed request record is refused with MALFORMED, echoing kind and reference, unless a full reply queue loses it. -/
def Obligations.MalformedRequestIsRefused : Prop :=
  ∀ (kind reference : Byte) (len : BitVec 16) (n : Nat) (s d : State),
    (Instr.malformedRequest kind reference len n).wellFormed = true → s.atStep3 n d →
    (d.port.replies.length < 8 →
      exec (.malformedRequest kind reference len n) s = .next (d.replied kind reference .malformed .empty)) ∧
    (8 ≤ d.port.replies.length →
      exec (.malformedRequest kind reference len n) s =
        .next ((d.raise (.overrunRequest kind reference)).gateStep).closeFrame)

/-- FETCH changes nothing and is answered DONE, in TESTING too; ATTENTION_ARM is answered DONE with h, and sets no gate when it
is taken. -/
def Obligations.FetchAndArmAreAnsweredDone : Prop :=
  ∀ (s d : State) (req : Req) (h : BitVec 16),
    (s.atStep3 (4 + req.extra) d → d.port.replies.length < 8 → d.port.part ≠ .starting →
      exec (.fetch req) s = .next (d.replied 20 req.reference .done .empty)) ∧
    (s.atStep3 (6 + req.extra) d → d.open_ →
      exec (.attentionArm req h) s = .next (d.replied 16 req.reference .done (.attentionArm h)))

/-! ### The Integrity Unit -/

/-- SCRUB begins at station tag 1 with every count 0, and is BUSY while one runs; MEMORY_TEST outside CONFIG, while a scrub runs
or a build is in progress, or with tables not empty is refused in that order, and otherwise makes the part TESTING, with the
first word of STATION to be filled first (that the words are held from there on is the model's: log entry 17). -/
def Obligations.ScrubAndMemoryTestBegin : Prop :=
  ∀ (s d : State) (req : Req), s.atStep3 (4 + req.extra) d → d.open_ →
    (d.integrity.scrub = none →
      exec (.scrub req) s =
        .next ({ d with integrity := { d.integrity with
          scrub := some { pos := .station 1, quarantined := 0, rewritten := 0, waiting := 0 } } }.replied 17 req.reference
            .done .empty)) ∧
    (d.integrity.scrub.isSome = true → exec (.scrub req) s = .next (d.replied 17 req.reference .busy .empty)) ∧
    (d.port.part = .running → exec (.memoryTest req) s = .next (d.replied 18 req.reference .badState .empty)) ∧
    (d.port.part = .config → d.integrity.scrub.isSome = true ∨ d.builder.draft.isSome = true →
      exec (.memoryTest req) s = .next (d.replied 18 req.reference .busy .empty)) ∧
    (d.port.part = .config → d.integrity.scrub = none → d.builder.draft = none →
      d.stations.freeTags.length < 4095 ∨ d.freeStreams < 8192 →
      exec (.memoryTest req) s = .next (d.replied 18 req.reference .notEmpty .empty)) ∧
    (d.port.part = .config → d.integrity.scrub = none → d.builder.draft = none → 4095 ≤ d.stations.freeTags.length →
      8192 ≤ d.freeStreams →
      exec (.memoryTest req) s =
        .next ({ d with
          integrity := { d.integrity with
            memTest := some { next := some { table := .station, act := .fill, entry := 1, word := 0 }, words := [] } },
          port := { d.port with part := .testing } }.replied 18 req.reference .done .empty))

/-- A scrub step reads the entry at its position with a check and moves on to the next entry, stations before streams; the one at
stream index 8191 ends the scrub and reports SCRUB_DONE with 12,287 entries read. An entry that passes its check is left as it is.
A failed check is counted: newly quarantined, rewritten free, or left waiting; an entry QUARANTINED already raises no count (for a
station that is read from the model's note of the tags quarantined, for a stream from its state field: log entry 29). -/
def Obligations.ScrubStepReadsTheNextEntry : Prop :=
  ∀ (s : State) (c : Scrub), s.resetPin = false → s.integrity.scrub = some c →
    (∀ t, c.pos = .station t → (s.station t).checks = true →
      exec .scrubStep s = .next { s with integrity := { s.integrity with
        scrub := some { c with pos := if t < 4095 then .station (t + 1) else .stream 0 } } }) ∧
    (∀ i, c.pos = .stream i → i < 8191 → (s.stream i).checks = true →
      exec .scrubStep s = .next { s with integrity := { s.integrity with scrub := some { c with pos := .stream (i + 1) } } }) ∧
    (c.pos = .stream 8191 → (s.stream 8191).checks = true →
      exec .scrubStep s = .next ({ s with integrity := { s.integrity with scrub := none } }.raise
        (.scrubDone 12287 c.quarantined c.rewritten c.waiting))) ∧
    (∀ t, c.pos = .station t → (s.station t).checks = false →
      let pos := if t < 4095 then ScrubPos.station (t + 1) else .stream 0
      let counted := fun (r : State) (q w k : Nat) => r.integrity.scrub =
        some { pos := pos, quarantined := c.quarantined + q, rewritten := c.rewritten + w, waiting := c.waiting + k }
      (t ∈ s.stations.freeTags →
        ∃ r, exec .scrubStep s = .next r ∧ counted r 0 1 0 ∧ r.port = s.port ∧
          r.stations = (s.putStation t StationEntry.free).stations) ∧
      (t ∉ s.stations.freeTags → (∃ a, (a, t) ∈ s.stations.joinMap) → t ∈ s.stations.quarantined →
        ∃ r, exec .scrubStep s = .next r ∧ counted r 0 0 0 ∧ r.port = s.port) ∧
      (t ∉ s.stations.freeTags → (∃ a, (a, t) ∈ s.stations.joinMap) → t ∉ s.stations.quarantined →
        s.tablesCanonical → (∀ i, (s.stream i).checks = true) →
        ∃ r, exec .scrubStep s = .next r ∧ counted r 1 0 0 ∧
          (s.port.reports.length < 64 → r.port.reports = s.port.reports ++ [⟨s.now, .quarantined .station t .scrub⟩])) ∧
      (t ∉ s.stations.freeTags → (∀ a, (a, t) ∉ s.stations.joinMap) → 0 < s.stationRefs t →
        ∃ r, exec .scrubStep s = .next r ∧ counted r 0 0 1 ∧ r.port = s.port)) ∧
    (∀ i, c.pos = .stream i → i ≤ 8191 → (s.stream i).checks = false → s.port.reports.length < 63 →
      let e := s.stream i
      let idle := (e.state = .free ∨ e.state = .retiring) ∧ (s.reservedOf i).amount = 0
      let held := 0 < s.streamRefs i ∨ s.draftNamesStream i = true
      let counted := fun (q w k : Nat) (told : List Report) => ∃ r, exec .scrubStep s = .next r ∧
        (i < 8191 → r.port.reports = s.port.reports ++ told ∧ r.integrity.scrub = some
          { pos := .stream (i + 1), quarantined := c.quarantined + q, rewritten := c.rewritten + w, waiting := c.waiting + k }) ∧
        (i = 8191 → r.integrity.scrub = none ∧ r.port.reports = s.port.reports ++ told ++
          [⟨s.now, .scrubDone 12287 (c.quarantined + q) (c.rewritten + w) (c.waiting + k)⟩])
      (idle → ¬held → counted 0 1 0 []) ∧
      (idle → held → counted 0 0 1 []) ∧
      (e.state = .quarantined → counted 0 0 0 []) ∧
      (¬idle → e.state ≠ .quarantined → counted 1 0 0 [⟨s.now, .quarantined .stream i .scrub⟩]))

/-- The end of the memory test: when every read has been made, with PASS, or at the read that is next, with FAIL and a value found
there that was not written, TEST_RESULT, every table memory at its reset contents, and CONFIG; elsewhere nothing. Before it, while
no command waits, each step makes the test's next access: a write of the word's address pattern, of one bit alone or of 0, or a
read, which goes on when it finds what was written and stops the test when it does not; no two words have the same pattern. (That
an access is the idle step, and that the end's command carries the outcome, are the model's: log entry 17.) -/
def Obligations.MemoryTestEndClearsTheTables : Prop :=
  (∀ (m : Option Mismatch) (s : State), s.resetPin = false →
    let ends := fun (test : MemTest) => match m with
      | none => test.next = none
      | some x => ∃ p, test.next = some p ∧ x.table = p.table ∧ x.entry.toNat = p.entry ∧ x.word.toNat = p.word ∧
          ((p.act = .check ∧ x.pass = .pattern ∧ x.found ≠ BitVec.ofNat 32 p.address) ∨
            ∃ b, p.act = .get b ∧ x.pass = .walk b ∧ x.found ≠ BitVec.ofNat 32 (2 ^ b.val))
    ((∀ test, s.integrity.memTest = some test → ¬ends test) → exec (.memoryTestEnd m) s = .next s) ∧
    ∀ test, s.integrity.memTest = some test → ends test → s.port.part = .testing → s.allIdle →
    ∃ t, exec (.memoryTestEnd m) s = .next t ∧ t.port.part = .config ∧ t.integrity.memTest = none ∧
      t.stations = StationTable.reset ∧ t.streams = StreamTable.reset ∧ t.refs = RefTable.reset ∧ t.align.dueQueue = [] ∧
      t.align.settings = s.align.settings ∧ t.lanes = s.lanes ∧ t.claims = s.claims ∧ t.ports = s.ports ∧
      t.integrity.scrub = s.integrity.scrub ∧
      (s.port.reports.length < 64 → t.port.reports = s.port.reports ++ [⟨s.now, .testResult m⟩])) ∧
  (∀ (s : State) (m : MemTest) (p : TestPos), s.pending = [] → s.integrity.memTest = some m → m.next = some p →
    Table.wf 0 m.words = true →
    let goesOn := fun (words : Table (BitVec 32)) =>
      step s = .next { s with integrity := { s.integrity with memTest := some { next := p.succ, words := words } } }
    let writes := fun (v : BitVec 32) => ∃ words, goesOn words ∧
      ∀ a, Table.get 0 a words = if a = p.address then v else Table.get 0 a m.words
    let reads := fun (v : BitVec 32) =>
      (Table.get 0 p.address m.words = v → goesOn m.words) ∧ (Table.get 0 p.address m.words ≠ v → step s = .next s)
    (p.act = .fill → writes (BitVec.ofNat 32 p.address)) ∧ (p.act = .check → reads (BitVec.ofNat 32 p.address)) ∧
    (∀ b, p.act = .set b → writes (BitVec.ofNat 32 (2 ^ b.val))) ∧
    (∀ b, p.act = .get b → reads (BitVec.ofNat 32 (2 ^ b.val))) ∧ (p.act = .clear → writes 0)) ∧
  ∀ p : TestPos, testEntryInRange p.table p.entry = true → p.word < testWords p.table →
    p.address = (match p.table with | .station => 1 | .stream => 2 | .support => 3) * 268435456 + p.entry * 16 + p.word ∧
    ∀ q : TestPos, testEntryInRange q.table q.entry = true → q.word < testWords q.table → p.address = q.address →
      p.table = q.table ∧ p.entry = q.entry ∧ p.word = q.word

/-- A failed check. A station entry is handled from the free tag list and the join map: rewritten free; QUARANTINED, out of the
due queue with its IN_USE streams on no list and, if it was not QUARANTINED already, their demand cleared and a report; or
RELEASING. A stream entry is handled from its state field, its reserved share, its reference count and the draft: rewritten free,
RETIRING, resealed, or quarantined with its demand cleared and a report, its share and its owner left as they are; it stands on no
list in any case. A read that passes changes nothing. (How an entry is known to be QUARANTINED already, by the note of the tags
quarantined for a station and by its state field for a stream, and that the lists are left in every such case, is the model's: log
entry 29.) -/
def Obligations.FailedStationCheckIsHandled : Prop :=
  (∀ (s : State) (f : Finder) (t : Nat), s.tablesCanonical → f ≠ .scrub →
    ((s.station t).checks = true → s.checkStation f t = s) ∧
    ((s.station t).checks = false → t ∈ s.stations.freeTags → s.checkStation f t = s.putStation t StationEntry.free) ∧
    ((s.station t).checks = false → t ∉ s.stations.freeTags → (∃ a, (a, t) ∈ s.stations.joinMap) →
      ((s.checkStation f t).station t).state = .quarantined ∧ ((s.checkStation f t).station t).checks = true ∧
      t ∉ (s.checkStation f t).align.dueQueue ∧ t ∈ (s.checkStation f t).stations.quarantined ∧
      (t ∈ s.stations.quarantined →
        (s.checkStation f t).station t = { s.station t with state := .quarantined }.seal ∧ (s.checkStation f t).port = s.port ∧
        (∀ i, (s.checkStation f t).stream i = s.stream i) ∧
        ∀ i k, (s.stream i).state = .inUse → (s.stream i).owner = some (t, k) →
          ∀ l : LaneId, (s.checkStation f t).onLane l i = false) ∧
      (t ∉ s.stations.quarantined → (∀ i, (s.stream i).checks = true) →
        (∀ i k, (s.stream i).state = .inUse → (s.stream i).owner = some (t, k) →
          ((s.checkStation f t).stream i).D = (s.stream i).G ∧ ((s.checkStation f t).stream i).credit = 0 ∧
          ((s.checkStation f t).stream i).state = .inUse ∧ ∀ l : LaneId, (s.checkStation f t).onLane l i = false) ∧
        (s.port.reports.length < 64 →
          (s.checkStation f t).port.reports = s.port.reports ++ [⟨s.now, .quarantined .station t f⟩]))) ∧
    ((s.station t).checks = false → t ∉ s.stations.freeTags → (∀ a, (a, t) ∉ s.stations.joinMap) →
      0 < s.stationRefs t →
      ((s.checkStation f t).station t).state = .releasing ∧ ((s.checkStation f t).station t).checks = true)) ∧
  ∀ (s : State) (f : Finder) (i : Nat), s.tablesCanonical → f ≠ .scrub →
    ((s.stream i).checks = true → s.checkStream f i = s) ∧
    ((s.stream i).checks = false →
      let e := s.stream i
      let r := s.checkStream f i
      let idle := (e.state = .free ∨ e.state = .retiring) ∧ (s.reservedOf i).amount = 0
      let held := 0 < s.streamRefs i ∨ s.draftNamesStream i = true
      (idle → ¬held → r.stream i = StreamEntry.free ∧ r.port = s.port) ∧
      (idle → held → r.stream i = { e with state := .retiring }.seal ∧ r.port = s.port) ∧
      (e.state = .quarantined → r.stream i = e.seal ∧ r.port = s.port) ∧
      (¬idle → e.state ≠ .quarantined → r.stream i = { e with state := .quarantined, D := e.G, credit := 0 }.seal ∧
        (s.port.reports.length < 64 → r.port.reports = s.port.reports ++ [⟨s.now, .quarantined .stream i f⟩])) ∧
      (r.stream i).checks = true ∧ (∀ l : LaneId, r.onLane l i = false) ∧ (∀ j, j ≠ i → r.stream j = s.stream j) ∧
      (∀ j, j ≠ i → ∀ (l : LaneId) (k : Fin 4), j ∈ r.list l k ↔ j ∈ s.list l k) ∧
      r = { s with
        port := r.port
        streams := { s.streams with entries := r.streams.entries, service := r.streams.service } })

/-! ### Lanes -/

/-- LANE_SETUP of an IDLE lane with every checked value in range and a reserve cap that covers the share sum puts the eighteen
values in force, clamped in the order of R4, and its reply carries them. -/
def Obligations.LaneSetupPutsClampedValuesInForce : Prop :=
  ∀ (s d : State) (req : Req) (b : LaneSetupBody) (l : LaneId), s.atStep3 (40 + req.extra) d → d.open_ →
    b.lane.toNat = l.val → (d.lane l).state = .idle →
    16 ≤ b.Lq.toNat → b.Lq.toNat ≤ 512 → 128 ≤ b.S.toNat → b.S.toNat ≤ 2048 → b.S.toNat * b.Lq.toNat ≤ 262144 →
    4 ≤ b.bpq.toNat → b.bpq.toNat ≤ 128 → b.P.toNat ≤ 8 → 1 ≤ b.b.toNat → b.b.toNat ≤ 8 →
    1600 ≤ b.Ld.toNat → b.Ld.toNat ≤ 80000 → 160 ≤ b.Ba.toNat → b.Ba.toNat ≤ 16000 → b.Pmin.toNat ≤ b.Pmax.toNat →
    b.Rc.toNat ≤ 768 → d.shareSum l ≤ b.Rc.toNat →
    ∃ u : LaneSetup,
      u = { Lq := b.Lq.toNat, S := b.S.toNat, bpq := b.bpq.toNat, P := b.P.toNat, b := b.b.toNat, Ld := b.Ld.toNat,
            Ba := b.Ba.toNat, Wm := min b.Wm.toNat b.Ld.toNat, Df := min b.Df.toNat (min b.Wm.toNat b.Ld.toNat),
            Ao := b.Ao.toNat, Wo := max 8 (min b.Wo.toNat (min 512 (b.S.toNat / 2))),
            Ua := max (b.P.toNat + 2) (min b.Ua.toNat 64), Umax := min b.Umax.toNat 16, Od := min b.Od.toNat 1048575,
            Pmin := b.Pmin.toNat, Pmax := b.Pmax.toNat, Rc := b.Rc.toNat, Dl := max 1 (min b.Dl.toNat 15) } ∧
      exec (.laneSetup req b) s =
        .next ((d.setLane l { d.lane l with setup := some u }).replied 1 req.reference .done (.laneSetup u))

/-- LANE_SETUP's refusals change nothing of the lane: BAD_VALUE for a lane above 7, BAD_STATE for a lane not IDLE, BAD_VALUE for a
value out of range, and NO_ROOM, last, for a reserve cap below the lane's share sum. -/
def Obligations.LaneSetupRefusals : Prop :=
  ∀ (s d : State) (req : Req) (b : LaneSetupBody), s.atStep3 (40 + req.extra) d → d.open_ →
    (7 < b.lane.toNat → exec (.laneSetup req b) s = .next (d.replied 1 req.reference .badValue .empty)) ∧
    ∀ l : LaneId, b.lane.toNat = l.val →
      let outOfRange := b.Lq.toNat < 16 ∨ 512 < b.Lq.toNat ∨ b.S.toNat < 128 ∨ 2048 < b.S.toNat ∨
        262144 < b.S.toNat * b.Lq.toNat ∨ b.bpq.toNat < 4 ∨ 128 < b.bpq.toNat ∨ 8 < b.P.toNat ∨ b.b.toNat < 1 ∨
        8 < b.b.toNat ∨ b.Ld.toNat < 1600 ∨ 80000 < b.Ld.toNat ∨ b.Ba.toNat < 160 ∨ 16000 < b.Ba.toNat ∨
        b.Pmax.toNat < b.Pmin.toNat ∨ 768 < b.Rc.toNat
      ((d.lane l).state ≠ .idle → exec (.laneSetup req b) s = .next (d.replied 1 req.reference .badState .empty)) ∧
      ((d.lane l).state = .idle → outOfRange →
        exec (.laneSetup req b) s = .next (d.replied 1 req.reference .badValue .empty)) ∧
      ((d.lane l).state = .idle → ¬outOfRange → b.Rc.toNat < d.shareSum l →
        exec (.laneSetup req b) s = .next (d.replied 1 req.reference .noRoom .empty))

/-- LANE_START of an IDLE or FAULTED lane that is set, with no build of it in progress and no covered-until time, makes it LIVE:
start0 is t0 + 2 × (Ld + Ba), the counts and marks of R14 begin afresh, the Claim Controller is OPEN with T = C_open, and the
port's watermark is t0. Where every entry passes its check, the paused stations whose lane set holds the lane resume on it, due now,
and N of each IN_USE cadenced stream of the lane is φ. -/
def Obligations.LaneStartBeginsTheLaneAfresh : Prop :=
  ∀ (s d : State) (req : Req) (b : Byte) (l : LaneId) (u : LaneSetup), s.atStep3 (5 + req.extra) d → d.open_ →
    b.toNat = l.val → (d.lane l).state = .idle ∨ (d.lane l).state = .faulted → (d.lane l).setup = some u →
    d.building l = false → (d.lane l).coveredUntil = none →
    ∃ t : State,
      exec (.laneStart req b) s =
        .next (t.replied 2 req.reference .done (.laneStart d.now (d.now + BitVec.ofNat 32 (2 * (u.Ld + u.Ba))))) ∧
      t.lane l = { d.lane l with state := .live, start0 := d.now + BitVec.ofNat 32 (2 * (u.Ld + u.Ba)), nextSpan := 0,
                                 history := [], notices := [], drops := 0, late := false, counters := LaneCounters.zero } ∧
      t.claim l = { d.claim l with mode := .opening, target := some (d.claim l).settings.cOpen, missing := 0 } ∧
      t.rx l = { RxPort.reset with watermark := d.now } ∧ t.port.part = .running ∧
      (∀ m : LaneId, m ≠ l → t.claim m = d.claim m ∧ t.rx m = d.rx m ∧ (t.lane m).state = (d.lane m).state ∧
        (t.lane m).history = (d.lane m).history) ∧
      t.builder = d.builder ∧ t.link = d.link ∧ t.now = d.now ∧ t.align.settings = d.align.settings ∧
      (d.tablesCanonical → (∀ k, (d.station k).checks = true) → (∀ i, (d.stream i).checks = true) →
        (∀ k, (d.station k).state.kept = true →
          (t.station k).state = (d.station k).state ∧ (t.station k).laneSet = (d.station k).laneSet ∧
          ((d.station k).paused = true → inSet (d.station k).laneSet l = true →
            (t.station k).paused = false ∧ (t.station k).home = l ∧ (t.station k).due = d.now ∧ k ∈ t.align.dueQueue) ∧
          ((d.station k).paused = false ∨ inSet (d.station k).laneSet l = false →
            (t.station k).paused = (d.station k).paused ∧ (t.station k).home = (d.station k).home)) ∧
        ∀ i, (d.stream i).state = .inUse → (d.stream i).kind = .cadenced → (d.stream i).lane = l →
          t.stream i = { d.stream i with N := BitVec.ofNat 32 (d.stream i).phase }.seal)

/-- LANE_START, LANE_STOP and LANE_READ of a lane above 7 are refused with BAD_VALUE; LANE_START with BAD_STATE for a LIVE,
DRAINING or un-set IDLE lane and BUSY for one building or still covered; LANE_STOP with BAD_STATE for an IDLE or DRAINING lane;
and LANE_READ of a lane changes nothing and returns its setup and state, timing, plan flow, history, notice counts, claim, port
and counters. -/
def Obligations.LaneRequestRefusalsAndRead : Prop :=
  ∀ (s d : State) (req : Req) (b : Byte), s.atStep3 (5 + req.extra) d → d.open_ →
    (7 < b.toNat →
      exec (.laneStart req b) s = .next (d.replied 2 req.reference .badValue .empty) ∧
      exec (.laneStop req b) s = .next (d.replied 3 req.reference .badValue .empty) ∧
      exec (.laneRead req b) s = .next (d.replied 4 req.reference .badValue .empty)) ∧
    ∀ l : LaneId, b.toNat = l.val →
      ((d.lane l).state = .live ∨ (d.lane l).state = .draining ∨ ((d.lane l).state = .idle ∧ (d.lane l).setup = none) →
        exec (.laneStart req b) s = .next (d.replied 2 req.reference .badState .empty)) ∧
      ((d.lane l).state = .faulted ∨ ((d.lane l).state = .idle ∧ (d.lane l).setup.isSome = true) →
        d.building l = true ∨ (d.lane l).coveredUntil.isSome = true →
        exec (.laneStart req b) s = .next (d.replied 2 req.reference .busy .empty)) ∧
      ((d.lane l).state = .idle ∨ (d.lane l).state = .draining →
        exec (.laneStop req b) s = .next (d.replied 3 req.reference .badState .empty)) ∧
      exec (.laneRead req b) s = .next (d.replied 4 req.reference .done (.laneRead
        { lane := l, state := (d.lane l).state, setup := (d.lane l).setup
          start0 := (d.lane l).start0, nextSpan := (d.lane l).nextSpan, coveredUntil := (d.lane l).coveredUntil
          drops := (d.lane l).drops, late := (d.lane l).late
          queued := (d.link.queue.filter fun p => p.record.lane = l).length
          building := d.builder.draft.any fun x => x.lane == l
          waiting := (d.builder.waiting.filter fun w => w.lane = l).length
          history := (d.lane l).history.map fun h =>
            { seq := h.seq, start := h.start, slots := h.slots, tallyArrived := h.tallyArrived, turns := h.turns.length
              unresolved := (h.turns.filter fun a => a.resolved = false).length, openWindow := h.openWindow, joins := h.joins }
          notices := (d.lane l).notices.length, marked := ((d.lane l).notices.filter fun n => n.mark.isSome).length
          mode := (d.claim l).mode, target := (d.claim l).target, missing := (d.claim l).missing
          counters := (d.lane l).counters, rx := d.rx l }))

/-- LANE_STOP of a LIVE lane withdraws its waiting spans and leaves it DRAINING while a plan of it is queued or a build of it is
in progress, else IDLE with an empty history and notice queue and span count 0; from FAULTED it goes to IDLE with LANE_STOPPED.
Where every station entry passes its check, each station with home lane on it that is not paused moves to the lowest LIVE lane of
its set with its due time kept, or is paused where there is none. The transmit start of a DRAINING lane commits or drops its plan
and, where that was its last plan and no build of it is in progress, takes the lane to IDLE with its history and notice queue
empty, span count 0 and LANE_STOPPED behind the other reports; else the lane stays DRAINING, however high its drop count. -/
def Obligations.LaneStopDrainsOrReachesIdle : Prop :=
  (∀ (s d : State) (req : Req) (b : Byte) (l : LaneId), s.atStep3 (5 + req.extra) d → d.open_ → b.toNat = l.val →
    ((d.lane l).state = .live → ∃ t : State,
      exec (.laneStop req b) s = .next (t.replied 3 req.reference .done .empty) ∧
      t.builder.waiting = d.builder.waiting.filter (fun w => w.lane ≠ l) ∧ t.builder.draft = d.builder.draft ∧
      t.link = d.link ∧ (∀ m : LaneId, m ≠ l → (t.lane m).state = (d.lane m).state) ∧ t.claims = d.claims ∧
      t.ports = d.ports ∧ t.now = d.now ∧
      (0 < d.queuedOf l ∨ d.building l = true → t.port.part = .running ∧
        t.lane l = { d.lane l with state := .draining, notices := (t.lane l).notices }) ∧
      (d.queuedOf l = 0 → d.building l = false →
        t.lane l = { d.lane l with state := .idle, history := [], notices := [], nextSpan := 0 }) ∧
      (d.tablesCanonical → (∀ k, (d.station k).checks = true) → ∀ k, (d.station k).state.kept = true →
        let moved := (d.station k).home = l ∧ (d.station k).paused = false
        let low := ([0, 1, 2, 3, 4, 5, 6, 7] : List LaneId).find? fun m =>
          decide (m ≠ l ∧ inSet (d.station k).laneSet m = true ∧ (d.lane m).state = .live)
        (t.station k).state = (d.station k).state ∧
        (∀ m, moved → low = some m → (t.station k).home = m ∧ (t.station k).paused = false) ∧
        (moved → low = none → (t.station k).home = l ∧ (t.station k).paused = true) ∧
        (¬moved → (t.station k).home = (d.station k).home ∧ (t.station k).paused = (d.station k).paused) ∧
        (0 < d.queuedOf l ∨ d.building l = true → (t.station k).due = (d.station k).due))) ∧
    ((d.lane l).state = .faulted → d.port.reports.length < 64 → ∃ t : State,
      exec (.laneStop req b) s = .next (t.replied 3 req.reference .done .empty) ∧
      t.lane l = { d.lane l with state := .idle, nextSpan := 0 } ∧
      t.port.reports = d.port.reports ++ [⟨d.now, .laneStopped l⟩] ∧ t.builder = d.builder ∧ t.link = d.link ∧
      t.stations = d.stations ∧ t.streams = d.streams)) ∧
  ∀ (s : State) (l : LaneId) (p : Plan) (rest : List Plan) (u : LaneSetup) (M : Int), s.resetPin = false → s.tablesCanonical →
    s.ready = true → s.link = { queue := p :: rest, sending := none } → p.record.lane = l → (s.lane l).state = .draining →
    (s.lane l).setup = some u → M = (p.record.start - s.now).toInt → (∀ t, (s.station t).checks = true) →
    (∀ i, (s.stream i).checks = true) →
    let last := (∀ q ∈ rest, q.record.lane ≠ l) ∧ s.building l = false
    let commits := p.expired = false ∧ (u.Df : Int) ≤ M
    ∃ t : State, exec .transmitStart s = .next t ∧
      t.link = { queue := rest, sending := if commits then some p.record else none } ∧ (t.lane l).setup = some u ∧
      (t.lane l).drops = (if commits then 0 else min ((s.lane l).drops + 1) 15) ∧
      (t.lane l).coveredUntil =
        (if commits then some (p.record.start + BitVec.ofNat 32 (p.record.S * p.record.Lq)) else (s.lane l).coveredUntil) ∧
      (¬last → (t.lane l).state = .draining) ∧
      (last → (t.lane l).state = .idle ∧ (t.lane l).history = [] ∧ (t.lane l).notices = [] ∧ (t.lane l).nextSpan = 0 ∧
        ((s.lane l).history.length < 4 ∨ ¬commits → s.port.reports.length < 62 →
          ∃ told, t.port.reports = s.port.reports ++ told ++ [⟨s.now, .laneStopped l⟩]))

/-- At the build point of the next span of a LIVE lane, span start − Ld − Ba with the span start at start0 + k × S × Lq, the span
joins the waiting set and the next span index rises by one. -/
def Obligations.SpanIsHandedOverAtItsBuildPoint : Prop :=
  ∀ (s : State) (l : LaneId) (u : LaneSetup) (start : Time), s.resetPin = false → (s.lane l).state = .live →
    (s.lane l).setup = some u → start = (s.lane l).start0 + (s.lane l).nextSpan * BitVec.ofNat 32 (u.S * u.Lq) →
    s.now = start - BitVec.ofNat 32 (u.Ld + u.Ba) →
    exec (.spanHandover l) s =
      .next { s with
        builder := { s.builder with waiting := s.builder.waiting ++
          [{ lane := l, index := (s.lane l).nextSpan, start := start, buildPoint := s.now }] },
        lanes := s.lanes.set l { s.lane l with nextSpan := (s.lane l).nextSpan + 1 } }

/-- A span still waiting when plant time reaches span start − Df + 1 is skipped: it leaves the waiting set, the consecutive-drop
count and the plans-dropped counter rise, and DROPPED gives the margin Df − 1 with the cause SKIPPED. A skip of a LIVE lane, or a
drop of its plan at transmit start, that takes the count to Dl takes the lane into FAULTED: its waiting spans are withdrawn, its
queued plans are dropped with their planned bytes, marks and references restored and with no count or report of their own, its
history and notice queue are empty, its stations have another home lane or are paused (faultedTo writes this out), and
LANE_FAULTED follows the reports of the drop with the number of queued plans dropped. (What a history entry names is log entry
15.) -/
def Obligations.WaitingSpanIsSkippedAtItsExpiry : Prop :=
  (∀ (s : State) (l : LaneId) (k : BitVec 32) (w : WaitingSpan) (u : LaneSetup), s.resetPin = false →
    s.builder.waiting.find? (fun v => v.lane == l && v.index == k) = some w → (s.lane l).setup = some u →
    u.Df ≤ 80000 → s.now = w.start - BitVec.ofNat 32 u.Df + 1 →
    let drops := min ((s.lane l).drops + 1) 15
    let counters := { (s.lane l).counters with dropped := min ((s.lane l).counters.dropped + 1) 4294967295 }
    let dropped : Report := ⟨s.now, .dropped l (BitVec.ofNat 16 k.toNat) .skipped ((u.Df : Int) - 1) drops⟩
    let mine := s.link.queue.filter fun p => p.record.lane = l
    ∃ t : State, exec (.spanSkip l k) s = .next t ∧ (t.lane l).drops = drops ∧ (t.lane l).counters = counters ∧
      w ∉ t.builder.waiting ∧ t.builder.draft = s.builder.draft ∧
      ((s.lane l).state = .live → u.Dl ≤ drops → s.tablesCanonical → (∀ t, (s.station t).checks = true) →
        (∀ i, (s.stream i).checks = true) →
        s.faultedTo t l mine ∧ t.link = { s.link with queue := s.link.queue.filter fun p => p.record.lane ≠ l } ∧
        (s.port.reports.length < 63 →
          t.port.reports = s.port.reports ++ [dropped, ⟨s.now, .laneFaulted l drops mine.length⟩])) ∧
      ((s.lane l).state ≠ .live ∨ drops < u.Dl →
        (t.lane l).state = (s.lane l).state ∧ t.link = s.link ∧ t.stations = s.stations ∧ t.streams = s.streams ∧
        t.builder.waiting = s.builder.waiting.filter (fun v => v ≠ w) ∧
        (s.port.reports.length < 64 → t.port.reports = s.port.reports ++ [dropped]))) ∧
  ∀ (s : State) (p : Plan) (rest : List Plan) (l : LaneId) (u : LaneSetup) (M : Int), s.resetPin = false →
    s.tablesCanonical → s.ready = true → s.link = { queue := p :: rest, sending := none } → p.record.lane = l →
    (s.lane l).state = .live → (s.lane l).setup = some u → M = (p.record.start - s.now).toInt →
    (∀ t, (s.station t).checks = true) → (∀ i, (s.stream i).checks = true) → p.expired = true ∨ M < u.Df →
    let drops := min ((s.lane l).drops + 1) 15
    let mine := rest.filter fun q => q.record.lane = l
    u.Dl ≤ drops → (s.lane l).counters.slips ≤ 4294967295 →
    ∃ t : State, exec .transmitStart s = .next t ∧ s.faultedTo t l (p :: mine) ∧
      t.link = { queue := rest.filter fun q => q.record.lane ≠ l, sending := none } ∧ (t.lane l).drops = drops ∧
      (t.lane l).counters = { (s.lane l).counters with
        dropped := min ((s.lane l).counters.dropped + 1) 4294967295
        slips := min ((s.lane l).counters.slips + p.cadence.length) 4294967295 } ∧
      (s.port.reports.length < 62 → t.port.reports = s.port.reports ++
        ⟨s.now, .dropped l p.record.seq .margin M drops⟩ ::
          (if 0 < p.slips + p.cadence.length then
            [⟨s.now, .slipped l p.record.seq (p.slips + p.cadence.length) (p.lowestSlip.toList ++ p.cadence).min?⟩]
          else []) ++ [⟨s.now, .laneFaulted l drops mine.length⟩])

/-! ### Claim Controllers -/

/-- CLAIM_SETUP with the gain setting at most 3 and the growth boost setting at most 7 replaces the eight settings, clamped, and
then T: left absent, set to the new C_open in OPEN, clamped into C_min..C_max in TRACKING; a missing-tally count that meets the
new K in TRACKING makes it OPEN with CLAIM_MODE. A lane above 7 and refused settings change nothing. (That the missing-tally count
too is left as it is with T absent is read from R100: log entry 26.) -/
def Obligations.ClaimSetupReplacesTheSettings : Prop :=
  ∀ (s d : State) (req : Req) (b : ClaimSetupBody) (n : ClaimSettings), s.atStep3 (16 + req.extra) d → d.open_ →
    n.cMin = max 1 (min b.cMin.toNat 64) → n.cMax = max n.cMin (min b.cMax.toNat 512) →
    n.cOpen = max n.cMin (min b.cOpen.toNat n.cMax) → n.gain = b.gain.toNat → n.boost = b.boost.toNat →
    n.Gs = max 1 (min b.Gs.toNat 16) → n.K = max 3 (min b.K.toNat 6) → n.bs = min b.bs.toNat 9 →
    (7 < b.lane.toNat → exec (.claimSetup req b) s = .next (d.replied 5 req.reference .badValue .empty)) ∧
    ∀ l : LaneId, b.lane.toNat = l.val →
    (3 < b.gain.toNat ∨ 7 < b.boost.toNat →
      exec (.claimSetup req b) s = .next (d.replied 5 req.reference .badValue .empty)) ∧
    (b.gain.toNat ≤ 3 → b.boost.toNat ≤ 7 →
      ((d.claim l).target = none →
        exec (.claimSetup req b) s = .next ((d.setClaim l { d.claim l with settings := n }).replied 5 req.reference .done
          (.claimSetup n (d.claim l).mode none (d.claim l).missing))) ∧
      ((d.claim l).target.isSome = true → (d.claim l).mode = .opening →
        exec (.claimSetup req b) s = .next ((d.setClaim l
          { mode := .opening, target := some n.cOpen, missing := min (d.claim l).missing n.K, settings := n }).replied 5
            req.reference .done (.claimSetup n .opening (some n.cOpen) (min (d.claim l).missing n.K)))) ∧
      (∀ T, (d.claim l).target = some T → (d.claim l).mode = .tracking → (d.claim l).missing < n.K →
        exec (.claimSetup req b) s = .next ((d.setClaim l
          { mode := .tracking, target := some (max n.cMin (min T n.cMax)), missing := (d.claim l).missing,
            settings := n }).replied 5 req.reference .done
              (.claimSetup n .tracking (some (max n.cMin (min T n.cMax))) (d.claim l).missing))) ∧
      ((d.claim l).target.isSome = true → (d.claim l).mode = .tracking → n.K ≤ (d.claim l).missing →
        exec (.claimSetup req b) s = .next (((d.setClaim l
          { mode := .opening, target := some n.cOpen, missing := n.K, settings := n }).raise
            (.claimMode l .opening n.cOpen .missing)).replied 5 req.reference .done
              (.claimSetup n .opening (some n.cOpen) n.K))))

/-- The growth step: with B above T, T grows by ceil((B − T) × gn × m / 8), to no more than Ce, and growth boost setting 7 has m at
1. The shrink step: with B below T, T falls by floor((T − B) × gn / 8), raised to 1, to no less than C_min, and never below B; with
growth boost setting 7 it is held. -/
def Obligations.TargetMovesByTheSteps : Prop :=
  ∀ (c : ClaimSettings) (ce B T gn m : Nat), c.gain ≤ 3 → c.boost ≤ 7 → gn = [1, 2, 4, 6].getD c.gain 0 →
    m = [1, 2, 3, 4, 6, 8, 16, 1].getD c.boost 0 →
    (T < B → claimMove c ce B T = min (T + ((B - T) * gn * m + 7) / 8) ce ∧ 1 ≤ ((B - T) * gn * m + 7) / 8) ∧
    (B < T → c.cMin ≤ B →
      (c.boost = 7 → claimMove c ce B T = T) ∧
      (c.boost ≠ 7 → claimMove c ce B T = max (T - max 1 ((T - B) * gn / 8)) c.cMin ∧ B ≤ claimMove c ce B T))

/-- A well-formed TALLY on an open lane, matched to an entry that offered its count of slots and has no tally yet, is used: the
entry's tally has arrived, the missing-tally count is 0, the mode is TRACKING, T moves by the update, and CLAIM_MODE with T
after the update is reported when it leaves OPEN. Otherwise it is discarded and counted. -/
def Obligations.TallyIsUsedOrDiscarded : Prop :=
  ∀ (s : State) (h : RecordHead) (n c x e : BitVec 16) (E : HistEntry) (T T' B ce : Nat), s.resetPin = false →
    s.laneOpen h.port = true → (Instr.tally h n c x e).recordMalformed = false → s.historyEntry h.port h.planSeq = some E →
    (s.claim h.port).target = some T →
    T' = (if n.toNat < (s.claim h.port).settings.Gs ∨ B = T then T else claimMove (s.claim h.port).settings ce B T) →
    ce = max (s.claim h.port).settings.cMin (min (s.claim h.port).settings.cMax ((s.setupOf h.port).S / (s.setupOf h.port).b)) →
    B = max (s.claim h.port).settings.cMin (min (c.toNat + (5 * x.toNat + 1) / 2) ce) →
    (E.slots = 0 ∨ E.tallyArrived = true ∨ n.toNat ≠ E.slots →
      exec (.tally h n c x e) s = .next ((s.seen h).count h.port fun k =>
        { k with talliesDiscarded := min (k.talliesDiscarded + 1) 4294967295 })) ∧
    (0 < E.slots → E.tallyArrived = false → n.toNat = E.slots →
      ∃ t : State, exec (.tally h n c x e) s = .next t ∧
        t.claim h.port =
          { s.claim h.port with
            mode := .tracking, missing := 0, target := some T' } ∧
        ((t.lane h.port).history = (s.lane h.port).history.map fun g =>
          if g.seq = h.planSeq then { g with tallyArrived := true } else g) ∧
        ((s.claim h.port).mode = .tracking → t.port = s.port) ∧
        ((s.claim h.port).mode = .opening → s.port.reports.length < 64 → t.port.reports =
          s.port.reports ++ [⟨s.now, .claimMode h.port .tracking T' .firstTally⟩]) ∧
        (∀ m : LaneId, m ≠ h.port → t.claim m = s.claim m ∧ t.lane m = s.lane m) ∧ t.stations = s.stations ∧
        t.streams = s.streams ∧ t.builder = s.builder ∧ t.link = s.link ∧ t.rx h.port = (s.seen h).rx h.port)

/-! ### Part settings and stations -/

/-- PART_SETUP in CONFIG puts the six values in force, clamped, the maintenance interval as 16,000 tu a ms, and, where A_max is
lowered, lowers every attempt and miss count above the new A_max to it, every other entry as it was; in RUNNING it is refused with
BAD_STATE. -/
def Obligations.PartSetupSetsAndLowersCounts : Prop :=
  ∀ (s d : State) (req : Req) (b : PartSetupBody) (p : PartSettings), s.atStep3 (12 + req.extra) d → d.open_ →
    d.tablesCanonical →
    p = { tolT := b.tolT.toNat, tolP := min b.tolP.toNat 31, aMax := max 3 (min b.aMax.toNat 6), qMin := min b.qMin.toNat 63,
          miTu := max 100 (min b.miMs.toNat 30000) * 16000, creditUnit := max 64 (min b.creditUnit.toNat 4096) } →
    (d.port.part = .running → exec (.partSetup req b) s = .next (d.replied 6 req.reference .badState .empty)) ∧
    (d.port.part = .config → ∃ t : State,
      exec (.partSetup req b) s = .next (t.replied 6 req.reference .done (.partSetup p)) ∧
      t = { d with align := { d.align with settings := p },
                   stations := { d.stations with entries := t.stations.entries } } ∧
      (d.align.settings.aMax ≤ p.aMax → t.stations = d.stations) ∧
      (p.aMax < d.align.settings.aMax → ∀ k, (t.station k).attempts = min (d.station k).attempts p.aMax ∧
        (t.station k).misses = min (d.station k).misses p.aMax ∧ (t.station k).state = (d.station k).state ∧
        (t.station k).O = (d.station k).O ∧ (t.station k).due = (d.station k).due ∧
        ((d.station k).attempts ≤ p.aMax → (d.station k).misses ≤ p.aMax → t.station k = d.station k)))

/-- The refusals of the four station requests: BAD_VALUE for a tag of 0 or above 4095, UNKNOWN_TAG for a FREE entry, and
BAD_STATE for HOLD of a station not ACTIVE, RESUME of one not HELD, RELEASE of one RELEASING, and ADMIT of one not READY, ACTIVE
or HELD, before BAD_VALUE for an empty lane set. -/
def Obligations.StationRequestRefusals : Prop :=
  ∀ (s d : State) (req : Req) (tag : BitVec 16) (m : LaneSet) (f : Byte), d.open_ →
    (s.atStep3 (6 + req.extra) d → tag = 0 ∨ 4095 < tag.toNat →
      exec (.stationHold req tag) s = .next (d.replied 8 req.reference .badValue .empty) ∧
      exec (.stationResume req tag) s = .next (d.replied 9 req.reference .badValue .empty) ∧
      exec (.stationRelease req tag) s = .next (d.replied 10 req.reference .badValue .empty)) ∧
    (s.atStep3 (6 + req.extra) d → tag ≠ 0 → tag.toNat ≤ 4095 → (d.station tag.toNat).checks = true →
      ((d.station tag.toNat).state = .free →
        exec (.stationHold req tag) s = .next (d.replied 8 req.reference .unknownTag .empty) ∧
        exec (.stationResume req tag) s = .next (d.replied 9 req.reference .unknownTag .empty) ∧
        exec (.stationRelease req tag) s = .next (d.replied 10 req.reference .unknownTag .empty)) ∧
      ((d.station tag.toNat).state ≠ .free → (d.station tag.toNat).state ≠ .active →
        exec (.stationHold req tag) s = .next (d.replied 8 req.reference .badState .empty)) ∧
      ((d.station tag.toNat).state ≠ .free → (d.station tag.toNat).state ≠ .held →
        exec (.stationResume req tag) s = .next (d.replied 9 req.reference .badState .empty)) ∧
      ((d.station tag.toNat).state = .releasing →
        exec (.stationRelease req tag) s = .next (d.replied 10 req.reference .badState .empty))) ∧
    (s.atStep3 (8 + req.extra) d →
      (tag = 0 ∨ 4095 < tag.toNat →
        exec (.stationAdmit req ⟨tag, m, f⟩) s = .next (d.replied 7 req.reference .badValue .empty)) ∧
      (tag ≠ 0 → tag.toNat ≤ 4095 → (d.station tag.toNat).checks = true →
        ((d.station tag.toNat).state = .free →
          exec (.stationAdmit req ⟨tag, m, f⟩) s = .next (d.replied 7 req.reference .unknownTag .empty)) ∧
        ((d.station tag.toNat).state ∈ [StationState.aligning, .lapsed, .quarantined, .releasing] →
          exec (.stationAdmit req ⟨tag, m, f⟩) s = .next (d.replied 7 req.reference .badState .empty)) ∧
        ((d.station tag.toNat).state ∈ [StationState.ready, .active, .held] → m = 0 →
          exec (.stationAdmit req ⟨tag, m, f⟩) s = .next (d.replied 7 req.reference .badValue .empty))))

/-- STATION_ADMIT of a READY, ACTIVE or HELD station with a lane set that is not empty. With the clear-streams flag its streams'
demand is cleared. The lane set is the one given: a bidding stream keeps the lanes it shares with it and leaves the lists of the
others, and one that shares none, like a cadenced stream whose lane is not in it, is removed and counted. A home lane outside the
set becomes its lowest lane, or, that not being LIVE, its lowest LIVE lane, or maintenance is paused; a paused station resumes on
the lowest LIVE lane of the set. The admitted flag is set, READY becomes ACTIVE with its streams of available demand on their
lists, and the reply carries what is in force. -/
def Obligations.StationAdmitPutsTheLaneSetInForce : Prop :=
  ∀ (s d : State) (req : Req) (b : AdmitBody) (k : Nat), s.atStep3 (8 + req.extra) d → d.open_ → d.tablesCanonical →
    b.tag.toNat = k → 1 ≤ k → k ≤ 4095 → (d.station k).checks = true → b.laneSet ≠ 0 →
    (d.station k).state ∈ [StationState.ready, .active, .held] →
    let e := d.station k
    let fits := fun (i : Nat) => match (d.stream i).kind with
      | .bidding => decide ((d.stream i).laneSet &&& b.laneSet ≠ 0)
      | .cadenced => inSet b.laneSet (d.stream i).lane
    let low := ([0, 1, 2, 3, 4, 5, 6, 7] : List LaneId).find? fun l => inSet b.laneSet l
    let live := ([0, 1, 2, 3, 4, 5, 6, 7] : List LaneId).find? fun l => inSet b.laneSet l && decide ((d.lane l).state = .live)
    ∃ (t : State) (removed : Nat),
      exec (.stationAdmit req b) s = .next (t.replied 7 req.reference .done
        (.admission b.laneSet (t.station k).home (t.station k).state true removed)) ∧
      removed = ((d.streamsOf k).filter fun i => !fits i).length ∧
      (t.station k).laneSet = b.laneSet ∧ (t.station k).admitted = true ∧
      (t.station k).state = (if e.state = .ready then .active else e.state) ∧
      (t.station k).O = e.O ∧ (t.station k).Pw = e.Pw ∧
      (∀ j, j ≠ k → t.station j = d.station j) ∧ t.lanes = d.lanes ∧ t.claims = d.claims ∧ t.builder = d.builder ∧
      t.link = d.link ∧ t.refs = d.refs ∧ t.port = d.port ∧
      -- the home lane and paused maintenance (R46, R52)
      (inSet b.laneSet e.home = true → e.paused = false →
        (t.station k).home = e.home ∧ (t.station k).paused = false ∧ t.align = d.align) ∧
      (∀ l, inSet b.laneSet e.home = false → e.paused = false → low = some l → (d.lane l).state = .live →
        (t.station k).home = l ∧ (t.station k).paused = false ∧ t.align = d.align) ∧
      (∀ l, inSet b.laneSet e.home = false → e.paused = false → low = some l → (d.lane l).state ≠ .live →
        (∀ m, live = some m → (t.station k).home = m ∧ (t.station k).paused = false) ∧
        (live = none → (t.station k).home = l ∧ (t.station k).paused = true) ∧ t.align = d.align) ∧
      (e.paused = false → (t.station k).due = e.due) ∧
      (∀ m, e.paused = true → live = some m →
        (t.station k).home = m ∧ (t.station k).paused = false ∧ (t.station k).due = d.now ∧ k ∈ t.align.dueQueue) ∧
      (e.paused = true → live = none →
        (t.station k).paused = true ∧ (t.station k).due = e.due ∧
        (inSet b.laneSet e.home = true → (t.station k).home = e.home) ∧
        (∀ l, inSet b.laneSet e.home = false → low = some l → (t.station k).home = l)) ∧
      -- the streams (R46, R47)
      (∀ i, i ∉ d.streamsOf k → t.stream i = d.stream i ∧ t.reservedOf i = d.reservedOf i) ∧
      (∀ i ∈ d.streamsOf k, fits i = false →
        ((t.stream i).state = .retiring ∨ (t.stream i).state = .free) ∧ (t.reservedOf i).amount = 0 ∧ i ∉ t.streamsOf k ∧
        ∀ l : LaneId, t.onLane l i = false) ∧
      (∀ i ∈ d.streamsOf k, fits i = true → i ∈ t.streamsOf k ∧
        ((d.stream i).checks = true ∨ (d.stream i).kind = StreamKind.bidding ∨ b.clearStreams ≠ 0 → t.stream i =
          { d.stream i with
            laneSet := if (d.stream i).kind = StreamKind.bidding then (d.stream i).laneSet &&& b.laneSet else (d.stream i).laneSet
            D := if b.clearStreams = 0 then (d.stream i).D else (d.stream i).G
            credit := if b.clearStreams = 0 then (d.stream i).credit else 0 }.seal) ∧
        t.reservedOf i = d.reservedOf i ∧
        (b.clearStreams ≠ 0 → ∀ l : LaneId, t.onLane l i = false) ∧
        ((d.stream i).kind = .bidding →
          (∀ l : LaneId, inSet (d.stream i).laneSet l = true → inSet b.laneSet l = false → t.onLane l i = false) ∧
          (e.state = .ready → (d.stream i).state = .inUse → b.clearStreams = 0 → (d.stream i).G < (d.stream i).D →
            ∀ l : LaneId, inSet ((d.stream i).laneSet &&& b.laneSet) l = true → i ∈ t.list l (d.stream i).cls)))

/-- STATION_HOLD makes an ACTIVE station HELD and takes its streams off every service list; STATION_RESUME makes a HELD station
ACTIVE, and each of its bidding streams with available demand above 0 stands on its class list on every lane of its set. -/
def Obligations.StationHoldAndResumeMoveItsStreams : Prop :=
  ∀ (s d : State) (req : Req) (tag : BitVec 16) (k : Nat), s.atStep3 (6 + req.extra) d → d.open_ → d.tablesCanonical →
    tag.toNat = k → 1 ≤ k → k ≤ 4095 → (d.station k).checks = true →
    ((d.station k).state = .active → ∃ t : State,
      exec (.stationHold req tag) s = .next (t.replied 8 req.reference .done .empty) ∧ (t.station k).state = .held ∧
      (∀ i ∈ d.streamsOf k, ∀ (l : LaneId) (c : Fin 4), i ∉ t.list l c) ∧
      (∀ i, i ∉ d.streamsOf k → ∀ (l : LaneId) (c : Fin 4), i ∈ t.list l c ↔ i ∈ d.list l c) ∧
      (∀ i, t.stream i = d.stream i) ∧ (∀ j, j ≠ k → t.station j = d.station j) ∧
      t = { d with stations := { d.stations with entries := t.stations.entries },
                   streams := { d.streams with service := t.streams.service } }) ∧
    ((d.station k).state = .held → ∃ t : State,
      exec (.stationResume req tag) s = .next (t.replied 9 req.reference .done .empty) ∧ (t.station k).state = .active ∧
      (∀ i ∈ d.streamsOf k, (d.stream i).state = .inUse → (d.stream i).kind = .bidding → (d.stream i).G < (d.stream i).D →
        ∀ l : LaneId, inSet (d.stream i).laneSet l = true → i ∈ t.list l (d.stream i).cls) ∧
      (∀ i, t.stream i = d.stream i) ∧ (∀ j, j ≠ k → t.station j = d.station j) ∧
      t = { d with stations := { d.stations with entries := t.stations.entries },
                   streams := { d.streams with service := t.streams.service, joined := t.streams.joined } })

/-- STATION_RELEASE of a station that is not RELEASING: no join map item leads to the tag, each of its streams is RETIRING or
FREE, it is out of the due queue, and it becomes RELEASING while a plan or the draft names it, else FREE with its tag at the tail
of the free tag list; RELEASED is reported. -/
def Obligations.StationReleaseFreesOrKeepsTheTag : Prop :=
  ∀ (s d : State) (req : Req) (tag : BitVec 16) (k : Nat), s.atStep3 (6 + req.extra) d → d.open_ → d.tablesCanonical →
    tag.toNat = k → 1 ≤ k → k ≤ 4095 → (d.station k).checks = true → (d.station k).state ≠ .free →
    (d.station k).state ≠ .releasing →
    ∃ t : State,
      exec (.stationRelease req tag) s = .next (t.replied 10 req.reference .done (.release (t.station k).state)) ∧
      (∀ a, (a, k) ∉ t.stations.joinMap) ∧ k ∉ t.align.dueQueue ∧
      (∀ i ∈ d.streamsOf k, (t.stream i).state = .retiring ∨ (t.stream i).state = .free) ∧
      (0 < d.stationRefs k ∨ d.draftNamesStation k = true →
        (t.station k).state = .releasing ∧ (t.station k).addr = none ∧ (t.station k).admitted = false ∧
        (t.station k).paused = false ∧ (t.station k).laneSet = 0 ∧ t.stations.freeTags = d.stations.freeTags) ∧
      (d.stationRefs k = 0 → d.draftNamesStation k = false →
        t.station k = StationEntry.free ∧ t.stations.freeTags = d.stations.freeTags ++ [k] ∧
        ∀ l : LaneId, ∀ n ∈ (t.lane l).notices, n.body.tag ≠ k) ∧
      (∀ j, j ≠ k → t.station j = d.station j) ∧ t.refs = d.refs ∧ t.link = d.link ∧ t.builder = d.builder ∧
      t.claims = d.claims ∧
      (d.port.reports.length < 64 → t.port.reports = d.port.reports ++ [⟨d.now, .released k .request⟩])

/-- STATION_READ and STREAM_READ outside their ranges are refused with BAD_VALUE; within them, where every entry returned passes
its check, they change nothing and return the entries from the first upward and the totals. -/
def Obligations.ReadsReturnTheEntriesUnchanged : Prop :=
  ∀ (s d : State) (req : Req) (first : BitVec 16) (n : Byte), s.atStep3 (7 + req.extra) d → d.open_ →
    (first = 0 ∨ 4095 < first.toNat ∨ n = 0 ∨ 16 < n.toNat →
      exec (.stationRead req first n) s = .next (d.replied 11 req.reference .badValue .empty)) ∧
    (8191 < first.toNat ∨ n = 0 ∨ 16 < n.toNat →
      exec (.streamRead req first n) s = .next (d.replied 15 req.reference .badValue .empty)) ∧
    (∀ tags : List Nat, first ≠ 0 → first.toNat ≤ 4095 → n ≠ 0 → n.toNat ≤ 16 →
      tags = (List.range' first.toNat n.toNat).filter (fun k => k ≤ 4095) → (∀ k ∈ tags, (d.station k).checks = true) →
      exec (.stationRead req first n) s = .next (d.replied 11 req.reference .done
        (.stationRead d.stations.freeTags.length d.stations.joinMap.length
          (tags.map fun k => { tag := k, entry := d.station k, refs := d.stationRefs k })))) ∧
    (∀ is : List Nat, first.toNat ≤ 8191 → n ≠ 0 → n.toNat ≤ 16 →
      is = (List.range' first.toNat n.toNat).filter (fun i => i < 8192) → (∀ i ∈ is, (d.stream i).checks = true) →
      exec (.streamRead req first n) s = .next (d.replied 15 req.reference .done
        (.streamRead d.freeStreams d.streams.shareSums (is.map fun i =>
          { index := i, entry := d.stream i, reserved := (d.reservedOf i).amount, lists := d.listedLanes i,
            refs := d.streamRefs i }))))

/-! ### Streams -/

/-- STREAM_ADD that passes its checks takes the lowest FREE index, writes it IN_USE with the fields as clamped, gives the owner's
slot the index, and for a cadenced stream records the share, raises the lane's share sum by it and sets N to the next unbuilt span
start U plus the least distance that leaves remainder φ. One that fails a check is refused, in the order of R78: BAD_VALUE for a
field out of range, UNKNOWN_TAG, BAD_STATE for an owner not READY, ACTIVE or HELD, BAD_VALUE for a taken slot, an empty lane set
or a lane above 7, BAD_STATE for an un-set lane, BAD_VALUE for a short z or lanes outside the owner's, NO_ROOM for the reserve cap
or for want of a FREE entry. (That a bidding request's jitter bytes are not examined is read from R174: log entry 13; N where no
distance fits is a free value: log entry 3; a share still kept for an index that reads FREE by a fault is the model's choice: log
entry 28.) -/
def Obligations.StreamAddWritesTheLowestFreeEntry : Prop :=
  (∀ (s d : State) (req : Req) (tag : BitVec 16) (slot : Byte) (f : StreamFields) (k i : Nat) (sl : Fin 8),
    s.atStep3 (21 + req.extra) d → d.open_ → d.tablesCanonical → tag.toNat = k → 1 ≤ k → k ≤ 4095 → slot.toNat = sl.val →
    f.cls.toNat ≤ 3 → (d.station k).checks = true → (d.station k).state ∈ [StationState.ready, .active, .held] →
    d.slotStream k sl = none → d.lowestFree = some i →
    let base : StreamEntry :=
      { StreamEntry.free with
        state := .inUse, owner := some (k, sl), cls := classOf f.cls, weight := max 1 (min f.weight.toNat 64),
        maxTurn := max 1 f.maxTurn.toNat, fragmentable := f.fragmentable != 0 }
    let frame := fun (t : State) =>
      (t.station k).refs = (d.station k).refs.set sl (some i) ∧ (t.station k).state = (d.station k).state ∧
      (∀ j, j ≠ k → t.station j = d.station j) ∧ (∀ j, j ≠ i → t.stream j = d.stream j ∧ t.reservedOf j = d.reservedOf j) ∧
      (∀ l : LaneId, t.onLane l i = false) ∧ ((∀ l : LaneId, d.onLane l i = false) → t.streams.service = d.streams.service) ∧
      t.lanes = d.lanes ∧ t.refs = d.refs ∧ t.port = d.port ∧ t.builder = d.builder
    (f.kind = 1 → f.laneSet ≠ 0 → f.laneSet &&& (d.station k).laneSet = f.laneSet → ∃ t : State,
      exec (.streamAdd req tag slot f) s = .next (t.replied 12 req.reference .done (.streamAdd i (t.stream i) none)) ∧
      t.stream i = { base with laneSet := f.laneSet }.seal ∧ t.streams.shareSums = d.streams.shareSums ∧ frame t) ∧
    (∀ (l : LaneId) (u : LaneSetup) (c share : Nat), f.kind = 2 → f.jitter.toNat ≤ 255 → f.lane.toNat = l.val →
      (d.lane l).setup = some u → u.P + 1 ≤ f.z.toNat → inSet (d.station k).laneSet l = true →
      c = max (max 16 f.c.toNat) f.z.toNat → share = (f.z.toNat * 1024 + c - 1) / c → d.shareSum l + share ≤ u.Rc →
      ∃ t : State,
      exec (.streamAdd req tag slot f) s =
        .next (t.replied 12 req.reference .done (.streamAdd i (t.stream i) (some (d.shareSum l + share)))) ∧
      t.stream i =
        { base with
          kind := .cadenced, lane := l, c := c, z := f.z.toNat, phase := f.phase.toNat % c, jitter := f.jitter.toNat,
          N := firstNominal ((d.lane l).nextSpan * BitVec.ofNat 32 u.S) c (f.phase.toNat % c) }.seal ∧
      t.reservedOf i = { lane := l, amount := share } ∧ t.shareSum l = d.shareSum l + share ∧
      (∀ dist, dist < c → ((d.lane l).nextSpan * BitVec.ofNat 32 u.S + BitVec.ofNat 32 dist).toNat % c = f.phase.toNat % c →
        (∀ n, n < dist → ((d.lane l).nextSpan * BitVec.ofNat 32 u.S + BitVec.ofNat 32 n).toNat % c ≠ f.phase.toNat % c) →
        (t.stream i).N = (d.lane l).nextSpan * BitVec.ofNat 32 u.S + BitVec.ofNat 32 dist) ∧
      (∀ m : LaneId, m ≠ l → t.shareSum m = d.shareSum m) ∧ frame t)) ∧
  ∀ (s d : State) (req : Req) (tag : BitVec 16) (slot : Byte) (f : StreamFields), s.atStep3 (21 + req.extra) d → d.open_ →
    let refused := fun (o : ReqOutcome) => exec (.streamAdd req tag slot f) s = .next (d.replied 12 req.reference o .empty)
    let bad := tag = 0 ∨ 4095 < tag.toNat ∨ 7 < slot.toNat ∨ (f.kind ≠ 1 ∧ f.kind ≠ 2) ∨ 3 < f.cls.toNat ∨
      (f.kind = 2 ∧ 255 < f.jitter.toNat)
    let e := d.station tag.toNat
    (bad → refused .badValue) ∧
    (¬bad → e.checks = true → e.state = .free → refused .unknownTag) ∧
    (¬bad → e.checks = true → e.state ≠ .free → e.state ∉ [StationState.ready, .active, .held] → refused .badState) ∧
    ∀ sl : Fin 8, slot.toNat = sl.val → ¬bad → e.checks = true → e.state ∈ [StationState.ready, .active, .held] →
      ((d.slotStream tag.toNat sl).isSome = true → refused .badValue) ∧
      (d.slotStream tag.toNat sl = none →
        (f.kind = 1 → f.laneSet = 0 ∨ f.laneSet &&& e.laneSet ≠ f.laneSet → refused .badValue) ∧
        (f.kind = 1 → f.laneSet ≠ 0 → f.laneSet &&& e.laneSet = f.laneSet → (∀ i, i < 8192 → (d.stream i).state ≠ .free) →
          refused .noRoom) ∧
        (f.kind = 2 → 7 < f.lane.toNat → refused .badValue) ∧
        ∀ l : LaneId, f.kind = 2 → f.lane.toNat = l.val →
          ((d.lane l).setup = none → refused .badState) ∧
          ∀ (u : LaneSetup) (c : Nat), (d.lane l).setup = some u → c = max (max 16 f.c.toNat) f.z.toNat →
            (f.z.toNat < u.P + 1 ∨ inSet e.laneSet l = false → refused .badValue) ∧
            (u.P + 1 ≤ f.z.toNat → inSet e.laneSet l = true →
              u.Rc < d.shareSum l + (f.z.toNat * 1024 + c - 1) / c ∨ (∀ i, i < 8192 → (d.stream i).state ≠ .free) →
              refused .noRoom))

/-- STREAM_CHANGE that passes its checks writes the given fields, clamped, and keeps owner, state, D, G, credit, last bid
sequence, relist and slip count. A bidding stream leaves the lists of lanes taken from its set, joins those of lanes added if it
may be listed, and stands on its new class list where it stood on the old. A cadenced one has its old lane's share sum lowered by
the old share and its new lane's raised by the new, with N kept unless lane, c or φ changed, and else set to the next unbuilt span
start plus the least distance that leaves remainder φ. One that fails a check is refused, in the order of R80: BAD_VALUE for a
field or an index out of range, UNKNOWN_STREAM, BAD_STATE for a QUARANTINED stream, BAD_VALUE for another kind, BAD_STATE for an
owner not READY, ACTIVE or HELD, then as STREAM_ADD for lanes, size and cap. (That a bidding request's jitter bytes are not
examined is read from R174: log entry 13; N where no distance fits is a free value: log entry 3.) -/
def Obligations.StreamChangeKeepsDemandAndCredit : Prop :=
  (∀ (s d : State) (req : Req) (index : BitVec 16) (f : StreamFields) (i k : Nat) (sl : Fin 8), s.atStep3 (20 + req.extra) d →
    d.open_ → d.tablesCanonical → index.toNat = i → i ≤ 8191 → f.cls.toNat ≤ 3 → (d.stream i).checks = true →
    (d.stream i).state = .inUse → (d.stream i).owner = some (k, sl) → 1 ≤ k → k ≤ 4095 → (d.station k).checks = true →
    (d.station k).state ∈ [StationState.ready, .active, .held] →
    let kept := fun (t : State) =>
      (t.stream i).owner = (d.stream i).owner ∧ (t.stream i).state = .inUse ∧ (t.stream i).kind = (d.stream i).kind ∧
      (t.stream i).D = (d.stream i).D ∧ (t.stream i).G = (d.stream i).G ∧ (t.stream i).credit = (d.stream i).credit ∧
      (t.stream i).lastBid = (d.stream i).lastBid ∧ (t.stream i).relist = (d.stream i).relist ∧
      (t.stream i).slips = (d.stream i).slips ∧ (t.stream i).cls = classOf f.cls ∧
      (t.stream i).weight = max 1 (min f.weight.toNat 64) ∧ (t.stream i).maxTurn = max 1 f.maxTurn.toNat ∧
      (t.stream i).fragmentable = (f.fragmentable != 0) ∧ (∀ j, j ≠ i → t.stream j = d.stream j) ∧
      t.stations = d.stations ∧ t.lanes = d.lanes ∧ t.refs = d.refs ∧ t.builder = d.builder
    ((d.stream i).kind = .bidding → f.kind = 1 → f.laneSet ≠ 0 → f.laneSet &&& (d.station k).laneSet = f.laneSet →
      ∃ t : State, exec (.streamChange req index f) s = .next (t.replied 13 req.reference .done (.streamChange (t.stream i))) ∧
        kept t ∧ (t.stream i).laneSet = f.laneSet ∧ t.streams.shareSums = d.streams.shareSums ∧
        (∀ l : LaneId, inSet (d.stream i).laneSet l = true → inSet f.laneSet l = false → t.onLane l i = false) ∧
        (∀ l : LaneId, inSet (d.stream i).laneSet l = false → inSet f.laneSet l = true →
          (d.station k).state = .active → (d.stream i).G < (d.stream i).D → i ∈ t.list l (classOf f.cls)) ∧
        (∀ l : LaneId, inSet f.laneSet l = true → i ∈ d.list l (d.stream i).cls → i ∈ t.list l (classOf f.cls))) ∧
    (∀ (l : LaneId) (u : LaneSetup) (c : Nat), (d.stream i).kind = .cadenced → f.kind = 2 → f.jitter.toNat ≤ 255 →
      f.lane.toNat = l.val → (d.lane l).setup = some u → u.P + 1 ≤ f.z.toNat → inSet (d.station k).laneSet l = true →
      c = max (max 16 f.c.toNat) f.z.toNat → (d.reservedOf i).lane = (d.stream i).lane →
      (if (d.stream i).lane = l then d.shareSum l - (d.reservedOf i).amount else d.shareSum l) +
        (f.z.toNat * 1024 + c - 1) / c ≤ u.Rc →
      ∃ t : State, exec (.streamChange req index f) s = .next (t.replied 13 req.reference .done (.streamChange (t.stream i))) ∧
        kept t ∧ (t.stream i).lane = l ∧ (t.stream i).c = c ∧ (t.stream i).z = f.z.toNat ∧
        (t.stream i).phase = f.phase.toNat % c ∧ (t.stream i).jitter = f.jitter.toNat ∧
        t.reservedOf i = { lane := l, amount := (f.z.toNat * 1024 + c - 1) / c } ∧
        t.streams.service = d.streams.service ∧
        (∀ m : LaneId, t.shareSum m =
          d.shareSum m - (if m = (d.stream i).lane then (d.reservedOf i).amount else 0) +
            (if m = l then (f.z.toNat * 1024 + c - 1) / c else 0)) ∧
        ((d.stream i).lane = l → (d.stream i).c = c → (d.stream i).phase = f.phase.toNat % c →
          (t.stream i).N = (d.stream i).N) ∧
        ((d.stream i).lane ≠ l ∨ (d.stream i).c ≠ c ∨ (d.stream i).phase ≠ f.phase.toNat % c →
          (t.stream i).N = firstNominal ((d.lane l).nextSpan * BitVec.ofNat 32 u.S) c (f.phase.toNat % c) ∧
          ∀ dist, dist < c →
            ((d.lane l).nextSpan * BitVec.ofNat 32 u.S + BitVec.ofNat 32 dist).toNat % c = f.phase.toNat % c →
            (∀ n, n < dist →
              ((d.lane l).nextSpan * BitVec.ofNat 32 u.S + BitVec.ofNat 32 n).toNat % c ≠ f.phase.toNat % c) →
            (t.stream i).N = (d.lane l).nextSpan * BitVec.ofNat 32 u.S + BitVec.ofNat 32 dist))) ∧
  ∀ (s d : State) (req : Req) (index : BitVec 16) (f : StreamFields) (i : Nat), s.atStep3 (20 + req.extra) d → d.open_ →
    index.toNat = i →
    let refused := fun (o : ReqOutcome) => exec (.streamChange req index f) s = .next (d.replied 13 req.reference o .empty)
    let bad := 8191 < i ∨ (f.kind ≠ 1 ∧ f.kind ≠ 2) ∨ 3 < f.cls.toNat ∨ (f.kind = 2 ∧ 255 < f.jitter.toNat)
    (bad → refused .badValue) ∧
    (¬bad → (d.stream i).checks = true →
      ((d.stream i).state ∈ [StreamState.free, .retiring] → refused .unknownStream) ∧
      ((d.stream i).state = .quarantined → refused .badState) ∧
      ((d.stream i).state = .inUse → (f.kind = 1 ∧ (d.stream i).kind = .cadenced) ∨ (f.kind = 2 ∧ (d.stream i).kind = .bidding) →
        refused .badValue) ∧
      ∀ (k : Nat) (sl : Fin 8), (d.stream i).state = .inUse → (d.stream i).owner = some (k, sl) → 1 ≤ k → k ≤ 4095 →
        (f.kind = 1 ∧ (d.stream i).kind = .bidding) ∨ (f.kind = 2 ∧ (d.stream i).kind = .cadenced) →
        (d.station k).checks = true →
        ((d.station k).state ∉ [StationState.ready, .active, .held] → refused .badState) ∧
        ((d.station k).state ∈ [StationState.ready, .active, .held] →
          (f.kind = 1 → f.laneSet = 0 ∨ f.laneSet &&& (d.station k).laneSet ≠ f.laneSet → refused .badValue) ∧
          (f.kind = 2 → 7 < f.lane.toNat → refused .badValue) ∧
          ∀ l : LaneId, f.kind = 2 → f.lane.toNat = l.val →
            ((d.lane l).setup = none → refused .badState) ∧
            ∀ (u : LaneSetup) (c : Nat), (d.lane l).setup = some u → c = max (max 16 f.c.toNat) f.z.toNat →
              (f.z.toNat < u.P + 1 ∨ inSet (d.station k).laneSet l = false → refused .badValue) ∧
              (u.P + 1 ≤ f.z.toNat → inSet (d.station k).laneSet l = true → (d.reservedOf i).lane = (d.stream i).lane →
                u.Rc < (if (d.stream i).lane = l then d.shareSum l - (d.reservedOf i).amount else d.shareSum l) +
                  (f.z.toNat * 1024 + c - 1) / c →
                refused .noRoom)))

/-- STREAM_REMOVE of an IN_USE or QUARANTINED stream: the slot of the owner that leads to it becomes absent, the stream stands on
no list, its share is given back, and it becomes RETIRING with D at G and credit 0 while a plan or the draft names it, else FREE.
A stream without an owner whose slot leads to it is removed likewise, with no station entry changed. An index out of range is
refused with BAD_VALUE, a FREE or RETIRING stream with UNKNOWN_STREAM, and one whose owner is QUARANTINED with BAD_STATE. -/
def Obligations.StreamRemoveRetiresOrFrees : Prop :=
  ∀ (s d : State) (req : Req) (index : BitVec 16) (i : Nat), s.atStep3 (6 + req.extra) d → d.open_ → index.toNat = i →
    let refused := fun (o : ReqOutcome) => exec (.streamRemove req index) s = .next (d.replied 14 req.reference o .empty)
    let removed := fun (t : State) =>
      exec (.streamRemove req index) s = .next (t.replied 14 req.reference .done (.streamRemove (t.stream i).state)) ∧
      (∀ l : LaneId, t.onLane l i = false) ∧ (t.reservedOf i).amount = 0 ∧
      t.shareSum (d.reservedOf i).lane = d.shareSum (d.reservedOf i).lane - (d.reservedOf i).amount ∧
      (∀ m : LaneId, m ≠ (d.reservedOf i).lane → t.shareSum m = d.shareSum m) ∧
      (d.streamRefs i = 0 → d.draftNamesStream i = false → t.stream i = StreamEntry.free) ∧
      (0 < d.streamRefs i ∨ d.draftNamesStream i = true →
        (t.stream i).state = .retiring ∧ (t.stream i).D = (d.stream i).G ∧ (t.stream i).G = (d.stream i).G ∧
        (t.stream i).credit = 0 ∧ (t.stream i).relist = false) ∧
      (∀ j, j ≠ i → t.stream j = d.stream j) ∧ t.lanes = d.lanes ∧ t.refs = d.refs ∧ t.builder = d.builder ∧ t.port = d.port
    (8191 < i → refused .badValue) ∧
    (i ≤ 8191 → (d.stream i).checks = true →
      ((d.stream i).state ∈ [StreamState.free, .retiring] → refused .unknownStream) ∧
      ((d.stream i).state ∈ [StreamState.inUse, .quarantined] → d.tablesCanonical →
        (∀ (k : Nat) (sl : Fin 8), (d.stream i).owner = some (k, sl) → 1 ≤ k → k ≤ 4095 → (d.station k).checks = true →
          d.slotStream k sl = some i →
          ((d.station k).state = .quarantined → refused .badState) ∧
          ((d.station k).state ≠ .quarantined → ∃ t : State, removed t ∧ (t.station k).refs[sl] = none ∧
            ∀ j, j ≠ k → t.station j = d.station j)) ∧
        ((∀ (k : Nat) (sl : Fin 8), (d.stream i).owner = some (k, sl) → 1 ≤ k → k ≤ 4095 →
            (d.station k).checks = true ∧ d.slotStream k sl ≠ some i) →
          ∃ t : State, removed t ∧ t.stations = d.stations)))

/-! ### Reception records -/

/-- The checks of a record in their order: lane open, malformed, tag check, history; the first that fails raises its counter and
the record has no other effect but the watermark's, which a record that passes the first check moves to its reception time when
that is later. A MARK that passes has no effect beyond the watermark's, a record of unknown kind is malformed, and a frame without
its common fields is ignored. A record is malformed by the lengths and ranges of R28, written out. The tag check asks for an odd
number of ones among the tag's twelve bits and the check bit. (What a record command's operands are, and that those no link
delivers under its name have the effect said here, is the model's: log entry 22.) -/
def Obligations.RecordsAreCheckedInOrder : Prop :=
  ∀ (s : State), s.resetPin = false →
    (∀ (port : LaneId) (n : Nat), exec (.receptionFrameShort port n) s = .next s) ∧
    (∀ w : BitVec 16, tagCheckPasses w = true ↔
      (([0, 1, 2, 3, 4, 5, 6, 7, 8, 9, 10, 11, 15] : List Nat).filter fun k => w.getLsbD k).length % 2 = 1) ∧
    (∀ (h : RecordHead) (w : BitVec 16) (slot seq source : Byte) (n : BitVec 32),
      (Instr.bid h w slot seq n source).recordMalformed = true ↔ h.frameLen ≠ 20 ∨ w.toNat % 4096 = 0 ∨ 7 < slot.toNat ∨
        15 < seq.toNat ∨ n.toNat = 0 ∨ 1048575 < n.toNat ∨ (source ≠ 1 ∧ source ≠ 2)) ∧
    (∀ (h : RecordHead) (n c x e : BitVec 16),
      (Instr.tally h n c x e).recordMalformed = true ↔ h.frameLen ≠ 16 ∨ 1024 < n.toNat ∨ 1024 < c.toNat ∨ 1024 < x.toNat ∨
        1024 < e.toNat ∨ c.toNat + x.toNat + e.toNat ≠ n.toNat) ∧
    (∀ (h : RecordHead) (form : Byte) (w et : BitVec 16) (a : HwAddr) (ep q : Byte),
      let measured := et.toInt < -2048 ∨ 2047 < et.toInt ∨ ep.toInt < -64 ∨ 63 < ep.toInt ∨ 63 < q.toNat
      ((Instr.resultTagged h form w et ep q).recordMalformed = true ↔
        h.frameLen ≠ 22 ∨ form ≠ 1 ∨ w.toNat % 4096 = 0 ∨ measured) ∧
      ((Instr.resultAddressForm h a et ep q).recordMalformed = true ↔
        h.frameLen ≠ 22 ∨ a.toNat = 0 ∨ a.toNat = 2 ^ 48 - 1 ∨ measured) ∧
      ((Instr.noShow h w).recordMalformed = true ↔ h.frameLen ≠ 12 ∨ w.toNat % 4096 = 0) ∧
      ((Instr.mark h).recordMalformed = true ↔ h.frameLen ≠ 8)) ∧
    ∀ (c : Instr) (h : RecordHead), c.recordHead = some h →
    (s.laneOpen h.port = false →
      exec c s = .next (s.setRx h.port { s.rx h.port with notOpen := min ((s.rx h.port).notOpen + 1) 4294967295 })) ∧
    (s.laneOpen h.port = true →
      (c.recordMalformed = true →
        exec c s = .next ((s.seen h).setRx h.port
          { (s.seen h).rx h.port with malformed := min ((s.rx h.port).malformed + 1) 4294967295 })) ∧
      (c.recordMalformed = false → ∀ w, c.recordTag = some w → tagCheckPasses w = false →
        exec c s = .next ((s.seen h).setRx h.port
          { (s.seen h).rx h.port with tagCheck := min ((s.rx h.port).tagCheck + 1) 4294967295 })) ∧
      (c.recordMalformed = false → (∀ w, c.recordTag = some w → tagCheckPasses w = true) →
        s.historyEntry h.port h.planSeq = none → c ≠ .mark h →
        exec c s = .next ((s.seen h).setRx h.port
          { (s.seen h).rx h.port with stale := min ((s.rx h.port).stale + 1) 4294967295 })) ∧
      (c = .mark h → h.frameLen = 8 → exec c s = .next (s.seen h)) ∧
      (∀ k : Byte, (k = 0 ∨ 5 < k.toNat) → c = .receptionUnknownKind h k → c.recordMalformed = true))

/-- A BID that passes the record checks: for a station that is ACTIVE or HELD and a slot that leads to an IN_USE bidding stream
of that owner and slot it is accepted and counted; a repeat of the last bid sequence sets the relist flag alone, and a new one
raises D by the amount, to no more than 16,777,215, records the sequence, and, where A rises from 0 for an ACTIVE owner, puts the
stream on its class list of every lane of its set. Every other BID is discarded and counted. -/
def Obligations.BidRaisesDemandOrRelists : Prop :=
  ∀ (s : State) (h : RecordHead) (w : BitVec 16) (slot seq source : Byte) (amount : BitVec 32) (t : Nat) (sl : Fin 8),
    s.resetPin = false → s.tablesCanonical → s.laneOpen h.port = true →
    (Instr.bid h w slot seq amount source).recordMalformed = false → tagCheckPasses w = true →
    (s.historyEntry h.port h.planSeq).isSome = true → tagOfTagWord w = t → slot.toNat = sl.val →
    (s.station t).checks = true →
    let discarded := exec (.bid h w slot seq amount source) s = .next ((s.seen h).count h.port fun k =>
      { k with bidsDiscarded := min (k.bidsDiscarded + 1) 4294967295 })
    ((s.station t).state ≠ .active → (s.station t).state ≠ .held → discarded) ∧
    ((s.station t).refs[sl] = none → discarded) ∧
    ∀ i : Nat, (s.station t).state = .active ∨ (s.station t).state = .held → (s.station t).refs[sl] = some i → i < 8192 →
      (s.stream i).checks = true →
      (¬((s.stream i).state = .inUse ∧ (s.stream i).kind = .bidding ∧ (s.stream i).owner = some (t, sl)) → discarded) ∧
      ((s.stream i).state = .inUse → (s.stream i).kind = .bidding → (s.stream i).owner = some (t, sl) →
        ∃ u : State, exec (.bid h w slot seq amount source) s = .next u ∧
          u = { s with
            ports := (s.seen h).ports
            lanes := (s.count h.port fun k => { k with bidsAccepted := min (k.bidsAccepted + 1) 4294967295 }).lanes
            streams := { s.streams with
              entries := u.streams.entries, service := u.streams.service, joined := u.streams.joined } } ∧
          (∀ j, j ≠ i → u.stream j = s.stream j) ∧
          ((s.stream i).lastBid = some seq.toNat →
            u.stream i = { s.stream i with relist := true }.seal ∧ u.streams.service = s.streams.service) ∧
          ((s.stream i).lastBid ≠ some seq.toNat →
            u.stream i =
              { s.stream i with D := min ((s.stream i).D + amount.toNat) 16777215, lastBid := some seq.toNat }.seal ∧
            ((s.stream i).D ≤ (s.stream i).G → (s.stream i).G < min ((s.stream i).D + amount.toNat) 16777215 →
              (s.station t).state = .active → ∀ l : LaneId, inSet (s.stream i).laneSet l = true →
                i ∈ u.list l (s.stream i).cls) ∧
            ((s.stream i).G < (s.stream i).D ∨ (s.station t).state = .held →
              u.streams.service = s.streams.service)))

/-- A measurement of a station whose turn is unresolved: O and Pw take the clamped corrections, the CORRECTION notice on the
turn's lane carries what was applied with the verdict, verdict waiting is set, and the turn is resolved. Within both tolerances the
verdict is DONE (attempts and misses 0; ALIGNING becomes ACTIVE if admitted, else READY, with ALIGNED; LAPSED becomes ALIGNING; the
others keep their state); otherwise the attempt count rises, and below A_max the verdict is CONTINUE, the station due now; at
A_max it is ABORT, and a READY, ACTIVE or HELD station enters LAPSED while an ALIGNING or LAPSED one is released. -/
def Obligations.MeasurementCorrectsAndJudges : Prop :=
  ∀ (s : State) (h : RecordHead) (w et : BitVec 16) (ep q : Byte) (t : Nat) (E : HistEntry) (p : PartSettings)
    (u : LaneSetup) (e : StationEntry) (O' P' n : Nat),
    s.resetPin = false → s.tablesCanonical → s.laneOpen h.port = true →
    (Instr.resultTagged h 1 w et ep q).recordMalformed = false → tagCheckPasses w = true → tagOfTagWord w = t →
    s.historyEntry h.port h.planSeq = some E → E.turns.find? (fun a => a.tag == t) = some ⟨t, false⟩ →
    e = s.station t → e.checks = true → e.state.kept = true → p = s.align.settings → s.setupOf h.port = u →
    u.Pmin ≤ u.Pmax → p.qMin ≤ q.toNat → (s.lane h.port).notices.length < 96 →
    (O' : Int) = max 0 (min (e.O + et.toInt) 1048575) → (P' : Int) = max (u.Pmin : Int) (min (e.Pw - ep.toInt) u.Pmax) →
    n = min (e.attempts + 1) p.aMax →
    let notice := fun (v : Verdict) =>
      (⟨.correction t ((O' : Int) - e.O) ((P' : Int) - e.Pw) v, none, false⟩ : Notice)
    let lane := fun (v : Verdict) =>
      { s.lane h.port with
        notices := (s.lane h.port).notices ++ [notice v]
        history := (s.lane h.port).history.map fun g => if g.seq = h.planSeq then g.resolve t else g }
    let within := et.toInt.natAbs ≤ p.tolT ∧ ep.toInt.natAbs ≤ p.tolP
    ∃ r : State, exec (.resultTagged h 1 w et ep q) s = .next r ∧
      (∀ j, j ≠ t → r.station j = s.station j) ∧ r.claims = s.claims ∧ r.link = s.link ∧ r.builder = s.builder ∧
      r.ports = (s.seen h).ports ∧ r.align.settings = p ∧
      (within → e.state ≠ .aligning → r.port = s.port) ∧
      (within → r.lane h.port = lane .done ∧ (r.station t).O = O' ∧ (r.station t).Pw = P' ∧
        (r.station t).attempts = 0 ∧ (r.station t).misses = 0 ∧ (r.station t).verdictWaiting = true ∧
        (e.outstanding = some (h.port, h.planSeq) → (r.station t).outstanding = none) ∧
        (e.state = .lapsed → (r.station t).state = .aligning ∧ (r.station t).due = s.now ∧ t ∈ r.align.dueQueue) ∧
        (e.state ≠ .lapsed → (r.station t).due = s.now + BitVec.ofNat 32 p.miTu ∧ t ∉ r.align.dueQueue) ∧
        (e.state ∈ [StationState.ready, .active, .held] → (r.station t).state = e.state ∧ r.streams = s.streams) ∧
        (e.state = .aligning → (r.station t).state = (if e.admitted then .active else .ready) ∧
          (s.port.reports.length < 64 → r.port.reports =
            s.port.reports ++ [⟨s.now, .aligned t h.port (if e.admitted then .active else .ready) O' P'⟩]))) ∧
      (¬within → n < p.aMax → r.lane h.port = lane .cont ∧ (r.station t).O = O' ∧ (r.station t).Pw = P' ∧
        (r.station t).attempts = n ∧ (r.station t).misses = e.misses ∧ (r.station t).state = e.state ∧
        (r.station t).verdictWaiting = true ∧ (r.station t).due = s.now ∧ t ∈ r.align.dueQueue ∧ r.streams = s.streams ∧
        r.port = s.port) ∧
      (¬within → p.aMax ≤ n → e.state ∈ [StationState.ready, .active, .held] →
        r.lane h.port = lane .abort ∧ (r.station t).state = .lapsed ∧ (r.station t).O = O' ∧ (r.station t).Pw = P' ∧
        (r.station t).attempts = 0 ∧ (r.station t).misses = 0 ∧ (r.station t).due = s.now ∧ t ∈ r.align.dueQueue ∧
        (∀ i ∈ s.streamsOf t, (r.stream i).D = (s.stream i).G) ∧
        (s.port.reports.length < 64 →
          r.port.reports = s.port.reports ++ [⟨s.now, .lapsed t e.home .notConverged⟩])) ∧
      (¬within → p.aMax ≤ n → e.state = .aligning ∨ e.state = .lapsed →
        ((r.station t).state = .releasing ∨ (r.station t).state = .free) ∧ (∀ a, (a, t) ∉ r.stations.joinMap) ∧
        (0 < s.stationRefs t → (r.station t).state = .releasing ∧ r.lane h.port = lane .abort) ∧
        (s.port.reports.length < 63 → r.port.reports =
          s.port.reports ++ [⟨s.now, .alignFailed t h.port .notConverged⟩, ⟨s.now, .released t .alignFailed⟩]))

/-- A NO_SHOW of an unresolved turn resolves it and counts: an ALIGNING or LAPSED station's attempt count rises and it is due now,
or at A_max it is released after ALIGN_FAILED; a READY, ACTIVE or HELD station's miss count rises with everything else kept, or at
A_max it enters LAPSED; a paused station keeps its counts. A NO_SHOW or tagged RESULT for a turn that the plan did not carry, or
that is resolved, is discarded and counted; one for a station that is FREE, QUARANTINED or RELEASING resolves the turn, clears the
station's mark and is discarded and counted, the entry left as it is otherwise. A tagged RESULT below q_min is taken as a NO_SHOW
is, and one that finds 96 notices queued too, with the discard counted. -/
def Obligations.NoShowCountsTowardsTheLimit : Prop :=
  ∀ (s : State) (h : RecordHead) (w : BitVec 16) (t : Nat) (E : HistEntry) (e : StationEntry) (aMax : Nat),
    s.resetPin = false → s.tablesCanonical → s.laneOpen h.port = true → tagCheckPasses w = true → tagOfTagWord w = t →
    s.historyEntry h.port h.planSeq = some E → e = s.station t → e.checks = true → aMax = s.align.settings.aMax →
    (∀ c : Instr, (c = .noShow h w ∨ ∃ et ep q, c = .resultTagged h 1 w et ep q) → c.recordMalformed = false →
      (E.turns.find? (fun a => a.tag == t) = none ∨ E.turns.find? (fun a => a.tag == t) = some ⟨t, true⟩) →
      exec c s = .next ((s.seen h).count h.port fun k =>
        { k with resultsDiscarded := min (k.resultsDiscarded + 1) 4294967295 })) ∧
    (∀ c : Instr, (c = .noShow h w ∨ ∃ et ep q, c = .resultTagged h 1 w et ep q) → c.recordMalformed = false →
      E.turns.find? (fun a => a.tag == t) = some ⟨t, false⟩ → e.state ∈ [StationState.free, .quarantined, .releasing] →
      ∃ r : State, exec c s = .next r ∧ (∀ j, j ≠ t → r.station j = s.station j) ∧
        r.station t = (if e.outstanding = some (h.port, h.planSeq) then { e with outstanding := none }.seal else e) ∧
        r.lane h.port = { s.lane h.port with
          history := (s.lane h.port).history.map fun g => if g.seq = h.planSeq then g.resolve t else g
          counters := { (s.lane h.port).counters with
            resultsDiscarded := min ((s.lane h.port).counters.resultsDiscarded + 1) 4294967295 } } ∧
        (∀ m : LaneId, m ≠ h.port → r.lane m = s.lane m) ∧ r.ports = (s.seen h).ports ∧ r.align = s.align ∧
        r.streams = s.streams ∧ r.refs = s.refs ∧ r.claims = s.claims ∧ r.link = s.link ∧ r.builder = s.builder ∧
        r.port = s.port) ∧
    (∀ (et : BitVec 16) (ep q : Byte), (Instr.resultTagged h 1 w et ep q).recordMalformed = false →
      E.turns.find? (fun a => a.tag == t) = some ⟨t, false⟩ → e.state.kept = true →
      (q.toNat < s.align.settings.qMin →
        exec (.resultTagged h 1 w et ep q) s = exec (.noShow { h with frameLen := 12 } w) s) ∧
      (s.align.settings.qMin ≤ q.toNat → 96 ≤ (s.lane h.port).notices.length →
        exec (.resultTagged h 1 w et ep q) s = exec (.noShow { h with frameLen := 12 } w) (s.count h.port fun k =>
          { k with resultsDiscarded := min (k.resultsDiscarded + 1) 4294967295 }))) ∧
    ((Instr.noShow h w).recordMalformed = false → E.turns.find? (fun a => a.tag == t) = some ⟨t, false⟩ →
      e.state.kept = true →
      ∃ r : State, exec (.noShow h w) s = .next r ∧
      (∀ j, j ≠ t → r.station j = s.station j) ∧ r.claims = s.claims ∧ r.link = s.link ∧ r.builder = s.builder ∧
      r.ports = (s.seen h).ports ∧
      (r.lane h.port).history =
        ((s.lane h.port).history.map fun g => if g.seq = h.planSeq then g.resolve t else g) ∧
      (e.outstanding = some (h.port, h.planSeq) → (r.station t).outstanding = none) ∧
      (e.paused = true → (r.station t).attempts = e.attempts ∧ (r.station t).misses = e.misses ∧
        (r.station t).state = e.state ∧ (r.station t).due = e.due ∧ r.port = s.port ∧ r.streams = s.streams) ∧
      (e.paused = false → e.state = .aligning ∨ e.state = .lapsed → e.attempts + 1 < aMax →
        (r.station t).attempts = e.attempts + 1 ∧ (r.station t).misses = e.misses ∧ (r.station t).state = e.state ∧
        (r.station t).due = s.now ∧ t ∈ r.align.dueQueue ∧ r.port = s.port ∧ r.streams = s.streams) ∧
      (e.paused = false → e.state = .aligning ∨ e.state = .lapsed → aMax ≤ e.attempts + 1 →
        ((r.station t).state = .releasing ∨ (r.station t).state = .free) ∧ (∀ a, (a, t) ∉ r.stations.joinMap) ∧
        t ∉ r.align.dueQueue ∧
        (s.port.reports.length < 63 → r.port.reports =
          s.port.reports ++ [⟨s.now, .alignFailed t h.port .noShows⟩, ⟨s.now, .released t .alignFailed⟩])) ∧
      (e.paused = false → e.state ∈ [StationState.ready, .active, .held] → e.misses + 1 < aMax →
        (r.station t).misses = e.misses + 1 ∧ (r.station t).attempts = e.attempts ∧ (r.station t).state = e.state ∧
        (r.station t).due = e.due ∧ r.align = s.align ∧ r.port = s.port ∧ r.streams = s.streams) ∧
      (e.paused = false → e.state ∈ [StationState.ready, .active, .held] → aMax ≤ e.misses + 1 →
        (r.station t).state = .lapsed ∧ (r.station t).attempts = 0 ∧ (r.station t).misses = 0 ∧
        (r.station t).due = s.now ∧ t ∈ r.align.dueQueue ∧ (r.station t).admitted = e.admitted ∧
        (∀ i ∈ s.streamsOf t, (r.stream i).D = (s.stream i).G ∧ ∀ (l : LaneId) (k : Fin 4), i ∉ r.list l k) ∧
        (s.port.reports.length < 64 → r.port.reports = s.port.reports ++ [⟨s.now, .lapsed t e.home .misses⟩])))

/-- An open-window RESULT: without an open window, with 8 joins accepted, or below the quality floor it is discarded; for a
quarantined station, a lane not LIVE, a full notice queue or no free tag it is refused with its reason, discarded and reported;
otherwise a new address takes the tag at the head of the free tag list as an ALIGNING station with the first correction, and a
mapped one rejoins, keeping its admitted flag; each has its JOIN notice, is due now and is reported. (In a state that R39 rules
out, where a mapped entry is FREE or RELEASING, it is the model's that it rejoins: log entry 19.) -/
def Obligations.OpenWindowResultJoins : Prop :=
  ∀ (s : State) (h : RecordHead) (a : HwAddr) (et : BitVec 16) (ep q : Byte) (E : HistEntry) (u : LaneSetup) (O' P' : Nat),
    s.resetPin = false → s.tablesCanonical → s.laneOpen h.port = true →
    (Instr.resultAddressForm h a et ep q).recordMalformed = false → s.historyEntry h.port h.planSeq = some E →
    s.setupOf h.port = u → u.Pmin ≤ u.Pmax → (O' : Int) = max 0 (min (u.Od + et.toInt) 1048575) →
    (P' : Int) = max (u.Pmin : Int) (min ((((u.Pmin + u.Pmax) / 2 : Nat) : Int) - ep.toInt) u.Pmax) →
    let discarded := (s.seen h).count h.port fun k => { k with resultsDiscarded := min (k.resultsDiscarded + 1) 4294967295 }
    let refused := fun (why : JoinRefusal) =>
      exec (.resultAddressForm h a et ep q) s = .next (discarded.raise (.joinRefused h.port a why))
    let allowed := E.openWindow = true ∧ E.joins < 8 ∧ s.align.settings.qMin ≤ q.toNat
    let live := (s.lane h.port).state = .live
    let joined := fun (r : State) (t : Nat) =>
      r.lane h.port = { s.lane h.port with
        notices := (s.lane h.port).notices ++ [⟨.join a t O' P', none, false⟩]
        history := (s.lane h.port).history.map fun g => if g.seq = h.planSeq then { g with joins := g.joins + 1 } else g } ∧
      (∀ j, j ≠ t → r.station j = s.station j) ∧ t ∈ r.align.dueQueue ∧ r.ports = (s.seen h).ports ∧
      r.builder = s.builder ∧ r.link = s.link ∧ r.refs = s.refs
    (¬allowed → exec (.resultAddressForm h a et ep q) s = .next discarded) ∧
    (allowed → s.mapped a = none →
      (¬live → refused .busy) ∧ (live → s.stations.freeTags = [] → refused .full) ∧
      (∀ t rest, live → s.stations.freeTags = t :: rest →
        (96 ≤ (s.lane h.port).notices.length → refused .busy) ∧
        ((s.lane h.port).notices.length < 96 → ∃ r : State,
          exec (.resultAddressForm h a et ep q) s = .next r ∧ joined r t ∧
          r.stations.freeTags = rest ∧ r.stations.joinMap = s.stations.joinMap ++ [(a, t)] ∧ r.streams = s.streams ∧
          r.station t =
            { StationEntry.free with
              state := .aligning, addr := some a, laneSet := laneBit h.port, home := h.port, O := O', Pw := P',
              due := s.now }.seal ∧
          (s.port.reports.length < 64 → r.port.reports = s.port.reports ++ [⟨s.now, .joined h.port t a⟩])))) ∧
    (∀ t, allowed → s.mapped a = some t → (s.station t).checks = true →
      ((s.station t).state = .quarantined → refused .quarantined) ∧
      ((s.station t).state ≠ .quarantined → (¬live ∨ 96 ≤ (s.lane h.port).notices.length) → refused .busy) ∧
      ((s.station t).state ≠ .quarantined → live → (s.lane h.port).notices.length < 96 → ∃ r : State,
        exec (.resultAddressForm h a et ep q) s = .next r ∧ joined r t ∧
        r.stations.freeTags = s.stations.freeTags ∧ r.stations.joinMap = s.stations.joinMap ∧
        (r.station t).state = .aligning ∧ (r.station t).attempts = 0 ∧ (r.station t).misses = 0 ∧
        (r.station t).laneSet = (s.station t).laneSet ||| laneBit h.port ∧ (r.station t).home = h.port ∧
        (r.station t).paused = false ∧ (r.station t).O = O' ∧ (r.station t).Pw = P' ∧ (r.station t).due = s.now ∧
        (r.station t).admitted = (s.station t).admitted ∧
        (r.station t).verdictWaiting = (s.station t).verdictWaiting ∧
        (r.station t).outstanding = (s.station t).outstanding ∧
        (∀ i ∈ s.streamsOf t, (r.stream i).D = (s.stream i).G ∧ ∀ (l : LaneId) (k : Fin 4), i ∉ r.list l k) ∧
        (s.port.reports.length < 64 →
          r.port.reports = s.port.reports ++ [⟨s.now, .rejoined h.port t a (s.station t).state⟩])))

/-- Three timed events at their times: a covered-until time becomes absent when plant time reaches it; at the holdoff expiry the
gate is OPEN, and at once LATCHED if a record waits, and the expiry is absent from then on; and a station whose maintenance due is
reached joins the due queue, behind every station that joined at an earlier plant time and in tag order among those that joined at
this one (which the model notes in dueFresh: log entry 16). -/
def Obligations.TimedEventsActAtTheirTimes : Prop :=
  ∀ s : State, s.resetPin = false →
    (∀ l : LaneId, (s.lane l).coveredUntil = some s.now →
      exec (.coveredUntilExpiry l) s = .next (s.setLane l { s.lane l with coveredUntil := none })) ∧
    (s.port.gate = .holdoff → s.port.holdoff = some s.now →
      exec .holdoffExpiry s =
        .next { s with port := { s.port with
          holdoff := none, gate := if s.port.replies = [] ∧ s.port.reports = [] then .opened else .latched } }) ∧
    (∀ (tag : BitVec 12) (t : Nat), tag.toNat = t → (s.station t).due = s.now → (s.station t).state.kept = true →
      t ∉ s.align.dueQueue → (s.station t).checks = true →
      ∃ q : List Nat,
        exec (.maintenanceDue tag) s = .next { s with align := { s.align with
          dueQueue := q, dueFresh := t :: s.align.dueFresh.filter (fun k => k ≠ t) } } ∧
        t ∈ q ∧ q.filter (fun k => k ≠ t) = s.align.dueQueue ∧
        ∀ old new : List Nat, s.align.dueQueue = old ++ new → (∀ k ∈ old, k ∉ s.align.dueFresh) →
          (∀ k ∈ new, k ∈ s.align.dueFresh) → new.Pairwise (· < ·) →
          q = old ++ new.filter (fun k => k < t) ++ [t] ++ new.filter (fun k => t < k))

/-! ### The Plan Builder -/

/-- First fit of g quanta in a shaped turn list is the lowest offset from which g quanta are free within the span, and there is
none exactly when no such offset exists. -/
def Obligations.FirstFitIsTheLowestPlace : Prop :=
  ∀ (S b g : Nat) (turns : List Turn), turnsShaped S b turns → 1 ≤ g →
    let fits := fun (p : Nat) => p + g ≤ S ∧ ∀ t ∈ turns, t.stop ≤ p ∨ p + g ≤ t.start
    (∀ p, firstFit S turns g = some p ↔ fits p ∧ ∀ q, q < p → ¬fits q) ∧
    (firstFit S turns g = none ↔ ∀ p, ¬fits p)

/-- BUILD_BEGIN takes the eligible span that starts earliest, serially, and among equal starts the one of the lower lane; with
none eligible nothing begins. With its margin below Df the span is skipped, the drop counted. Otherwise the builder opens an empty
draft with the values that R115 lists: where every station entry passes its check, be from bs and T as R110 gives it, the first
Umax stations of the due queue that R60 takes, the first 24 unmarked notices whose station is not QUARANTINED, the service lists
from class 3 down, and the earliest watermark of the LIVE lanes. (The note of the streams that join a list of the lane from here
on is the model's: log entry 16.) -/
def Obligations.BuildBeginFixesTheDraft : Prop :=
  ∀ s : State, s.resetPin = false → s.builder.draft = none →
    let eligible := fun (v : WaitingSpan) => (s.lane v.lane).state = .live ∧ s.queuedOf v.lane < 2
    ((∀ v ∈ s.builder.waiting, ¬eligible v) → exec .buildBegin s = .next s) ∧
    ((∃ v ∈ s.builder.waiting, eligible v) → ∃ w, s.nextSpan = some w) ∧
    ∀ (w : WaitingSpan) (u : LaneSetup), s.nextSpan = some w → (s.lane w.lane).setup = some u →
    (w ∈ s.builder.waiting ∧ eligible w ∧
      ∀ base : Time, (∀ v ∈ s.builder.waiting, eligible v → (v.start - base).toNat < 2 ^ 31) →
        ∀ v ∈ s.builder.waiting, eligible v →
          (w.start - base).toNat < (v.start - base).toNat ∨ (w.start = v.start ∧ w.lane ≤ v.lane)) ∧
    ((w.start - s.now).toInt < u.Df → ∃ r : State, exec .buildBegin s = .next r ∧ r.builder.draft = none ∧
      w ∉ r.builder.waiting ∧ (r.lane w.lane).drops = min ((s.lane w.lane).drops + 1) 15) ∧
    ((u.Df : Int) ≤ (w.start - s.now).toInt → (∀ t, (s.station t).checks = true) →
      ∃ (r : State) (d : Draft), exec .buildBegin s = .next r ∧
        r.builder = { waiting := s.builder.waiting.filter (fun v => v ≠ w), draft := some d } ∧
        d.lane = w.lane ∧ d.index = w.index ∧ d.setup = u ∧ d.start = w.start ∧
        d.startQ = w.index * BitVec.ofNat 32 u.S ∧ d.bs = (s.claim w.lane).settings.bs ∧
        (∀ T, (s.claim w.lane).target = some T → d.target = T ∧
          ∀ e, e < 64 → T ≤ 2 ^ e → (∀ n, n < e → 2 ^ n < T) → d.be = max d.bs (min 10 (e + 1))) ∧
        d.creditUnit = s.align.settings.creditUnit ∧
        (∀ base : Time, (∀ l : LaneId, (s.lane l).state = .live → ((s.rx l).watermark - base).toNat < 2 ^ 31) →
          ∀ l : LaneId, (s.lane l).state = .live → (d.ack - base).toNat ≤ ((s.rx l).watermark - base).toNat) ∧
        (∃ l : LaneId, (s.lane l).state = .live ∧ d.ack = (s.rx l).watermark) ∧
        d.candidates = (s.align.dueQueue.filter fun t => decide ((s.station t).home = w.lane ∧
          (s.station t).state ∈ [StationState.aligning, .lapsed, .ready, .active, .held] ∧ (s.station t).outstanding = none ∧
          (s.station t).verdictWaiting = false ∧ (s.station t).paused = false)).take u.Umax ∧
        d.notices = (((s.lane w.lane).notices.filter fun n =>
          n.mark.isNone && (s.station n.body.tag).state != .quarantined).map (·.body)).take 24 ∧
        d.visits = (([3, 2, 1, 0] : List (Fin 4)).flatMap fun k => (s.list w.lane k).map fun i => (k, i)) ∧
        d.turns = [] ∧ d.data = [] ∧ d.cadence = [] ∧ d.pendings = [] ∧ d.openWindow = false ∧ d.slips = 0 ∧
        d.stage = .cadenced ∧
        r.stations = s.stations ∧ r.streams = { s.streams with joined := s.streams.joined.set w.lane [] } ∧ r.refs = s.refs ∧
        r.link = s.link ∧ r.claims = s.claims ∧
        r.ports = s.ports ∧ r.port = s.port ∧ r.align = s.align ∧
        (∀ l : LaneId, l ≠ w.lane → r.lane l = s.lane l) ∧
        r.lane w.lane = { s.lane w.lane with notices := (r.lane w.lane).notices } ∧
        (r.lane w.lane).notices.map (fun n => (n.body, n.mark)) = (s.lane w.lane).notices.map fun n => (n.body, n.mark))

/-- Stage A1, where every entry passes its check. A stream not walked is left as it is. Of a walked stream only N and the slip
count change: N ahead of the span stays; N within the span goes on by the least whole number of cadences that takes it to the
span's end or past it, and N behind the span's start likewise, so that it ends less than one cadence past the span's end. Each
nominal start within the span of a stream with an ACTIVE owner has a CADENCE turn or is a slip of the stream; a HELD owner's
stream slips nothing; and the lane's slips counter rises by the stage's slips. With one walked stream of an ACTIVE owner alone in
the span, each nominal start has a turn of z quanta at its own offset, or is a slip when z quanta do not fit before the span's
end. -/
def Obligations.CadencedWalkPlacesAndAdvances : Prop :=
  ∀ (s : State) (d : Draft), s.resetPin = false → s.tablesCanonical → s.builder.draft = some d → d.stage = .cadenced →
    (∀ t, (s.station t).checks = true) → (∀ i, (s.stream i).checks = true) → 1 ≤ d.setup.S → d.setup.S ≤ 2048 →
    ∃ (r : State) (d' : Draft), exec .stageA1CadencedWalk s = .next r ∧ r.builder.draft = some d' ∧
      d'.stage = .alignment ∧ r.stations = s.stations ∧ r.refs = s.refs ∧ r.link = s.link ∧ r.port = s.port ∧
      (∀ m : LaneId, m ≠ d.lane → r.lane m = s.lane m) ∧
      r.lane d.lane = { s.lane d.lane with counters := { (s.lane d.lane).counters with
        slips := min ((s.lane d.lane).counters.slips + (d'.slips - d.slips)) 4294967295 } } ∧
      (∀ i, s.walks d.lane i = false → r.stream i = s.stream i) ∧
      (∀ i, s.walks d.lane i = true → 1 ≤ (s.stream i).c → (s.stream i).c ≤ 65535 →
        let c := (s.stream i).c
        let ahead := ((s.stream i).N - d.startQ).toNat
        let back := (d.startQ - (s.stream i).N).toNat
        let first := if ahead < 48 * d.setup.S + c then ahead else (c - back % c) % c
        let starts := if s.ownerIs (s.stream i) .active then (d.setup.S - first + c - 1) / c else 0
        let placed := d'.cadence.count i - d.cadence.count i
        r.stream i = { s.stream i with N := (r.stream i).N, slips := (r.stream i).slips }.seal ∧
        (d.setup.S ≤ ahead → ahead < 48 * d.setup.S + c → (r.stream i).N = (s.stream i).N) ∧
        (ahead < d.setup.S → ∃ m : Nat, (r.stream i).N = (s.stream i).N + BitVec.ofNat 32 (m * c) ∧
          d.setup.S ≤ ahead + m * c ∧ ahead + m * c < d.setup.S + c) ∧
        (48 * d.setup.S + c ≤ ahead → ∃ m : Nat, (r.stream i).N = (s.stream i).N + BitVec.ofNat 32 (m * c) ∧
          back + d.setup.S ≤ m * c ∧ m * c < back + d.setup.S + c) ∧
        placed ≤ starts ∧ (r.stream i).slips = min ((s.stream i).slips + (starts - placed)) 65535) ∧
      (∀ i k sl, s.cadencedOn d.lane = [i] → s.walks d.lane i = true → (s.stream i).owner = some (k, sl) →
        (s.station k).state = .active → d.turns = [] → d.cadence = [] → 16 ≤ (s.stream i).c → (s.stream i).c ≤ 65535 →
        1 ≤ (s.stream i).z → (s.stream i).z ≤ (s.stream i).c → ((s.stream i).N - d.startQ).toNat < d.setup.S →
        let offsets := (List.range d.setup.S).filter fun n =>
          decide (((s.stream i).N - d.startQ).toNat ≤ n ∧
            (n - ((s.stream i).N - d.startQ).toNat) % (s.stream i).c = 0)
        let placed := offsets.filter fun n => decide (n + (s.stream i).z ≤ d.setup.S)
        d'.turns = (placed.map fun n =>
          { kind := .cadence, tag := k, slot := sl.val, start := n, len := (s.stream i).z, slots := 0, floor := false }) ∧
        d'.slips = d.slips + (offsets.length - placed.length) ∧
        (r.stream i).slips = min ((s.stream i).slips + (offsets.length - placed.length)) 65535)

/-- Stages A2, A3, B and D act on the draft alone. In an empty span A2 puts the candidates' turns of Ua quanta one behind another
while they fit; A3 places Wo quanta by first fit when the span index is a multiple of Ao above 0; B places the floor of T slots by
first fit, or splits it over the free runs in order of place, from each as many whole slots as it holds and are still wanted; D
merges each free run into the floor window that ends where it begins, or else places a window of its whole slots at its start, to no
more than 1,024 slots and 240 turns. -/
def Obligations.ReservationAndClaimStages : Prop :=
  ∀ (s : State) (d : Draft), s.resetPin = false → s.builder.draft = some d →
    turnsShaped d.setup.S d.setup.b d.turns → (∀ t ∈ d.turns, t.floor = true → t.kind = .claim) → 1 ≤ d.setup.b →
    (d.stage = .alignment → ∃ d' : Draft, exec .stageA2AlignmentTurns s = .next (s.setDraft (some d')) ∧
      d' = { d with turns := d'.turns, stage := .openWindow } ∧
      (d.turns = [] → 1 ≤ d.setup.Ua →
        d'.turns = ((d.candidates.zipIdx.filter fun c => decide ((c.2 + 1) * d.setup.Ua ≤ d.setup.S ∧ c.2 < 240)).map fun c =>
          { kind := .align, tag := c.1, slot := 0, start := c.2 * d.setup.Ua, len := d.setup.Ua, slots := 0,
            floor := false })) ∧
      (∀ t ∈ d.turns, t ∈ d'.turns) ∧
      (∀ t ∈ d'.turns, t ∉ d.turns → t.kind = .align ∧ t.len = d.setup.Ua ∧ t.tag ∈ d.candidates)) ∧
    (d.stage = .openWindow → 1 ≤ d.setup.Wo →
      ∃ d' : Draft, exec .stageA3OpenWindow s = .next (s.setDraft (some d')) ∧ d'.stage = .floor ∧
      (∀ p, 0 < d.setup.Ao → d.index.toNat % d.setup.Ao = 0 → d.turns.length < 240 →
        firstFit d.setup.S d.turns d.setup.Wo = some p → d'.openWindow = true ∧
        ∀ t, t ∈ d'.turns ↔ t ∈ d.turns ∨
          t = { kind := .opening, tag := 0, slot := 0, start := p, len := d.setup.Wo, slots := 0, floor := false }) ∧
      (d.setup.Ao = 0 ∨ d.index.toNat % d.setup.Ao ≠ 0 ∨ 240 ≤ d.turns.length ∨
        firstFit d.setup.S d.turns d.setup.Wo = none → d' = { d with stage := .floor })) ∧
    (d.stage = .floor → 1 ≤ d.target →
      ∃ d' : Draft, exec .stageBClaimFloor s = .next (s.setDraft (some d')) ∧
      (d'.stage = .visits ∨ d'.stage = .leftover) ∧
      (∀ p, d.turns.length < 240 → firstFit d.setup.S d.turns (d.target * d.setup.b) = some p →
        ∀ t, t ∈ d'.turns ↔ t ∈ d.turns ∨
          t = { kind := .claim, tag := 0, slot := 0, start := p, len := d.target * d.setup.b, slots := d.target,
                floor := true }) ∧
      (firstFit d.setup.S d.turns (d.target * d.setup.b) = none →
        d.turns.length + (freeRuns d.setup.S d.turns).length ≤ 240 →
        slotsOffered d'.turns = slotsOffered d.turns +
          min d.target ((freeRuns d.setup.S d.turns).map fun run => run.2 / d.setup.b).sum ∧
        ∀ t, t ∈ d'.turns ↔ t ∈ d.turns ∨ ∃ (j p r n : Nat), (freeRuns d.setup.S d.turns)[j]? = some (p, r) ∧
          n = min (r / d.setup.b)
            (d.target - (((freeRuns d.setup.S d.turns).take j).map fun run => run.2 / d.setup.b).sum) ∧
          0 < n ∧ t =
            { kind := .claim, tag := 0, slot := 0, start := p, len := n * d.setup.b, slots := n, floor := true })) ∧
    (d.stage = .leftover → slotsOffered d.turns ≤ 1024 →
      ∃ d' : Draft, exec .stageDLeftoverClaims s = .next (s.setDraft (some d')) ∧ d'.stage = .notices ∧
      slotsOffered d'.turns ≤ 1024 ∧ (∀ t ∈ d.turns, t.floor = false → t ∈ d'.turns) ∧
      ((∀ run ∈ freeRuns d.setup.S d'.turns, run.2 < d.setup.b) ∨ slotsOffered d'.turns = 1024 ∨
        240 ≤ d'.turns.length) ∧
      (d.turns.length + (freeRuns d.setup.S d.turns).length ≤ 240 →
        slotsOffered d'.turns =
          min 1024 (slotsOffered d.turns + ((freeRuns d.setup.S d.turns).map fun run => run.2 / d.setup.b).sum) ∧
        (slotsOffered d.turns + ((freeRuns d.setup.S d.turns).map fun run => run.2 / d.setup.b).sum ≤ 1024 →
          ∀ t, t ∈ d'.turns ↔
            (t ∈ d.turns ∧ ¬(t.floor = true ∧ ∃ r, (t.stop, r) ∈ freeRuns d.setup.S d.turns)) ∨
            (∃ (u : Turn) (r : Nat), u ∈ d.turns ∧ u.floor = true ∧ (u.stop, r) ∈ freeRuns d.setup.S d.turns ∧
              t = { u with len := u.len + r / d.setup.b * d.setup.b, slots := u.slots + r / d.setup.b }) ∨
            ∃ p r : Nat, (p, r) ∈ freeRuns d.setup.S d.turns ∧ d.setup.b ≤ r ∧
              (∀ u ∈ d.turns, u.floor = true → u.stop ≠ p) ∧
              t = { kind := .claim, tag := 0, slot := 0, start := p, len := r / d.setup.b * d.setup.b, slots := r / d.setup.b,
                    floor := false })))

/-- A visit of stage C to a stream that has stood on its list since build begin and is IN_USE and BIDDING with an ACTIVE owner:
credit w × u is added, x is the least of A, the credit and the max turn's bytes; a stream with x above 0 has a DATA turn of P +
ceil(x / bpq) quanta by first fit, or the largest run if it may be fragmented; G rises and the credit falls by the cover; with A
at 0 it leaves every list with credit 0, else it moves to the tail, as a stream not served does. Any other stream, and one whose
check or whose owner's check fails at the visit, is passed over, and the stage ends with its visits, for want of P + 1 free
quanta, or at 240 turns. (The note of the streams that joined after build begin is the model's: log entry 16.) -/
def Obligations.VisitServesByCredit : Prop :=
  ∀ (s : State) (d : Draft), s.resetPin = false → s.tablesCanonical → s.builder.draft = some d → d.stage = .visits →
    (d.visits = [] ∨ 240 ≤ d.turns.length ∨ (∀ run ∈ freeRuns d.setup.S d.turns, run.2 < d.setup.P + 1) →
      exec .stageCVisit s = .next (s.setDraft (some { d with stage := .leftover }))) ∧
    (∀ (k : Fin 4) (i : Nat) (rest : List (Fin 4 × Nat)), d.visits = (k, i) :: rest → (s.stream i).checks = false →
      i ∉ d.readStreams →
      ∃ (r : State) (d' : Draft), exec .stageCVisit s = .next r ∧ r.builder.draft = some d' ∧ d'.turns = d.turns ∧
        d'.data = d.data ∧ (d.turns.length < 240 → (∃ run ∈ freeRuns d.setup.S d.turns, d.setup.P + 1 ≤ run.2) →
          d'.visits = rest ∧ ∀ l : LaneId, r.onLane l i = false)) ∧
    (∀ (k : Fin 4) (i tag : Nat) (sl : Fin 8) (rest : List (Fin 4 × Nat)), d.visits = (k, i) :: rest →
      (s.stream i).checks = true → (s.stream i).owner = some (tag, sl) → (s.station tag).checks = false → tag ∉ d.readStations →
      ∃ (r : State) (d' : Draft), exec .stageCVisit s = .next r ∧ r.builder.draft = some d' ∧ d'.turns = d.turns ∧
        d'.data = d.data ∧ (d.turns.length < 240 → (∃ run ∈ freeRuns d.setup.S d.turns, d.setup.P + 1 ≤ run.2) →
          d'.visits = rest)) ∧
    (∀ (k : Fin 4) (i tag : Nat) (sl : Fin 8) (rest : List (Fin 4 × Nat)) (e : StreamEntry) (A : Nat) (credit x : Int),
      d.visits = (k, i) :: rest → d.turns.length < 240 →
      (∃ run ∈ freeRuns d.setup.S d.turns, d.setup.P + 1 ≤ run.2) → e = s.stream i → e.checks = true →
      e.owner = some (tag, sl) → (s.station tag).checks = true → 1 ≤ d.setup.bpq → d.setup.P ≤ 8 → A = e.D - e.G →
      credit = min (e.credit + ((e.weight * d.creditUnit : Nat) : Int)) 1048575 →
      x = min (A : Int) (min credit
        (((max (d.setup.P + 1) (min e.maxTurn 255) - d.setup.P) * d.setup.bpq : Nat) : Int)) →
      ∃ (r : State) (d' : Draft), exec .stageCVisit s = .next r ∧ r.builder.draft = some d' ∧ d'.visits = rest ∧
        r.stations = s.stations ∧ r.lanes = s.lanes ∧ r.port = s.port ∧ r.refs = s.refs ∧ r.link = s.link ∧
        (∀ j, j ≠ i → r.stream j = s.stream j) ∧
        (i ∉ s.list d.lane k ∨ i ∈ s.joinedOf d.lane ∨ e.state ≠ .inUse ∨ e.kind ≠ .bidding ∨
            (s.station tag).state ≠ .active →
          r.streams = s.streams ∧ d'.turns = d.turns ∧ d'.data = d.data) ∧
        (i ∈ s.list d.lane k → i ∉ s.joinedOf d.lane → e.state = .inUse → e.kind = .bidding → (s.station tag).state = .active →
          let skipped := r.stream i = { e with credit := credit }.seal ∧ d'.turns = d.turns ∧ d'.data = d.data ∧
            r.list d.lane k = (s.list d.lane k).filter (fun j => j ≠ i) ++ [i]
          let served := fun (p g : Nat) =>
            ∃ cover, cover = min A ((g - d.setup.P) * d.setup.bpq) ∧ d'.data = d.data ++ [⟨i, cover⟩] ∧
              (∀ t, t ∈ d'.turns ↔ t ∈ d.turns ∨
                t = { kind := .data, tag := tag, slot := sl.val, start := p, len := g, slots := 0, floor := false }) ∧
              (cover < A → r.stream i = { e with G := e.G + cover, credit := credit - cover }.seal ∧
                r.list d.lane k = (s.list d.lane k).filter (fun j => j ≠ i) ++ [i]) ∧
              (cover = A → r.stream i = { e with G := e.G + cover, credit := 0 }.seal ∧
                ∀ (l : LaneId) (c : Fin 4), i ∉ r.list l c)
          (x ≤ 0 → skipped) ∧
          (∀ g, 0 < x → g = d.setup.P + (x.toNat + d.setup.bpq - 1) / d.setup.bpq →
            (∀ p, firstFit d.setup.S d.turns g = some p → served p g) ∧
            (firstFit d.setup.S d.turns g = none → e.fragmentable = false → skipped) ∧
            (firstFit d.setup.S d.turns g = none → e.fragmentable = true →
              ∀ p m, largestRun d.setup.S d.turns = (p, m) → d.setup.P + 1 ≤ m → served p m))))

/-- The PENDING selection, where every stream passes its check: of the streams on the lane's lists without a DATA turn in the
draft, those with the relist flag come first, in index order, then the others in list order from class 3 down; the first 48 that are
IN_USE and BIDDING are chosen, each with its owner's tag and slot, and only the draft changes. -/
def Obligations.PendingSelectionChoosesUpTo48 : Prop :=
  ∀ (s : State) (d : Draft) (q : List Nat), s.resetPin = false → s.builder.draft = some d → d.stage = .notices →
    d.pendings = [] → (∀ i, (s.stream i).checks = true) →
    q = (([3, 2, 1, 0] : List (Fin 4)).flatMap fun k => s.list d.lane k).filter (fun i => !(d.data.any fun t => t.stream == i)) →
    ∃ d' : Draft, exec .pendingSelection s = .next (s.setDraft (some d')) ∧ d'.stage = .complete ∧
      d'.pendings.map (·.stream) =
        ((sortNat (q.filter fun i => (s.stream i).relist) ++ q.filter (fun i => !(s.stream i).relist)).filter fun i =>
          decide ((s.stream i).state = .inUse ∧ (s.stream i).kind = .bidding)).take 48 ∧
      (∀ c ∈ d'.pendings, ∀ t sl, (s.stream c.stream).owner = some (t, sl) → c.tag = t ∧ c.slot = sl.val) ∧
      (∀ c ∈ d'.pendings, c.stream ∈ d'.namedStreams ∧ c.tag ∈ d'.namedStations) ∧
      d'.turns = d.turns ∧ d'.data = d.data ∧ d'.notices = d.notices

/-- Build completion. On a LIVE lane the plan joins the tail of the output queue, its expired mark set if its margin is below Df;
each station and stream it names has its count raised by one, the notices taken are marked with its sequence, and the stations
given ALIGN turns have their mark set to it. On any other lane, where every entry passes its check, the plan is discarded: no
queue or count changes, no lane counter rises and nothing is reported, the planned bytes are given back with their streams on
their lists again, and a DRAINING lane with nothing queued reaches IDLE, which LANE_STOPPED reports. (Which notices the build has
taken is the model's note Notice.taken: log entry 16.) -/
def Obligations.CompletionQueuesOrDiscards : Prop :=
  ∀ (s : State) (d : Draft), s.resetPin = false → s.tablesCanonical → s.builder.draft = some d → d.stage = .complete →
    ((s.lane d.lane).state = .live →
      ∃ (r : State) (p : Plan), exec .buildCompletion s = .next r ∧
        r.builder = { s.builder with draft := none } ∧ r.link = { s.link with queue := s.link.queue ++ [p] } ∧
        p.record.lane = d.lane ∧ p.record.seq = BitVec.ofNat 16 d.index.toNat ∧ p.record.start = d.start ∧
        p.record.startQ = d.startQ ∧ p.record.S = d.setup.S ∧ p.record.Lq = d.setup.Lq ∧ p.record.b = d.setup.b ∧
        p.record.ack = d.ack ∧ p.record.bs = d.bs ∧ p.record.be = d.be ∧ p.record.turns = d.turns ∧ p.data = d.data ∧
        p.record.notices = d.notices.map .queued ++ d.pendings.map (fun c => .pending c.tag c.slot) ∧
        p.cadence = d.cadence ∧ p.openWindow = d.openWindow ∧ p.slips = d.slips ∧
        p.expired = decide ((d.start - s.now).toInt < d.setup.Df) ∧
        (∀ t, t ∈ p.stations ↔ (∃ x ∈ d.turns, x.kind ∈ [TurnKind.data, .cadence, .align] ∧ x.tag = t) ∨
          (∃ b ∈ d.notices, b.tag = t) ∨ ∃ c ∈ d.pendings, c.tag = t) ∧
        (∀ i, i ∈ p.streams ↔ (∃ x ∈ d.data, x.stream = i) ∨ i ∈ d.cadence ∨ ∃ c ∈ d.pendings, c.stream = i) ∧
        (∀ t, r.stationRefs t = s.stationRefs t + (if t ∈ p.stations then 1 else 0)) ∧
        (∀ i, r.streamRefs i = s.streamRefs i + (if i ∈ p.streams then 1 else 0)) ∧
        r.port = s.port ∧ r.claims = s.claims ∧
        ((∀ t ∈ d.namedStations, (s.station t).state ≠ .releasing) →
          (∀ i ∈ d.namedStreams, (s.stream i).state ≠ .retiring) →
          r.streams = s.streams ∧
          (r.lane d.lane).notices = ((s.lane d.lane).notices.map fun n =>
            if n.taken then { n with mark := some p.record.seq, taken := false } else n) ∧
          ∀ t, r.station t =
            if ∃ x ∈ d.turns, x.kind = .align ∧ x.tag = t then
              { s.station t with outstanding := some (d.lane, p.record.seq) }.seal
            else s.station t)) ∧
    ((s.lane d.lane).state ≠ .live → (∀ t, (s.station t).checks = true) → (∀ i, (s.stream i).checks = true) →
      ∃ r : State, exec .buildCompletion s = .next r ∧ r.builder = { s.builder with draft := none } ∧ r.link = s.link ∧
        r.claims = s.claims ∧ r.ports = s.ports ∧
        (r.lane d.lane).counters = (s.lane d.lane).counters ∧ (r.lane d.lane).drops = (s.lane d.lane).drops ∧
        ((s.lane d.lane).state = .draining → s.queuedOf d.lane = 0 →
          (r.lane d.lane).state = .idle ∧ (r.lane d.lane).history = [] ∧ (r.lane d.lane).notices = [] ∧
          (s.port.reports.length < 64 → r.port.reports = s.port.reports ++ [⟨s.now, .laneStopped d.lane⟩])) ∧
        ((s.lane d.lane).state ≠ .draining ∨ 0 < s.queuedOf d.lane →
          r.refs = s.refs ∧ (r.lane d.lane).state = (s.lane d.lane).state ∧
          (r.lane d.lane).history = (s.lane d.lane).history ∧ r.port = s.port) ∧
        ((d.data.map (·.stream)).Nodup → ∀ x ∈ d.data, (s.stream x.stream).D ≤ (s.stream x.stream).G →
          (s.stream x.stream).G - x.cover < (s.stream x.stream).D → (s.stream x.stream).state = .inUse →
          (s.stream x.stream).kind = .bidding → s.ownerIs (s.stream x.stream) .active = true →
          ∀ l : LaneId, inSet (s.stream x.stream).laneSet l = true → x.stream ∈ r.list l (s.stream x.stream).cls) ∧
        ((d.data.map (·.stream)).Nodup → ∀ x ∈ d.data, (s.stream x.stream).state = .inUse →
          (r.stream x.stream).G = (s.stream x.stream).G - x.cover ∧
          (r.stream x.stream).D = (s.stream x.stream).D))

/-! ### The Plan Link -/

/-- The framer's ready input sets its level and nothing else (that it does so under an asserted reset pin is the model's: log
entry 1); the transmit end makes the transmitter IDLE; and at span start − Df + 1 a queued plan's expired mark is set. -/
def Obligations.PlanLinkEventsChangeTheLinkAlone : Prop :=
  ∀ s : State,
    (∀ b : Bool, exec (.framerReady b) s = .next { s with ready := b }) ∧
    (s.resetPin = false → exec .transmitEnd s = .next { s with link := { s.link with sending := none } }) ∧
    (∀ (l : LaneId) (q : PlanSeq) (u : LaneSetup), s.resetPin = false → (s.lane l).setup = some u →
      exec (.planExpiry l q) s = .next { s with link := { s.link with
        queue := s.link.queue.map fun p =>
          if p.record.lane = l ∧ p.record.seq = q ∧ s.now = p.record.start - BitVec.ofNat 32 u.Df + 1 then
            { p with expired := true }
          else p } })

/-- Transmit start takes the head plan. Unexpired and with a margin of Df or more it is committed: D and G of its DATA streams
fall by the covers, its notices leave, its history entry joins, the covered-until time is its span end, the drop count is 0, and
below Wm the lane is late. A fifth entry evicts the oldest: its references fall, each unresolved turn is a no-show whose mark is
cleared, and a tally that has not arrived for slots offered is missing. Otherwise the plan is dropped: G alone is given back,
cadenced turns are slips, its notices stay in the queue unmarked, its stations' marks are cleared, the counts fall, the drop
counts rise, and DROPPED gives the margin, with SLIPPED behind it for placement slips and lost turns. All for a LIVE lane where
every entry passes its check; the drop for a count that stays below Dl. (What a history entry names is log entry 15, and the
streams of a plan's PENDING notices are log entry 16.) -/
def Obligations.TransmitStartCommitsOrDrops : Prop :=
  ∀ (s : State) (p : Plan) (rest : List Plan) (l : LaneId) (u : LaneSetup) (M : Int), s.resetPin = false →
    s.tablesCanonical → s.ready = true → s.link = { queue := p :: rest, sending := none } → p.record.lane = l →
    (s.lane l).state = .live → (s.lane l).setup = some u → M = (p.record.start - s.now).toInt →
    (∀ t, (s.station t).checks = true) → (∀ i, (s.stream i).checks = true) → (p.data.map (·.stream)).Nodup →
    let entry : HistEntry :=
      { seq := p.record.seq, startQ := p.record.startQ, start := p.record.start
        slots := ((p.record.turns.filter fun t => t.kind = .claim).map (·.slots)).sum
        tallyArrived := false, turns := (p.record.turns.filter fun t => t.kind = .align).map fun t => ⟨t.tag, false⟩
        openWindow := p.openWindow, joins := 0, stations := p.stations, streams := p.streams }
    let counted := { (s.lane l).counters with transmitted := min ((s.lane l).counters.transmitted + 1) 4294967295 }
    (p.expired = false → (u.Df : Int) ≤ M → (s.lane l).history.length < 4 → ∃ r : State,
      exec .transmitStart s = .next r ∧ r.link = { queue := rest, sending := some p.record } ∧
      r.lane l = { s.lane l with
        history := (s.lane l).history ++ [entry]
        notices := (s.lane l).notices.filter fun n => n.mark != some p.record.seq
        coveredUntil := some (p.record.start + BitVec.ofNat 32 (p.record.S * p.record.Lq))
        drops := 0
        late := decide (M < u.Wm)
        counters := counted } ∧
      (∀ m : LaneId, m ≠ l → r.lane m = s.lane m) ∧ r.refs = s.refs ∧ r.builder = s.builder ∧ r.claims = s.claims ∧
      (∀ x ∈ p.data, (r.stream x.stream).D = (s.stream x.stream).D - x.cover ∧
        (r.stream x.stream).G = (s.stream x.stream).G - x.cover ∧ (r.stream x.stream).relist = false ∧
        (r.stream x.stream).credit = (s.stream x.stream).credit) ∧
      (∀ i ∈ p.pendings, (r.stream i).relist = false) ∧
      (∀ i, i ∉ p.data.map (·.stream) → i ∉ p.pendings → r.stream i = s.stream i) ∧
      r.streams.service = s.streams.service ∧
      (∀ n ∈ (s.lane l).notices, n.mark = some p.record.seq → n.body.isCorrection = true →
        (r.station n.body.tag).verdictWaiting = false) ∧
      ((u.Wm : Int) ≤ M ∨ (s.lane l).late = true → p.slips = 0 → r.port = s.port) ∧
      (M < u.Wm → (s.lane l).late = false → p.slips = 0 → s.port.reports.length < 64 →
        r.port.reports = s.port.reports ++ [⟨s.now, .late l p.record.seq M⟩]) ∧
      (0 < p.slips → (u.Wm : Int) ≤ M → s.port.reports.length < 64 →
        r.port.reports = s.port.reports ++ [⟨s.now, .slipped l p.record.seq p.slips p.lowestSlip⟩])) ∧
    (∀ (h : HistEntry) (tail : List HistEntry), p.expired = false → (u.Df : Int) ≤ M → (s.lane l).history = h :: tail →
      4 ≤ (s.lane l).history.length → ∃ r : State,
      exec .transmitStart s = .next r ∧ r.link = { queue := rest, sending := some p.record } ∧
      (r.lane l).history = tail ++ [entry] ∧ (r.lane l).drops = 0 ∧ (r.lane l).counters = counted ∧
      (r.lane l).coveredUntil = some (p.record.start + BitVec.ofNat 32 (p.record.S * p.record.Lq)) ∧ r.builder = s.builder ∧
      (∀ m : LaneId, m ≠ l → r.claim m = s.claim m) ∧
      (h.stations.Nodup → ∀ t, r.stationRefs t = s.stationRefs t - (if t ∈ h.stations then 1 else 0)) ∧
      (h.streams.Nodup → ∀ i, r.streamRefs i = s.streamRefs i - (if i ∈ h.streams then 1 else 0)) ∧
      ((h.turns.map (·.tag)).Nodup → ∀ t, ⟨t, false⟩ ∈ h.turns → (s.station t).state.kept = true →
        let e := s.station t
        let aMax := s.align.settings.aMax
        (e.outstanding = some (l, h.seq) → (r.station t).outstanding = none) ∧
        (e.paused = true → (r.station t).state = e.state ∧ (r.station t).attempts = e.attempts ∧
          (r.station t).misses = e.misses) ∧
        (e.paused = false → e.state ∈ [StationState.ready, .active, .held] →
          (e.misses + 1 < aMax → (r.station t).state = e.state ∧ (r.station t).misses = e.misses + 1 ∧
            (r.station t).attempts = e.attempts) ∧
          (aMax ≤ e.misses + 1 → (r.station t).state = .lapsed ∧ (r.station t).attempts = 0 ∧ (r.station t).misses = 0 ∧
            t ∈ r.align.dueQueue)) ∧
        (e.paused = false → e.state = .aligning ∨ e.state = .lapsed →
          (e.attempts + 1 < aMax → (r.station t).state = e.state ∧ (r.station t).attempts = e.attempts + 1 ∧
            (r.station t).due = s.now ∧ t ∈ r.align.dueQueue) ∧
          (aMax ≤ e.attempts + 1 → (r.station t).state = .releasing ∨ (r.station t).state = .free))) ∧
      (h.slots = 0 ∨ h.tallyArrived = true → r.claim l = s.claim l) ∧
      (0 < h.slots → h.tallyArrived = false →
        let c := s.claim l
        let n := min (c.missing + 1) c.settings.K
        (c.mode = .opening ∨ n < c.settings.K → r.claim l = { c with missing := n }) ∧
        (c.mode = .tracking → c.settings.K ≤ n →
          r.claim l = { c with mode := .opening, target := some c.settings.cOpen, missing := n } ∧
          (h.turns = [] → s.port.reports.length < 62 →
            ⟨s.now, .claimMode l .opening c.settings.cOpen .missing⟩ ∈ r.port.reports)))) ∧
    (p.expired = true ∨ M < u.Df → min ((s.lane l).drops + 1) 15 < u.Dl → ∃ r : State,
      exec .transmitStart s = .next r ∧ r.link = { queue := rest, sending := none } ∧
      (r.lane l).drops = min ((s.lane l).drops + 1) 15 ∧ (r.lane l).state = .live ∧ (r.lane l).late = (s.lane l).late ∧
      (r.lane l).counters = { (s.lane l).counters with
        dropped := min ((s.lane l).counters.dropped + 1) 4294967295
        slips := (r.lane l).counters.slips } ∧
      ((s.lane l).counters.slips ≤ 4294967295 →
        (r.lane l).counters.slips = min ((s.lane l).counters.slips + p.cadence.length) 4294967295) ∧
      (r.lane l).coveredUntil = (s.lane l).coveredUntil ∧ (r.lane l).history = (s.lane l).history ∧
      r.builder = s.builder ∧ r.claims = s.claims ∧
      (∀ x ∈ p.data, (s.stream x.stream).state = .inUse → (r.stream x.stream).D = (s.stream x.stream).D ∧
        (r.stream x.stream).G = (s.stream x.stream).G - x.cover) ∧
      (∀ i ∈ p.cadence, (s.stream i).state = .inUse →
        (r.stream i).slips = min ((s.stream i).slips + p.cadence.count i) 65535) ∧
      (∀ n ∈ (r.lane l).notices, n.mark ≠ some p.record.seq) ∧
      ((∀ t ∈ p.stations, (s.station t).state ≠ .releasing) →
        (r.lane l).notices = (s.lane l).notices.map (fun n => if n.mark = some p.record.seq then { n with mark := none } else n) ∧
        (∀ m : LaneId, m ≠ l → r.lane m = s.lane m) ∧
        ∀ t, r.station t =
          if (∃ x ∈ p.record.turns, x.kind = .align ∧ x.tag = t) ∧ (s.station t).outstanding = some (l, p.record.seq) then
            { s.station t with outstanding := none }.seal
          else s.station t) ∧
      (p.stations.Nodup → ∀ t, r.stationRefs t = s.stationRefs t - (if t ∈ p.stations then 1 else 0)) ∧
      (p.streams.Nodup → ∀ i, r.streamRefs i = s.streamRefs i - (if i ∈ p.streams then 1 else 0)) ∧
      (s.port.reports.length < 63 → r.port.reports = s.port.reports ++
        ⟨s.now, .dropped l p.record.seq .margin M (min ((s.lane l).drops + 1) 15)⟩ ::
          (if 0 < p.slips + p.cadence.length then
            [⟨s.now, .slipped l p.record.seq (p.slips + p.cadence.length) (p.lowestSlip.toList ++ p.cadence).min?⟩]
          else [])))

/-! ### What every step keeps -/

/-- The state after reset meets the invariants that the statements below say every step keeps (the canonical forms
are the model's own: log entries 17 and 20). -/
def Obligations.ResetMeetsTheInvariants : Prop :=
  State.reset.gateSound ∧ State.reset.queuesBounded ∧ State.reset.partFollowsLanes ∧ State.reset.tablesCanonical ∧
    State.reset.testWordsCanonical ∧ State.reset.demandSound ∧ State.reset.claimsSound ∧ State.reset.plansShaped

/-- Every step keeps the Control Port's invariants: the gate is OPEN only with both queues empty, it holds an expiry exactly while
HOLDOFF, at most 8 replies and 64 reports wait, and the overrun mark stands exactly while lost reports are counted. -/
def Obligations.EveryStepKeepsTheControlPort : Prop :=
  ∀ s t : State, step s = .next t → (s.gateSound → t.gateSound) ∧ (s.queuesBounded → t.queuesBounded)

/-- Every step keeps CONFIG and RUNNING in step with the lane states, with every lane IDLE in STARTING and TESTING. -/
def Obligations.EveryStepKeepsThePartState : Prop :=
  ∀ s t : State, s.partFollowsLanes → step s = .next t → t.partFollowsLanes

/-- Every step keeps the tables, and the words of a memory test, canonical and, for every stream, planned bytes within demand and
demand within its ceiling (the canonical form and the words are the model's own: log entries 17 and 20). -/
def Obligations.EveryStepKeepsPlannedBytesWithinDemand : Prop :=
  ∀ s t : State, step s = .next t →
    (s.tablesCanonical → t.tablesCanonical) ∧ (s.testWordsCanonical → t.testWordsCanonical) ∧
    (s.demandSound → t.demandSound)

/-- Every step keeps T within C_min and C_max wherever it is present, and present on every lane that is not IDLE. -/
def Obligations.EveryStepKeepsTargetsInRange : Prop :=
  ∀ s t : State, s.claimsSound → step s = .next t → t.claimsSound

/-- Every step keeps every plan in shape: the turns of the draft, of the queued plans and of the record being sent lie within the
span, share no quantum, number at most 240, and each claim window is a whole number of slots. -/
def Obligations.EveryStepKeepsTurnsApart : Prop :=
  ∀ s t : State, s.plansShaped → step s = .next t → t.plansShaped

/-! ### Frames and records on the links -/

/-- Reading the bytes written for a well-formed request, or for a well-formed record of its kind's length, gives it back with
every operand. (What the operands of a command are is the model's, log entry 22, and so is the command that carries a RESULT of
neither form, log entry 14.) -/
def Obligations.FramesReadBackAsWritten : Prop :=
  (∀ (c : Instr) (bytes : List Byte), c.wellFormed = true → requestFrame c = some bytes → requestOfFrame bytes = c) ∧
  (∀ (c : Instr) (port : LaneId) (bytes : List Byte), c.wellFormed = true → recordFrame c = some (port, bytes) →
    (∀ h, c.recordHead = some h → h.frameLen = bytes.length) → recordOfFrame port bytes = c)
end

