-- ==== Sys2Proof/Laws/State.lean ====
section
/-! SUPPORT. One lemma per field per update of the state: an update of one field leaves every other field as it was. -/

namespace Sys2Proof.Machine

variable (s : State)

/-! `setLane` writes `lanes` alone. -/
@[simp] theorem State.setLane_pending (l : LaneId) (v : Lane) : (s.setLane l v).pending = s.pending := rfl
@[simp] theorem State.setLane_resetPin (l : LaneId) (v : Lane) : (s.setLane l v).resetPin = s.resetPin := rfl
@[simp] theorem State.setLane_ready (l : LaneId) (v : Lane) : (s.setLane l v).ready = s.ready := rfl
@[simp] theorem State.setLane_now (l : LaneId) (v : Lane) : (s.setLane l v).now = s.now := rfl
@[simp] theorem State.setLane_ports (l : LaneId) (v : Lane) : (s.setLane l v).ports = s.ports := rfl
@[simp] theorem State.setLane_claims (l : LaneId) (v : Lane) : (s.setLane l v).claims = s.claims := rfl
@[simp] theorem State.setLane_stations (l : LaneId) (v : Lane) : (s.setLane l v).stations = s.stations := rfl
@[simp] theorem State.setLane_align (l : LaneId) (v : Lane) : (s.setLane l v).align = s.align := rfl
@[simp] theorem State.setLane_streams (l : LaneId) (v : Lane) : (s.setLane l v).streams = s.streams := rfl
@[simp] theorem State.setLane_refs (l : LaneId) (v : Lane) : (s.setLane l v).refs = s.refs := rfl
@[simp] theorem State.setLane_builder (l : LaneId) (v : Lane) : (s.setLane l v).builder = s.builder := rfl
@[simp] theorem State.setLane_link (l : LaneId) (v : Lane) : (s.setLane l v).link = s.link := rfl
@[simp] theorem State.setLane_integrity (l : LaneId) (v : Lane) : (s.setLane l v).integrity = s.integrity := rfl
@[simp] theorem State.setLane_port (l : LaneId) (v : Lane) : (s.setLane l v).port = s.port := rfl

/-! `modLane` writes `lanes` alone. -/
@[simp] theorem State.modLane_pending (l : LaneId) (f : Lane → Lane) : (s.modLane l f).pending = s.pending := rfl
@[simp] theorem State.modLane_resetPin (l : LaneId) (f : Lane → Lane) : (s.modLane l f).resetPin = s.resetPin := rfl
@[simp] theorem State.modLane_ready (l : LaneId) (f : Lane → Lane) : (s.modLane l f).ready = s.ready := rfl
@[simp] theorem State.modLane_now (l : LaneId) (f : Lane → Lane) : (s.modLane l f).now = s.now := rfl
@[simp] theorem State.modLane_ports (l : LaneId) (f : Lane → Lane) : (s.modLane l f).ports = s.ports := rfl
@[simp] theorem State.modLane_claims (l : LaneId) (f : Lane → Lane) : (s.modLane l f).claims = s.claims := rfl
@[simp] theorem State.modLane_stations (l : LaneId) (f : Lane → Lane) : (s.modLane l f).stations = s.stations := rfl
@[simp] theorem State.modLane_align (l : LaneId) (f : Lane → Lane) : (s.modLane l f).align = s.align := rfl
@[simp] theorem State.modLane_streams (l : LaneId) (f : Lane → Lane) : (s.modLane l f).streams = s.streams := rfl
@[simp] theorem State.modLane_refs (l : LaneId) (f : Lane → Lane) : (s.modLane l f).refs = s.refs := rfl
@[simp] theorem State.modLane_builder (l : LaneId) (f : Lane → Lane) : (s.modLane l f).builder = s.builder := rfl
@[simp] theorem State.modLane_link (l : LaneId) (f : Lane → Lane) : (s.modLane l f).link = s.link := rfl
@[simp] theorem State.modLane_integrity (l : LaneId) (f : Lane → Lane) : (s.modLane l f).integrity = s.integrity := rfl
@[simp] theorem State.modLane_port (l : LaneId) (f : Lane → Lane) : (s.modLane l f).port = s.port := rfl

/-! `mapNotices` writes `lanes` alone. -/
@[simp] theorem State.mapNotices_pending (l : LaneId) (f : Notice → Notice) : (s.mapNotices l f).pending = s.pending := rfl
@[simp] theorem State.mapNotices_resetPin (l : LaneId) (f : Notice → Notice) : (s.mapNotices l f).resetPin = s.resetPin := rfl
@[simp] theorem State.mapNotices_ready (l : LaneId) (f : Notice → Notice) : (s.mapNotices l f).ready = s.ready := rfl
@[simp] theorem State.mapNotices_now (l : LaneId) (f : Notice → Notice) : (s.mapNotices l f).now = s.now := rfl
@[simp] theorem State.mapNotices_ports (l : LaneId) (f : Notice → Notice) : (s.mapNotices l f).ports = s.ports := rfl
@[simp] theorem State.mapNotices_claims (l : LaneId) (f : Notice → Notice) : (s.mapNotices l f).claims = s.claims := rfl
@[simp] theorem State.mapNotices_stations (l : LaneId) (f : Notice → Notice) : (s.mapNotices l f).stations = s.stations := rfl
@[simp] theorem State.mapNotices_align (l : LaneId) (f : Notice → Notice) : (s.mapNotices l f).align = s.align := rfl
@[simp] theorem State.mapNotices_streams (l : LaneId) (f : Notice → Notice) : (s.mapNotices l f).streams = s.streams := rfl
@[simp] theorem State.mapNotices_refs (l : LaneId) (f : Notice → Notice) : (s.mapNotices l f).refs = s.refs := rfl
@[simp] theorem State.mapNotices_builder (l : LaneId) (f : Notice → Notice) : (s.mapNotices l f).builder = s.builder := rfl
@[simp] theorem State.mapNotices_link (l : LaneId) (f : Notice → Notice) : (s.mapNotices l f).link = s.link := rfl
@[simp] theorem State.mapNotices_integrity (l : LaneId) (f : Notice → Notice) : (s.mapNotices l f).integrity = s.integrity := rfl
@[simp] theorem State.mapNotices_port (l : LaneId) (f : Notice → Notice) : (s.mapNotices l f).port = s.port := rfl

/-! `count` writes `lanes` alone. -/
@[simp] theorem State.count_pending (l : LaneId) (f : LaneCounters → LaneCounters) : (s.count l f).pending = s.pending := rfl
@[simp] theorem State.count_resetPin (l : LaneId) (f : LaneCounters → LaneCounters) : (s.count l f).resetPin = s.resetPin := rfl
@[simp] theorem State.count_ready (l : LaneId) (f : LaneCounters → LaneCounters) : (s.count l f).ready = s.ready := rfl
@[simp] theorem State.count_now (l : LaneId) (f : LaneCounters → LaneCounters) : (s.count l f).now = s.now := rfl
@[simp] theorem State.count_ports (l : LaneId) (f : LaneCounters → LaneCounters) : (s.count l f).ports = s.ports := rfl
@[simp] theorem State.count_claims (l : LaneId) (f : LaneCounters → LaneCounters) : (s.count l f).claims = s.claims := rfl
@[simp] theorem State.count_stations (l : LaneId) (f : LaneCounters → LaneCounters) : (s.count l f).stations = s.stations := rfl
@[simp] theorem State.count_align (l : LaneId) (f : LaneCounters → LaneCounters) : (s.count l f).align = s.align := rfl
@[simp] theorem State.count_streams (l : LaneId) (f : LaneCounters → LaneCounters) : (s.count l f).streams = s.streams := rfl
@[simp] theorem State.count_refs (l : LaneId) (f : LaneCounters → LaneCounters) : (s.count l f).refs = s.refs := rfl
@[simp] theorem State.count_builder (l : LaneId) (f : LaneCounters → LaneCounters) : (s.count l f).builder = s.builder := rfl
@[simp] theorem State.count_link (l : LaneId) (f : LaneCounters → LaneCounters) : (s.count l f).link = s.link := rfl
@[simp] theorem State.count_integrity (l : LaneId) (f : LaneCounters → LaneCounters) : (s.count l f).integrity = s.integrity := rfl
@[simp] theorem State.count_port (l : LaneId) (f : LaneCounters → LaneCounters) : (s.count l f).port = s.port := rfl

/-! `pushNotice` writes `lanes` alone. -/
@[simp] theorem State.pushNotice_pending (l : LaneId) (b : NoticeBody) : (s.pushNotice l b).pending = s.pending := rfl
@[simp] theorem State.pushNotice_resetPin (l : LaneId) (b : NoticeBody) : (s.pushNotice l b).resetPin = s.resetPin := rfl
@[simp] theorem State.pushNotice_ready (l : LaneId) (b : NoticeBody) : (s.pushNotice l b).ready = s.ready := rfl
@[simp] theorem State.pushNotice_now (l : LaneId) (b : NoticeBody) : (s.pushNotice l b).now = s.now := rfl
@[simp] theorem State.pushNotice_ports (l : LaneId) (b : NoticeBody) : (s.pushNotice l b).ports = s.ports := rfl
@[simp] theorem State.pushNotice_claims (l : LaneId) (b : NoticeBody) : (s.pushNotice l b).claims = s.claims := rfl
@[simp] theorem State.pushNotice_stations (l : LaneId) (b : NoticeBody) : (s.pushNotice l b).stations = s.stations := rfl
@[simp] theorem State.pushNotice_align (l : LaneId) (b : NoticeBody) : (s.pushNotice l b).align = s.align := rfl
@[simp] theorem State.pushNotice_streams (l : LaneId) (b : NoticeBody) : (s.pushNotice l b).streams = s.streams := rfl
@[simp] theorem State.pushNotice_refs (l : LaneId) (b : NoticeBody) : (s.pushNotice l b).refs = s.refs := rfl
@[simp] theorem State.pushNotice_builder (l : LaneId) (b : NoticeBody) : (s.pushNotice l b).builder = s.builder := rfl
@[simp] theorem State.pushNotice_link (l : LaneId) (b : NoticeBody) : (s.pushNotice l b).link = s.link := rfl
@[simp] theorem State.pushNotice_integrity (l : LaneId) (b : NoticeBody) : (s.pushNotice l b).integrity = s.integrity := rfl
@[simp] theorem State.pushNotice_port (l : LaneId) (b : NoticeBody) : (s.pushNotice l b).port = s.port := rfl

/-! `setRx` writes `ports` alone. -/
@[simp] theorem State.setRx_pending (l : LaneId) (v : RxPort) : (s.setRx l v).pending = s.pending := rfl
@[simp] theorem State.setRx_resetPin (l : LaneId) (v : RxPort) : (s.setRx l v).resetPin = s.resetPin := rfl
@[simp] theorem State.setRx_ready (l : LaneId) (v : RxPort) : (s.setRx l v).ready = s.ready := rfl
@[simp] theorem State.setRx_now (l : LaneId) (v : RxPort) : (s.setRx l v).now = s.now := rfl
@[simp] theorem State.setRx_lanes (l : LaneId) (v : RxPort) : (s.setRx l v).lanes = s.lanes := rfl
@[simp] theorem State.setRx_claims (l : LaneId) (v : RxPort) : (s.setRx l v).claims = s.claims := rfl
@[simp] theorem State.setRx_stations (l : LaneId) (v : RxPort) : (s.setRx l v).stations = s.stations := rfl
@[simp] theorem State.setRx_align (l : LaneId) (v : RxPort) : (s.setRx l v).align = s.align := rfl
@[simp] theorem State.setRx_streams (l : LaneId) (v : RxPort) : (s.setRx l v).streams = s.streams := rfl
@[simp] theorem State.setRx_refs (l : LaneId) (v : RxPort) : (s.setRx l v).refs = s.refs := rfl
@[simp] theorem State.setRx_builder (l : LaneId) (v : RxPort) : (s.setRx l v).builder = s.builder := rfl
@[simp] theorem State.setRx_link (l : LaneId) (v : RxPort) : (s.setRx l v).link = s.link := rfl
@[simp] theorem State.setRx_integrity (l : LaneId) (v : RxPort) : (s.setRx l v).integrity = s.integrity := rfl
@[simp] theorem State.setRx_port (l : LaneId) (v : RxPort) : (s.setRx l v).port = s.port := rfl

/-! `modRx` writes `ports` alone. -/
@[simp] theorem State.modRx_pending (l : LaneId) (f : RxPort → RxPort) : (s.modRx l f).pending = s.pending := rfl
@[simp] theorem State.modRx_resetPin (l : LaneId) (f : RxPort → RxPort) : (s.modRx l f).resetPin = s.resetPin := rfl
@[simp] theorem State.modRx_ready (l : LaneId) (f : RxPort → RxPort) : (s.modRx l f).ready = s.ready := rfl
@[simp] theorem State.modRx_now (l : LaneId) (f : RxPort → RxPort) : (s.modRx l f).now = s.now := rfl
@[simp] theorem State.modRx_lanes (l : LaneId) (f : RxPort → RxPort) : (s.modRx l f).lanes = s.lanes := rfl
@[simp] theorem State.modRx_claims (l : LaneId) (f : RxPort → RxPort) : (s.modRx l f).claims = s.claims := rfl
@[simp] theorem State.modRx_stations (l : LaneId) (f : RxPort → RxPort) : (s.modRx l f).stations = s.stations := rfl
@[simp] theorem State.modRx_align (l : LaneId) (f : RxPort → RxPort) : (s.modRx l f).align = s.align := rfl
@[simp] theorem State.modRx_streams (l : LaneId) (f : RxPort → RxPort) : (s.modRx l f).streams = s.streams := rfl
@[simp] theorem State.modRx_refs (l : LaneId) (f : RxPort → RxPort) : (s.modRx l f).refs = s.refs := rfl
@[simp] theorem State.modRx_builder (l : LaneId) (f : RxPort → RxPort) : (s.modRx l f).builder = s.builder := rfl
@[simp] theorem State.modRx_link (l : LaneId) (f : RxPort → RxPort) : (s.modRx l f).link = s.link := rfl
@[simp] theorem State.modRx_integrity (l : LaneId) (f : RxPort → RxPort) : (s.modRx l f).integrity = s.integrity := rfl
@[simp] theorem State.modRx_port (l : LaneId) (f : RxPort → RxPort) : (s.modRx l f).port = s.port := rfl

/-! `setClaim` writes `claims` alone. -/
@[simp] theorem State.setClaim_pending (l : LaneId) (v : Claim) : (s.setClaim l v).pending = s.pending := rfl
@[simp] theorem State.setClaim_resetPin (l : LaneId) (v : Claim) : (s.setClaim l v).resetPin = s.resetPin := rfl
@[simp] theorem State.setClaim_ready (l : LaneId) (v : Claim) : (s.setClaim l v).ready = s.ready := rfl
@[simp] theorem State.setClaim_now (l : LaneId) (v : Claim) : (s.setClaim l v).now = s.now := rfl
@[simp] theorem State.setClaim_lanes (l : LaneId) (v : Claim) : (s.setClaim l v).lanes = s.lanes := rfl
@[simp] theorem State.setClaim_ports (l : LaneId) (v : Claim) : (s.setClaim l v).ports = s.ports := rfl
@[simp] theorem State.setClaim_stations (l : LaneId) (v : Claim) : (s.setClaim l v).stations = s.stations := rfl
@[simp] theorem State.setClaim_align (l : LaneId) (v : Claim) : (s.setClaim l v).align = s.align := rfl
@[simp] theorem State.setClaim_streams (l : LaneId) (v : Claim) : (s.setClaim l v).streams = s.streams := rfl
@[simp] theorem State.setClaim_refs (l : LaneId) (v : Claim) : (s.setClaim l v).refs = s.refs := rfl
@[simp] theorem State.setClaim_builder (l : LaneId) (v : Claim) : (s.setClaim l v).builder = s.builder := rfl
@[simp] theorem State.setClaim_link (l : LaneId) (v : Claim) : (s.setClaim l v).link = s.link := rfl
@[simp] theorem State.setClaim_integrity (l : LaneId) (v : Claim) : (s.setClaim l v).integrity = s.integrity := rfl
@[simp] theorem State.setClaim_port (l : LaneId) (v : Claim) : (s.setClaim l v).port = s.port := rfl

/-! `putStation` writes `stations` alone. -/
@[simp] theorem State.putStation_pending (t : Nat) (e : StationEntry) : (s.putStation t e).pending = s.pending := rfl
@[simp] theorem State.putStation_resetPin (t : Nat) (e : StationEntry) : (s.putStation t e).resetPin = s.resetPin := rfl
@[simp] theorem State.putStation_ready (t : Nat) (e : StationEntry) : (s.putStation t e).ready = s.ready := rfl
@[simp] theorem State.putStation_now (t : Nat) (e : StationEntry) : (s.putStation t e).now = s.now := rfl
@[simp] theorem State.putStation_lanes (t : Nat) (e : StationEntry) : (s.putStation t e).lanes = s.lanes := rfl
@[simp] theorem State.putStation_ports (t : Nat) (e : StationEntry) : (s.putStation t e).ports = s.ports := rfl
@[simp] theorem State.putStation_claims (t : Nat) (e : StationEntry) : (s.putStation t e).claims = s.claims := rfl
@[simp] theorem State.putStation_align (t : Nat) (e : StationEntry) : (s.putStation t e).align = s.align := rfl
@[simp] theorem State.putStation_streams (t : Nat) (e : StationEntry) : (s.putStation t e).streams = s.streams := rfl
@[simp] theorem State.putStation_refs (t : Nat) (e : StationEntry) : (s.putStation t e).refs = s.refs := rfl
@[simp] theorem State.putStation_builder (t : Nat) (e : StationEntry) : (s.putStation t e).builder = s.builder := rfl
@[simp] theorem State.putStation_link (t : Nat) (e : StationEntry) : (s.putStation t e).link = s.link := rfl
@[simp] theorem State.putStation_integrity (t : Nat) (e : StationEntry) : (s.putStation t e).integrity = s.integrity := rfl
@[simp] theorem State.putStation_port (t : Nat) (e : StationEntry) : (s.putStation t e).port = s.port := rfl

/-! `modStation` writes `stations` alone. -/
@[simp] theorem State.modStation_pending (t : Nat) (f : StationEntry → StationEntry) : (s.modStation t f).pending = s.pending := rfl
@[simp] theorem State.modStation_resetPin (t : Nat) (f : StationEntry → StationEntry) : (s.modStation t f).resetPin = s.resetPin := rfl
@[simp] theorem State.modStation_ready (t : Nat) (f : StationEntry → StationEntry) : (s.modStation t f).ready = s.ready := rfl
@[simp] theorem State.modStation_now (t : Nat) (f : StationEntry → StationEntry) : (s.modStation t f).now = s.now := rfl
@[simp] theorem State.modStation_lanes (t : Nat) (f : StationEntry → StationEntry) : (s.modStation t f).lanes = s.lanes := rfl
@[simp] theorem State.modStation_ports (t : Nat) (f : StationEntry → StationEntry) : (s.modStation t f).ports = s.ports := rfl
@[simp] theorem State.modStation_claims (t : Nat) (f : StationEntry → StationEntry) : (s.modStation t f).claims = s.claims := rfl
@[simp] theorem State.modStation_align (t : Nat) (f : StationEntry → StationEntry) : (s.modStation t f).align = s.align := rfl
@[simp] theorem State.modStation_streams (t : Nat) (f : StationEntry → StationEntry) : (s.modStation t f).streams = s.streams := rfl
@[simp] theorem State.modStation_refs (t : Nat) (f : StationEntry → StationEntry) : (s.modStation t f).refs = s.refs := rfl
@[simp] theorem State.modStation_builder (t : Nat) (f : StationEntry → StationEntry) : (s.modStation t f).builder = s.builder := rfl
@[simp] theorem State.modStation_link (t : Nat) (f : StationEntry → StationEntry) : (s.modStation t f).link = s.link := rfl
@[simp] theorem State.modStation_integrity (t : Nat) (f : StationEntry → StationEntry) : (s.modStation t f).integrity = s.integrity := rfl
@[simp] theorem State.modStation_port (t : Nat) (f : StationEntry → StationEntry) : (s.modStation t f).port = s.port := rfl

/-! `noteQuarantine` writes the note of the tags quarantined alone. -/
@[simp] theorem State.noteQuarantine_pending (t : Nat) : (s.noteQuarantine t).pending = s.pending := rfl
@[simp] theorem State.noteQuarantine_resetPin (t : Nat) : (s.noteQuarantine t).resetPin = s.resetPin := rfl
@[simp] theorem State.noteQuarantine_ready (t : Nat) : (s.noteQuarantine t).ready = s.ready := rfl
@[simp] theorem State.noteQuarantine_now (t : Nat) : (s.noteQuarantine t).now = s.now := rfl
@[simp] theorem State.noteQuarantine_lanes (t : Nat) : (s.noteQuarantine t).lanes = s.lanes := rfl
@[simp] theorem State.noteQuarantine_ports (t : Nat) : (s.noteQuarantine t).ports = s.ports := rfl
@[simp] theorem State.noteQuarantine_claims (t : Nat) : (s.noteQuarantine t).claims = s.claims := rfl
@[simp] theorem State.noteQuarantine_align (t : Nat) : (s.noteQuarantine t).align = s.align := rfl
@[simp] theorem State.noteQuarantine_streams (t : Nat) : (s.noteQuarantine t).streams = s.streams := rfl
@[simp] theorem State.noteQuarantine_refs (t : Nat) : (s.noteQuarantine t).refs = s.refs := rfl
@[simp] theorem State.noteQuarantine_builder (t : Nat) : (s.noteQuarantine t).builder = s.builder := rfl
@[simp] theorem State.noteQuarantine_link (t : Nat) : (s.noteQuarantine t).link = s.link := rfl
@[simp] theorem State.noteQuarantine_integrity (t : Nat) : (s.noteQuarantine t).integrity = s.integrity := rfl
@[simp] theorem State.noteQuarantine_port (t : Nat) : (s.noteQuarantine t).port = s.port := rfl
@[simp] theorem State.noteQuarantine_entries (t : Nat) : (s.noteQuarantine t).stations.entries = s.stations.entries := rfl
@[simp] theorem State.noteQuarantine_freeTags (t : Nat) : (s.noteQuarantine t).stations.freeTags = s.stations.freeTags := rfl
@[simp] theorem State.noteQuarantine_joinMap (t : Nat) : (s.noteQuarantine t).stations.joinMap = s.stations.joinMap := rfl
@[simp] theorem State.noteQuarantine_station (t k : Nat) : (s.noteQuarantine t).station k = s.station k := rfl

/-! `forgetQuarantine` writes the note of the tags quarantined alone. -/
@[simp] theorem State.forgetQuarantine_pending (t : Nat) : (s.forgetQuarantine t).pending = s.pending := rfl
@[simp] theorem State.forgetQuarantine_resetPin (t : Nat) : (s.forgetQuarantine t).resetPin = s.resetPin := rfl
@[simp] theorem State.forgetQuarantine_ready (t : Nat) : (s.forgetQuarantine t).ready = s.ready := rfl
@[simp] theorem State.forgetQuarantine_now (t : Nat) : (s.forgetQuarantine t).now = s.now := rfl
@[simp] theorem State.forgetQuarantine_lanes (t : Nat) : (s.forgetQuarantine t).lanes = s.lanes := rfl
@[simp] theorem State.forgetQuarantine_ports (t : Nat) : (s.forgetQuarantine t).ports = s.ports := rfl
@[simp] theorem State.forgetQuarantine_claims (t : Nat) : (s.forgetQuarantine t).claims = s.claims := rfl
@[simp] theorem State.forgetQuarantine_align (t : Nat) : (s.forgetQuarantine t).align = s.align := rfl
@[simp] theorem State.forgetQuarantine_streams (t : Nat) : (s.forgetQuarantine t).streams = s.streams := rfl
@[simp] theorem State.forgetQuarantine_refs (t : Nat) : (s.forgetQuarantine t).refs = s.refs := rfl
@[simp] theorem State.forgetQuarantine_builder (t : Nat) : (s.forgetQuarantine t).builder = s.builder := rfl
@[simp] theorem State.forgetQuarantine_link (t : Nat) : (s.forgetQuarantine t).link = s.link := rfl
@[simp] theorem State.forgetQuarantine_integrity (t : Nat) : (s.forgetQuarantine t).integrity = s.integrity := rfl
@[simp] theorem State.forgetQuarantine_port (t : Nat) : (s.forgetQuarantine t).port = s.port := rfl
@[simp] theorem State.forgetQuarantine_entries (t : Nat) : (s.forgetQuarantine t).stations.entries = s.stations.entries := rfl
@[simp] theorem State.forgetQuarantine_freeTags (t : Nat) : (s.forgetQuarantine t).stations.freeTags = s.stations.freeTags := rfl
@[simp] theorem State.forgetQuarantine_joinMap (t : Nat) : (s.forgetQuarantine t).stations.joinMap = s.stations.joinMap := rfl
@[simp] theorem State.forgetQuarantine_station (t k : Nat) : (s.forgetQuarantine t).station k = s.station k := rfl

/-! `putStream` writes `streams` alone. -/
@[simp] theorem State.putStream_pending (i : Nat) (e : StreamEntry) : (s.putStream i e).pending = s.pending := rfl
@[simp] theorem State.putStream_resetPin (i : Nat) (e : StreamEntry) : (s.putStream i e).resetPin = s.resetPin := rfl
@[simp] theorem State.putStream_ready (i : Nat) (e : StreamEntry) : (s.putStream i e).ready = s.ready := rfl
@[simp] theorem State.putStream_now (i : Nat) (e : StreamEntry) : (s.putStream i e).now = s.now := rfl
@[simp] theorem State.putStream_lanes (i : Nat) (e : StreamEntry) : (s.putStream i e).lanes = s.lanes := rfl
@[simp] theorem State.putStream_ports (i : Nat) (e : StreamEntry) : (s.putStream i e).ports = s.ports := rfl
@[simp] theorem State.putStream_claims (i : Nat) (e : StreamEntry) : (s.putStream i e).claims = s.claims := rfl
@[simp] theorem State.putStream_stations (i : Nat) (e : StreamEntry) : (s.putStream i e).stations = s.stations := rfl
@[simp] theorem State.putStream_align (i : Nat) (e : StreamEntry) : (s.putStream i e).align = s.align := rfl
@[simp] theorem State.putStream_refs (i : Nat) (e : StreamEntry) : (s.putStream i e).refs = s.refs := rfl
@[simp] theorem State.putStream_builder (i : Nat) (e : StreamEntry) : (s.putStream i e).builder = s.builder := rfl
@[simp] theorem State.putStream_link (i : Nat) (e : StreamEntry) : (s.putStream i e).link = s.link := rfl
@[simp] theorem State.putStream_integrity (i : Nat) (e : StreamEntry) : (s.putStream i e).integrity = s.integrity := rfl
@[simp] theorem State.putStream_port (i : Nat) (e : StreamEntry) : (s.putStream i e).port = s.port := rfl

/-! `modStream` writes `streams` alone. -/
@[simp] theorem State.modStream_pending (i : Nat) (f : StreamEntry → StreamEntry) : (s.modStream i f).pending = s.pending := rfl
@[simp] theorem State.modStream_resetPin (i : Nat) (f : StreamEntry → StreamEntry) : (s.modStream i f).resetPin = s.resetPin := rfl
@[simp] theorem State.modStream_ready (i : Nat) (f : StreamEntry → StreamEntry) : (s.modStream i f).ready = s.ready := rfl
@[simp] theorem State.modStream_now (i : Nat) (f : StreamEntry → StreamEntry) : (s.modStream i f).now = s.now := rfl
@[simp] theorem State.modStream_lanes (i : Nat) (f : StreamEntry → StreamEntry) : (s.modStream i f).lanes = s.lanes := rfl
@[simp] theorem State.modStream_ports (i : Nat) (f : StreamEntry → StreamEntry) : (s.modStream i f).ports = s.ports := rfl
@[simp] theorem State.modStream_claims (i : Nat) (f : StreamEntry → StreamEntry) : (s.modStream i f).claims = s.claims := rfl
@[simp] theorem State.modStream_stations (i : Nat) (f : StreamEntry → StreamEntry) : (s.modStream i f).stations = s.stations := rfl
@[simp] theorem State.modStream_align (i : Nat) (f : StreamEntry → StreamEntry) : (s.modStream i f).align = s.align := rfl
@[simp] theorem State.modStream_refs (i : Nat) (f : StreamEntry → StreamEntry) : (s.modStream i f).refs = s.refs := rfl
@[simp] theorem State.modStream_builder (i : Nat) (f : StreamEntry → StreamEntry) : (s.modStream i f).builder = s.builder := rfl
@[simp] theorem State.modStream_link (i : Nat) (f : StreamEntry → StreamEntry) : (s.modStream i f).link = s.link := rfl
@[simp] theorem State.modStream_integrity (i : Nat) (f : StreamEntry → StreamEntry) : (s.modStream i f).integrity = s.integrity := rfl
@[simp] theorem State.modStream_port (i : Nat) (f : StreamEntry → StreamEntry) : (s.modStream i f).port = s.port := rfl

/-! `setReserved` writes `streams` alone. -/
@[simp] theorem State.setReserved_pending (i : Nat) (r : Reserved) : (s.setReserved i r).pending = s.pending := rfl
@[simp] theorem State.setReserved_resetPin (i : Nat) (r : Reserved) : (s.setReserved i r).resetPin = s.resetPin := rfl
@[simp] theorem State.setReserved_ready (i : Nat) (r : Reserved) : (s.setReserved i r).ready = s.ready := rfl
@[simp] theorem State.setReserved_now (i : Nat) (r : Reserved) : (s.setReserved i r).now = s.now := rfl
@[simp] theorem State.setReserved_lanes (i : Nat) (r : Reserved) : (s.setReserved i r).lanes = s.lanes := rfl
@[simp] theorem State.setReserved_ports (i : Nat) (r : Reserved) : (s.setReserved i r).ports = s.ports := rfl
@[simp] theorem State.setReserved_claims (i : Nat) (r : Reserved) : (s.setReserved i r).claims = s.claims := rfl
@[simp] theorem State.setReserved_stations (i : Nat) (r : Reserved) : (s.setReserved i r).stations = s.stations := rfl
@[simp] theorem State.setReserved_align (i : Nat) (r : Reserved) : (s.setReserved i r).align = s.align := rfl
@[simp] theorem State.setReserved_refs (i : Nat) (r : Reserved) : (s.setReserved i r).refs = s.refs := rfl
@[simp] theorem State.setReserved_builder (i : Nat) (r : Reserved) : (s.setReserved i r).builder = s.builder := rfl
@[simp] theorem State.setReserved_link (i : Nat) (r : Reserved) : (s.setReserved i r).link = s.link := rfl
@[simp] theorem State.setReserved_integrity (i : Nat) (r : Reserved) : (s.setReserved i r).integrity = s.integrity := rfl
@[simp] theorem State.setReserved_port (i : Nat) (r : Reserved) : (s.setReserved i r).port = s.port := rfl

/-! `setShareSum` writes `streams` alone. -/
@[simp] theorem State.setShareSum_pending (l : LaneId) (n : Nat) : (s.setShareSum l n).pending = s.pending := rfl
@[simp] theorem State.setShareSum_resetPin (l : LaneId) (n : Nat) : (s.setShareSum l n).resetPin = s.resetPin := rfl
@[simp] theorem State.setShareSum_ready (l : LaneId) (n : Nat) : (s.setShareSum l n).ready = s.ready := rfl
@[simp] theorem State.setShareSum_now (l : LaneId) (n : Nat) : (s.setShareSum l n).now = s.now := rfl
@[simp] theorem State.setShareSum_lanes (l : LaneId) (n : Nat) : (s.setShareSum l n).lanes = s.lanes := rfl
@[simp] theorem State.setShareSum_ports (l : LaneId) (n : Nat) : (s.setShareSum l n).ports = s.ports := rfl
@[simp] theorem State.setShareSum_claims (l : LaneId) (n : Nat) : (s.setShareSum l n).claims = s.claims := rfl
@[simp] theorem State.setShareSum_stations (l : LaneId) (n : Nat) : (s.setShareSum l n).stations = s.stations := rfl
@[simp] theorem State.setShareSum_align (l : LaneId) (n : Nat) : (s.setShareSum l n).align = s.align := rfl
@[simp] theorem State.setShareSum_refs (l : LaneId) (n : Nat) : (s.setShareSum l n).refs = s.refs := rfl
@[simp] theorem State.setShareSum_builder (l : LaneId) (n : Nat) : (s.setShareSum l n).builder = s.builder := rfl
@[simp] theorem State.setShareSum_link (l : LaneId) (n : Nat) : (s.setShareSum l n).link = s.link := rfl
@[simp] theorem State.setShareSum_integrity (l : LaneId) (n : Nat) : (s.setShareSum l n).integrity = s.integrity := rfl
@[simp] theorem State.setShareSum_port (l : LaneId) (n : Nat) : (s.setShareSum l n).port = s.port := rfl

/-! `setList` writes `streams` alone. -/
@[simp] theorem State.setList_pending (l : LaneId) (k : Fin 4) (v : List Nat) : (s.setList l k v).pending = s.pending := rfl
@[simp] theorem State.setList_resetPin (l : LaneId) (k : Fin 4) (v : List Nat) : (s.setList l k v).resetPin = s.resetPin := rfl
@[simp] theorem State.setList_ready (l : LaneId) (k : Fin 4) (v : List Nat) : (s.setList l k v).ready = s.ready := rfl
@[simp] theorem State.setList_now (l : LaneId) (k : Fin 4) (v : List Nat) : (s.setList l k v).now = s.now := rfl
@[simp] theorem State.setList_lanes (l : LaneId) (k : Fin 4) (v : List Nat) : (s.setList l k v).lanes = s.lanes := rfl
@[simp] theorem State.setList_ports (l : LaneId) (k : Fin 4) (v : List Nat) : (s.setList l k v).ports = s.ports := rfl
@[simp] theorem State.setList_claims (l : LaneId) (k : Fin 4) (v : List Nat) : (s.setList l k v).claims = s.claims := rfl
@[simp] theorem State.setList_stations (l : LaneId) (k : Fin 4) (v : List Nat) : (s.setList l k v).stations = s.stations := rfl
@[simp] theorem State.setList_align (l : LaneId) (k : Fin 4) (v : List Nat) : (s.setList l k v).align = s.align := rfl
@[simp] theorem State.setList_refs (l : LaneId) (k : Fin 4) (v : List Nat) : (s.setList l k v).refs = s.refs := rfl
@[simp] theorem State.setList_builder (l : LaneId) (k : Fin 4) (v : List Nat) : (s.setList l k v).builder = s.builder := rfl
@[simp] theorem State.setList_link (l : LaneId) (k : Fin 4) (v : List Nat) : (s.setList l k v).link = s.link := rfl
@[simp] theorem State.setList_integrity (l : LaneId) (k : Fin 4) (v : List Nat) : (s.setList l k v).integrity = s.integrity := rfl
@[simp] theorem State.setList_port (l : LaneId) (k : Fin 4) (v : List Nat) : (s.setList l k v).port = s.port := rfl

/-! `setJoined` writes `streams` alone, and of it the note of the joins. -/
@[simp] theorem State.setJoined_pending (l : LaneId) (v : List Nat) : (s.setJoined l v).pending = s.pending := rfl
@[simp] theorem State.setJoined_resetPin (l : LaneId) (v : List Nat) : (s.setJoined l v).resetPin = s.resetPin := rfl
@[simp] theorem State.setJoined_ready (l : LaneId) (v : List Nat) : (s.setJoined l v).ready = s.ready := rfl
@[simp] theorem State.setJoined_now (l : LaneId) (v : List Nat) : (s.setJoined l v).now = s.now := rfl
@[simp] theorem State.setJoined_lanes (l : LaneId) (v : List Nat) : (s.setJoined l v).lanes = s.lanes := rfl
@[simp] theorem State.setJoined_ports (l : LaneId) (v : List Nat) : (s.setJoined l v).ports = s.ports := rfl
@[simp] theorem State.setJoined_claims (l : LaneId) (v : List Nat) : (s.setJoined l v).claims = s.claims := rfl
@[simp] theorem State.setJoined_stations (l : LaneId) (v : List Nat) : (s.setJoined l v).stations = s.stations := rfl
@[simp] theorem State.setJoined_align (l : LaneId) (v : List Nat) : (s.setJoined l v).align = s.align := rfl
@[simp] theorem State.setJoined_refs (l : LaneId) (v : List Nat) : (s.setJoined l v).refs = s.refs := rfl
@[simp] theorem State.setJoined_builder (l : LaneId) (v : List Nat) : (s.setJoined l v).builder = s.builder := rfl
@[simp] theorem State.setJoined_link (l : LaneId) (v : List Nat) : (s.setJoined l v).link = s.link := rfl
@[simp] theorem State.setJoined_integrity (l : LaneId) (v : List Nat) : (s.setJoined l v).integrity = s.integrity := rfl
@[simp] theorem State.setJoined_port (l : LaneId) (v : List Nat) : (s.setJoined l v).port = s.port := rfl
@[simp] theorem State.setJoined_streams_entries (l : LaneId) (v : List Nat) : (s.setJoined l v).streams.entries = s.streams.entries := rfl
@[simp] theorem State.setJoined_streams_reserved (l : LaneId) (v : List Nat) : (s.setJoined l v).streams.reserved = s.streams.reserved := rfl
@[simp] theorem State.setJoined_streams_shareSums (l : LaneId) (v : List Nat) : (s.setJoined l v).streams.shareSums = s.streams.shareSums := rfl
@[simp] theorem State.setJoined_streams_service (l : LaneId) (v : List Nat) : (s.setJoined l v).streams.service = s.streams.service := rfl
@[simp] theorem State.setList_streams_joined (l : LaneId) (k : Fin 4) (v : List Nat) : (s.setList l k v).streams.joined = s.streams.joined := rfl

/-! `leaveList` writes `streams` alone. -/
@[simp] theorem State.leaveList_pending (l : LaneId) (k : Fin 4) (i : Nat) : (s.leaveList l k i).pending = s.pending := rfl
@[simp] theorem State.leaveList_resetPin (l : LaneId) (k : Fin 4) (i : Nat) : (s.leaveList l k i).resetPin = s.resetPin := rfl
@[simp] theorem State.leaveList_ready (l : LaneId) (k : Fin 4) (i : Nat) : (s.leaveList l k i).ready = s.ready := rfl
@[simp] theorem State.leaveList_now (l : LaneId) (k : Fin 4) (i : Nat) : (s.leaveList l k i).now = s.now := rfl
@[simp] theorem State.leaveList_lanes (l : LaneId) (k : Fin 4) (i : Nat) : (s.leaveList l k i).lanes = s.lanes := rfl
@[simp] theorem State.leaveList_ports (l : LaneId) (k : Fin 4) (i : Nat) : (s.leaveList l k i).ports = s.ports := rfl
@[simp] theorem State.leaveList_claims (l : LaneId) (k : Fin 4) (i : Nat) : (s.leaveList l k i).claims = s.claims := rfl
@[simp] theorem State.leaveList_stations (l : LaneId) (k : Fin 4) (i : Nat) : (s.leaveList l k i).stations = s.stations := rfl
@[simp] theorem State.leaveList_align (l : LaneId) (k : Fin 4) (i : Nat) : (s.leaveList l k i).align = s.align := rfl
@[simp] theorem State.leaveList_refs (l : LaneId) (k : Fin 4) (i : Nat) : (s.leaveList l k i).refs = s.refs := rfl
@[simp] theorem State.leaveList_builder (l : LaneId) (k : Fin 4) (i : Nat) : (s.leaveList l k i).builder = s.builder := rfl
@[simp] theorem State.leaveList_link (l : LaneId) (k : Fin 4) (i : Nat) : (s.leaveList l k i).link = s.link := rfl
@[simp] theorem State.leaveList_integrity (l : LaneId) (k : Fin 4) (i : Nat) : (s.leaveList l k i).integrity = s.integrity := rfl
@[simp] theorem State.leaveList_port (l : LaneId) (k : Fin 4) (i : Nat) : (s.leaveList l k i).port = s.port := rfl

/-! `moveToTail` writes `streams` alone. -/
@[simp] theorem State.moveToTail_pending (l : LaneId) (k : Fin 4) (i : Nat) : (s.moveToTail l k i).pending = s.pending := rfl
@[simp] theorem State.moveToTail_resetPin (l : LaneId) (k : Fin 4) (i : Nat) : (s.moveToTail l k i).resetPin = s.resetPin := rfl
@[simp] theorem State.moveToTail_ready (l : LaneId) (k : Fin 4) (i : Nat) : (s.moveToTail l k i).ready = s.ready := rfl
@[simp] theorem State.moveToTail_now (l : LaneId) (k : Fin 4) (i : Nat) : (s.moveToTail l k i).now = s.now := rfl
@[simp] theorem State.moveToTail_lanes (l : LaneId) (k : Fin 4) (i : Nat) : (s.moveToTail l k i).lanes = s.lanes := rfl
@[simp] theorem State.moveToTail_ports (l : LaneId) (k : Fin 4) (i : Nat) : (s.moveToTail l k i).ports = s.ports := rfl
@[simp] theorem State.moveToTail_claims (l : LaneId) (k : Fin 4) (i : Nat) : (s.moveToTail l k i).claims = s.claims := rfl
@[simp] theorem State.moveToTail_stations (l : LaneId) (k : Fin 4) (i : Nat) : (s.moveToTail l k i).stations = s.stations := rfl
@[simp] theorem State.moveToTail_align (l : LaneId) (k : Fin 4) (i : Nat) : (s.moveToTail l k i).align = s.align := rfl
@[simp] theorem State.moveToTail_refs (l : LaneId) (k : Fin 4) (i : Nat) : (s.moveToTail l k i).refs = s.refs := rfl
@[simp] theorem State.moveToTail_builder (l : LaneId) (k : Fin 4) (i : Nat) : (s.moveToTail l k i).builder = s.builder := rfl
@[simp] theorem State.moveToTail_link (l : LaneId) (k : Fin 4) (i : Nat) : (s.moveToTail l k i).link = s.link := rfl
@[simp] theorem State.moveToTail_integrity (l : LaneId) (k : Fin 4) (i : Nat) : (s.moveToTail l k i).integrity = s.integrity := rfl
@[simp] theorem State.moveToTail_port (l : LaneId) (k : Fin 4) (i : Nat) : (s.moveToTail l k i).port = s.port := rfl

/-! `setStationRefs` writes `refs` alone. -/
@[simp] theorem State.setStationRefs_pending (t n : Nat) : (s.setStationRefs t n).pending = s.pending := rfl
@[simp] theorem State.setStationRefs_resetPin (t n : Nat) : (s.setStationRefs t n).resetPin = s.resetPin := rfl
@[simp] theorem State.setStationRefs_ready (t n : Nat) : (s.setStationRefs t n).ready = s.ready := rfl
@[simp] theorem State.setStationRefs_now (t n : Nat) : (s.setStationRefs t n).now = s.now := rfl
@[simp] theorem State.setStationRefs_lanes (t n : Nat) : (s.setStationRefs t n).lanes = s.lanes := rfl
@[simp] theorem State.setStationRefs_ports (t n : Nat) : (s.setStationRefs t n).ports = s.ports := rfl
@[simp] theorem State.setStationRefs_claims (t n : Nat) : (s.setStationRefs t n).claims = s.claims := rfl
@[simp] theorem State.setStationRefs_stations (t n : Nat) : (s.setStationRefs t n).stations = s.stations := rfl
@[simp] theorem State.setStationRefs_align (t n : Nat) : (s.setStationRefs t n).align = s.align := rfl
@[simp] theorem State.setStationRefs_streams (t n : Nat) : (s.setStationRefs t n).streams = s.streams := rfl
@[simp] theorem State.setStationRefs_builder (t n : Nat) : (s.setStationRefs t n).builder = s.builder := rfl
@[simp] theorem State.setStationRefs_link (t n : Nat) : (s.setStationRefs t n).link = s.link := rfl
@[simp] theorem State.setStationRefs_integrity (t n : Nat) : (s.setStationRefs t n).integrity = s.integrity := rfl
@[simp] theorem State.setStationRefs_port (t n : Nat) : (s.setStationRefs t n).port = s.port := rfl

/-! `setStreamRefs` writes `refs` alone. -/
@[simp] theorem State.setStreamRefs_pending (i n : Nat) : (s.setStreamRefs i n).pending = s.pending := rfl
@[simp] theorem State.setStreamRefs_resetPin (i n : Nat) : (s.setStreamRefs i n).resetPin = s.resetPin := rfl
@[simp] theorem State.setStreamRefs_ready (i n : Nat) : (s.setStreamRefs i n).ready = s.ready := rfl
@[simp] theorem State.setStreamRefs_now (i n : Nat) : (s.setStreamRefs i n).now = s.now := rfl
@[simp] theorem State.setStreamRefs_lanes (i n : Nat) : (s.setStreamRefs i n).lanes = s.lanes := rfl
@[simp] theorem State.setStreamRefs_ports (i n : Nat) : (s.setStreamRefs i n).ports = s.ports := rfl
@[simp] theorem State.setStreamRefs_claims (i n : Nat) : (s.setStreamRefs i n).claims = s.claims := rfl
@[simp] theorem State.setStreamRefs_stations (i n : Nat) : (s.setStreamRefs i n).stations = s.stations := rfl
@[simp] theorem State.setStreamRefs_align (i n : Nat) : (s.setStreamRefs i n).align = s.align := rfl
@[simp] theorem State.setStreamRefs_streams (i n : Nat) : (s.setStreamRefs i n).streams = s.streams := rfl
@[simp] theorem State.setStreamRefs_builder (i n : Nat) : (s.setStreamRefs i n).builder = s.builder := rfl
@[simp] theorem State.setStreamRefs_link (i n : Nat) : (s.setStreamRefs i n).link = s.link := rfl
@[simp] theorem State.setStreamRefs_integrity (i n : Nat) : (s.setStreamRefs i n).integrity = s.integrity := rfl
@[simp] theorem State.setStreamRefs_port (i n : Nat) : (s.setStreamRefs i n).port = s.port := rfl

/-! `setDraft` writes `builder` alone. -/
@[simp] theorem State.setDraft_pending (d : Option Draft) : (s.setDraft d).pending = s.pending := rfl
@[simp] theorem State.setDraft_resetPin (d : Option Draft) : (s.setDraft d).resetPin = s.resetPin := rfl
@[simp] theorem State.setDraft_ready (d : Option Draft) : (s.setDraft d).ready = s.ready := rfl
@[simp] theorem State.setDraft_now (d : Option Draft) : (s.setDraft d).now = s.now := rfl
@[simp] theorem State.setDraft_lanes (d : Option Draft) : (s.setDraft d).lanes = s.lanes := rfl
@[simp] theorem State.setDraft_ports (d : Option Draft) : (s.setDraft d).ports = s.ports := rfl
@[simp] theorem State.setDraft_claims (d : Option Draft) : (s.setDraft d).claims = s.claims := rfl
@[simp] theorem State.setDraft_stations (d : Option Draft) : (s.setDraft d).stations = s.stations := rfl
@[simp] theorem State.setDraft_align (d : Option Draft) : (s.setDraft d).align = s.align := rfl
@[simp] theorem State.setDraft_streams (d : Option Draft) : (s.setDraft d).streams = s.streams := rfl
@[simp] theorem State.setDraft_refs (d : Option Draft) : (s.setDraft d).refs = s.refs := rfl
@[simp] theorem State.setDraft_link (d : Option Draft) : (s.setDraft d).link = s.link := rfl
@[simp] theorem State.setDraft_integrity (d : Option Draft) : (s.setDraft d).integrity = s.integrity := rfl
@[simp] theorem State.setDraft_port (d : Option Draft) : (s.setDraft d).port = s.port := rfl

/-! `modDraft` writes `builder` alone. -/
@[simp] theorem State.modDraft_pending (f : Draft → Draft) : (s.modDraft f).pending = s.pending := rfl
@[simp] theorem State.modDraft_resetPin (f : Draft → Draft) : (s.modDraft f).resetPin = s.resetPin := rfl
@[simp] theorem State.modDraft_ready (f : Draft → Draft) : (s.modDraft f).ready = s.ready := rfl
@[simp] theorem State.modDraft_now (f : Draft → Draft) : (s.modDraft f).now = s.now := rfl
@[simp] theorem State.modDraft_lanes (f : Draft → Draft) : (s.modDraft f).lanes = s.lanes := rfl
@[simp] theorem State.modDraft_ports (f : Draft → Draft) : (s.modDraft f).ports = s.ports := rfl
@[simp] theorem State.modDraft_claims (f : Draft → Draft) : (s.modDraft f).claims = s.claims := rfl
@[simp] theorem State.modDraft_stations (f : Draft → Draft) : (s.modDraft f).stations = s.stations := rfl
@[simp] theorem State.modDraft_align (f : Draft → Draft) : (s.modDraft f).align = s.align := rfl
@[simp] theorem State.modDraft_streams (f : Draft → Draft) : (s.modDraft f).streams = s.streams := rfl
@[simp] theorem State.modDraft_refs (f : Draft → Draft) : (s.modDraft f).refs = s.refs := rfl
@[simp] theorem State.modDraft_link (f : Draft → Draft) : (s.modDraft f).link = s.link := rfl
@[simp] theorem State.modDraft_integrity (f : Draft → Draft) : (s.modDraft f).integrity = s.integrity := rfl
@[simp] theorem State.modDraft_port (f : Draft → Draft) : (s.modDraft f).port = s.port := rfl

/-! `withdraw` writes `builder` alone. -/
@[simp] theorem State.withdraw_pending (l : LaneId) : (s.withdraw l).pending = s.pending := rfl
@[simp] theorem State.withdraw_resetPin (l : LaneId) : (s.withdraw l).resetPin = s.resetPin := rfl
@[simp] theorem State.withdraw_ready (l : LaneId) : (s.withdraw l).ready = s.ready := rfl
@[simp] theorem State.withdraw_now (l : LaneId) : (s.withdraw l).now = s.now := rfl
@[simp] theorem State.withdraw_lanes (l : LaneId) : (s.withdraw l).lanes = s.lanes := rfl
@[simp] theorem State.withdraw_ports (l : LaneId) : (s.withdraw l).ports = s.ports := rfl
@[simp] theorem State.withdraw_claims (l : LaneId) : (s.withdraw l).claims = s.claims := rfl
@[simp] theorem State.withdraw_stations (l : LaneId) : (s.withdraw l).stations = s.stations := rfl
@[simp] theorem State.withdraw_align (l : LaneId) : (s.withdraw l).align = s.align := rfl
@[simp] theorem State.withdraw_streams (l : LaneId) : (s.withdraw l).streams = s.streams := rfl
@[simp] theorem State.withdraw_refs (l : LaneId) : (s.withdraw l).refs = s.refs := rfl
@[simp] theorem State.withdraw_link (l : LaneId) : (s.withdraw l).link = s.link := rfl
@[simp] theorem State.withdraw_integrity (l : LaneId) : (s.withdraw l).integrity = s.integrity := rfl
@[simp] theorem State.withdraw_port (l : LaneId) : (s.withdraw l).port = s.port := rfl

/-! `leaveDue` writes `align` alone. -/
@[simp] theorem State.leaveDue_pending (t : Nat) : (s.leaveDue t).pending = s.pending := rfl
@[simp] theorem State.leaveDue_resetPin (t : Nat) : (s.leaveDue t).resetPin = s.resetPin := rfl
@[simp] theorem State.leaveDue_ready (t : Nat) : (s.leaveDue t).ready = s.ready := rfl
@[simp] theorem State.leaveDue_now (t : Nat) : (s.leaveDue t).now = s.now := rfl
@[simp] theorem State.leaveDue_lanes (t : Nat) : (s.leaveDue t).lanes = s.lanes := rfl
@[simp] theorem State.leaveDue_ports (t : Nat) : (s.leaveDue t).ports = s.ports := rfl
@[simp] theorem State.leaveDue_claims (t : Nat) : (s.leaveDue t).claims = s.claims := rfl
@[simp] theorem State.leaveDue_stations (t : Nat) : (s.leaveDue t).stations = s.stations := rfl
@[simp] theorem State.leaveDue_streams (t : Nat) : (s.leaveDue t).streams = s.streams := rfl
@[simp] theorem State.leaveDue_refs (t : Nat) : (s.leaveDue t).refs = s.refs := rfl
@[simp] theorem State.leaveDue_builder (t : Nat) : (s.leaveDue t).builder = s.builder := rfl
@[simp] theorem State.leaveDue_link (t : Nat) : (s.leaveDue t).link = s.link := rfl
@[simp] theorem State.leaveDue_integrity (t : Nat) : (s.leaveDue t).integrity = s.integrity := rfl
@[simp] theorem State.leaveDue_port (t : Nat) : (s.leaveDue t).port = s.port := rfl

/-! `joinDue` writes `align` alone. -/
@[simp] theorem State.joinDue_pending (t : Nat) : (s.joinDue t).pending = s.pending := rfl
@[simp] theorem State.joinDue_resetPin (t : Nat) : (s.joinDue t).resetPin = s.resetPin := rfl
@[simp] theorem State.joinDue_ready (t : Nat) : (s.joinDue t).ready = s.ready := rfl
@[simp] theorem State.joinDue_now (t : Nat) : (s.joinDue t).now = s.now := rfl
@[simp] theorem State.joinDue_lanes (t : Nat) : (s.joinDue t).lanes = s.lanes := rfl
@[simp] theorem State.joinDue_ports (t : Nat) : (s.joinDue t).ports = s.ports := rfl
@[simp] theorem State.joinDue_claims (t : Nat) : (s.joinDue t).claims = s.claims := rfl
@[simp] theorem State.joinDue_stations (t : Nat) : (s.joinDue t).stations = s.stations := rfl
@[simp] theorem State.joinDue_streams (t : Nat) : (s.joinDue t).streams = s.streams := rfl
@[simp] theorem State.joinDue_refs (t : Nat) : (s.joinDue t).refs = s.refs := rfl
@[simp] theorem State.joinDue_builder (t : Nat) : (s.joinDue t).builder = s.builder := rfl
@[simp] theorem State.joinDue_link (t : Nat) : (s.joinDue t).link = s.link := rfl
@[simp] theorem State.joinDue_integrity (t : Nat) : (s.joinDue t).integrity = s.integrity := rfl
@[simp] theorem State.joinDue_port (t : Nat) : (s.joinDue t).port = s.port := rfl

/-! `setScrubPos` writes `integrity` alone. -/
@[simp] theorem State.setScrubPos_pending (p : ScrubPos) : (s.setScrubPos p).pending = s.pending := rfl
@[simp] theorem State.setScrubPos_resetPin (p : ScrubPos) : (s.setScrubPos p).resetPin = s.resetPin := rfl
@[simp] theorem State.setScrubPos_ready (p : ScrubPos) : (s.setScrubPos p).ready = s.ready := rfl
@[simp] theorem State.setScrubPos_now (p : ScrubPos) : (s.setScrubPos p).now = s.now := rfl
@[simp] theorem State.setScrubPos_lanes (p : ScrubPos) : (s.setScrubPos p).lanes = s.lanes := rfl
@[simp] theorem State.setScrubPos_ports (p : ScrubPos) : (s.setScrubPos p).ports = s.ports := rfl
@[simp] theorem State.setScrubPos_claims (p : ScrubPos) : (s.setScrubPos p).claims = s.claims := rfl
@[simp] theorem State.setScrubPos_stations (p : ScrubPos) : (s.setScrubPos p).stations = s.stations := rfl
@[simp] theorem State.setScrubPos_align (p : ScrubPos) : (s.setScrubPos p).align = s.align := rfl
@[simp] theorem State.setScrubPos_streams (p : ScrubPos) : (s.setScrubPos p).streams = s.streams := rfl
@[simp] theorem State.setScrubPos_refs (p : ScrubPos) : (s.setScrubPos p).refs = s.refs := rfl
@[simp] theorem State.setScrubPos_builder (p : ScrubPos) : (s.setScrubPos p).builder = s.builder := rfl
@[simp] theorem State.setScrubPos_link (p : ScrubPos) : (s.setScrubPos p).link = s.link := rfl
@[simp] theorem State.setScrubPos_port (p : ScrubPos) : (s.setScrubPos p).port = s.port := rfl

/-! `gateStep` writes `port` alone. -/
@[simp] theorem State.gateStep_pending : (s.gateStep).pending = s.pending := rfl
@[simp] theorem State.gateStep_resetPin : (s.gateStep).resetPin = s.resetPin := rfl
@[simp] theorem State.gateStep_ready : (s.gateStep).ready = s.ready := rfl
@[simp] theorem State.gateStep_now : (s.gateStep).now = s.now := rfl
@[simp] theorem State.gateStep_lanes : (s.gateStep).lanes = s.lanes := rfl
@[simp] theorem State.gateStep_ports : (s.gateStep).ports = s.ports := rfl
@[simp] theorem State.gateStep_claims : (s.gateStep).claims = s.claims := rfl
@[simp] theorem State.gateStep_stations : (s.gateStep).stations = s.stations := rfl
@[simp] theorem State.gateStep_align : (s.gateStep).align = s.align := rfl
@[simp] theorem State.gateStep_streams : (s.gateStep).streams = s.streams := rfl
@[simp] theorem State.gateStep_refs : (s.gateStep).refs = s.refs := rfl
@[simp] theorem State.gateStep_builder : (s.gateStep).builder = s.builder := rfl
@[simp] theorem State.gateStep_link : (s.gateStep).link = s.link := rfl
@[simp] theorem State.gateStep_integrity : (s.gateStep).integrity = s.integrity := rfl

/-! `closeFrame` writes `port` alone. -/
@[simp] theorem State.closeFrame_pending : (s.closeFrame).pending = s.pending := rfl
@[simp] theorem State.closeFrame_resetPin : (s.closeFrame).resetPin = s.resetPin := rfl
@[simp] theorem State.closeFrame_ready : (s.closeFrame).ready = s.ready := rfl
@[simp] theorem State.closeFrame_now : (s.closeFrame).now = s.now := rfl
@[simp] theorem State.closeFrame_lanes : (s.closeFrame).lanes = s.lanes := rfl
@[simp] theorem State.closeFrame_ports : (s.closeFrame).ports = s.ports := rfl
@[simp] theorem State.closeFrame_claims : (s.closeFrame).claims = s.claims := rfl
@[simp] theorem State.closeFrame_stations : (s.closeFrame).stations = s.stations := rfl
@[simp] theorem State.closeFrame_align : (s.closeFrame).align = s.align := rfl
@[simp] theorem State.closeFrame_streams : (s.closeFrame).streams = s.streams := rfl
@[simp] theorem State.closeFrame_refs : (s.closeFrame).refs = s.refs := rfl
@[simp] theorem State.closeFrame_builder : (s.closeFrame).builder = s.builder := rfl
@[simp] theorem State.closeFrame_link : (s.closeFrame).link = s.link := rfl
@[simp] theorem State.closeFrame_integrity : (s.closeFrame).integrity = s.integrity := rfl

/-! `queueReply` writes `port` alone. -/
@[simp] theorem State.queueReply_pending (k r : Byte) (o : ReqOutcome) (b : ReplyBody) : (s.queueReply k r o b).pending = s.pending := rfl
@[simp] theorem State.queueReply_resetPin (k r : Byte) (o : ReqOutcome) (b : ReplyBody) : (s.queueReply k r o b).resetPin = s.resetPin := rfl
@[simp] theorem State.queueReply_ready (k r : Byte) (o : ReqOutcome) (b : ReplyBody) : (s.queueReply k r o b).ready = s.ready := rfl
@[simp] theorem State.queueReply_now (k r : Byte) (o : ReqOutcome) (b : ReplyBody) : (s.queueReply k r o b).now = s.now := rfl
@[simp] theorem State.queueReply_lanes (k r : Byte) (o : ReqOutcome) (b : ReplyBody) : (s.queueReply k r o b).lanes = s.lanes := rfl
@[simp] theorem State.queueReply_ports (k r : Byte) (o : ReqOutcome) (b : ReplyBody) : (s.queueReply k r o b).ports = s.ports := rfl
@[simp] theorem State.queueReply_claims (k r : Byte) (o : ReqOutcome) (b : ReplyBody) : (s.queueReply k r o b).claims = s.claims := rfl
@[simp] theorem State.queueReply_stations (k r : Byte) (o : ReqOutcome) (b : ReplyBody) : (s.queueReply k r o b).stations = s.stations := rfl
@[simp] theorem State.queueReply_align (k r : Byte) (o : ReqOutcome) (b : ReplyBody) : (s.queueReply k r o b).align = s.align := rfl
@[simp] theorem State.queueReply_streams (k r : Byte) (o : ReqOutcome) (b : ReplyBody) : (s.queueReply k r o b).streams = s.streams := rfl
@[simp] theorem State.queueReply_refs (k r : Byte) (o : ReqOutcome) (b : ReplyBody) : (s.queueReply k r o b).refs = s.refs := rfl
@[simp] theorem State.queueReply_builder (k r : Byte) (o : ReqOutcome) (b : ReplyBody) : (s.queueReply k r o b).builder = s.builder := rfl
@[simp] theorem State.queueReply_link (k r : Byte) (o : ReqOutcome) (b : ReplyBody) : (s.queueReply k r o b).link = s.link := rfl
@[simp] theorem State.queueReply_integrity (k r : Byte) (o : ReqOutcome) (b : ReplyBody) : (s.queueReply k r o b).integrity = s.integrity := rfl

/-! `withPending` writes `pending` alone. -/
@[simp] theorem State.withPending_resetPin (q : List Instr) : (s.withPending q).resetPin = s.resetPin := rfl
@[simp] theorem State.withPending_ready (q : List Instr) : (s.withPending q).ready = s.ready := rfl
@[simp] theorem State.withPending_now (q : List Instr) : (s.withPending q).now = s.now := rfl
@[simp] theorem State.withPending_lanes (q : List Instr) : (s.withPending q).lanes = s.lanes := rfl
@[simp] theorem State.withPending_ports (q : List Instr) : (s.withPending q).ports = s.ports := rfl
@[simp] theorem State.withPending_claims (q : List Instr) : (s.withPending q).claims = s.claims := rfl
@[simp] theorem State.withPending_stations (q : List Instr) : (s.withPending q).stations = s.stations := rfl
@[simp] theorem State.withPending_align (q : List Instr) : (s.withPending q).align = s.align := rfl
@[simp] theorem State.withPending_streams (q : List Instr) : (s.withPending q).streams = s.streams := rfl
@[simp] theorem State.withPending_refs (q : List Instr) : (s.withPending q).refs = s.refs := rfl
@[simp] theorem State.withPending_builder (q : List Instr) : (s.withPending q).builder = s.builder := rfl
@[simp] theorem State.withPending_link (q : List Instr) : (s.withPending q).link = s.link := rfl
@[simp] theorem State.withPending_integrity (q : List Instr) : (s.withPending q).integrity = s.integrity := rfl
@[simp] theorem State.withPending_port (q : List Instr) : (s.withPending q).port = s.port := rfl

/-! The Control Port under its own updates. -/
@[simp] theorem State.gateStep_port_part : s.gateStep.port.part = s.port.part := rfl
@[simp] theorem State.closeFrame_port_part : s.closeFrame.port.part = s.port.part := rfl
@[simp] theorem State.queueReply_port_part (k r : Byte) (o : ReqOutcome) (b : ReplyBody) :
    (s.queueReply k r o b).port.part = s.port.part := rfl
@[simp] theorem State.gateStep_port_startCause : s.gateStep.port.startCause = s.port.startCause := rfl
@[simp] theorem State.closeFrame_port_startCause : s.closeFrame.port.startCause = s.port.startCause := rfl
@[simp] theorem State.queueReply_port_startCause (k r : Byte) (o : ReqOutcome) (b : ReplyBody) :
    (s.queueReply k r o b).port.startCause = s.port.startCause := rfl
@[simp] theorem State.gateStep_port_replies : s.gateStep.port.replies = s.port.replies := rfl
@[simp] theorem State.closeFrame_port_replies : s.closeFrame.port.replies = s.port.replies := rfl
@[simp] theorem State.gateStep_port_reports : s.gateStep.port.reports = s.port.reports := rfl
@[simp] theorem State.closeFrame_port_reports : s.closeFrame.port.reports = s.port.reports := rfl
@[simp] theorem State.queueReply_port_reports (k r : Byte) (o : ReqOutcome) (b : ReplyBody) :
    (s.queueReply k r o b).port.reports = s.port.reports := rfl
@[simp] theorem State.gateStep_port_overrun : s.gateStep.port.overrun = s.port.overrun := rfl
@[simp] theorem State.closeFrame_port_overrun : s.closeFrame.port.overrun = s.port.overrun := rfl
@[simp] theorem State.queueReply_port_overrun (k r : Byte) (o : ReqOutcome) (b : ReplyBody) :
    (s.queueReply k r o b).port.overrun = s.port.overrun := rfl
@[simp] theorem State.gateStep_port_lost : s.gateStep.port.lost = s.port.lost := rfl
@[simp] theorem State.closeFrame_port_lost : s.closeFrame.port.lost = s.port.lost := rfl
@[simp] theorem State.queueReply_port_lost (k r : Byte) (o : ReqOutcome) (b : ReplyBody) :
    (s.queueReply k r o b).port.lost = s.port.lost := rfl
@[simp] theorem State.closeFrame_port_gate : s.closeFrame.port.gate = s.port.gate := rfl
@[simp] theorem State.gateStep_port_holdoff : s.gateStep.port.holdoff = s.port.holdoff := rfl
@[simp] theorem State.closeFrame_port_holdoff : s.closeFrame.port.holdoff = s.port.holdoff := rfl
@[simp] theorem State.queueReply_port_holdoff (k r : Byte) (o : ReqOutcome) (b : ReplyBody) :
    (s.queueReply k r o b).port.holdoff = s.port.holdoff := rfl
@[simp] theorem State.gateStep_port_frame : s.gateStep.port.frame = s.port.frame := rfl
@[simp] theorem State.queueReply_port_frame (k r : Byte) (o : ReqOutcome) (b : ReplyBody) :
    (s.queueReply k r o b).port.frame = s.port.frame := rfl
@[simp] theorem State.closeFrame_port_frame : s.closeFrame.port.frame = none := rfl

/-! The lanes, ports and Claim Controllers: a write is read back, and leaves the others. -/

@[simp] theorem State.lane_setLane_same (l : LaneId) (v : Lane) : (s.setLane l v).lane l = v := by
  simp [State.lane, State.setLane]

theorem State.lane_setLane_other (l m : LaneId) (v : Lane) (h : m ≠ l) : (s.setLane l v).lane m = s.lane m := by
  have h' : (l : Nat) ≠ (m : Nat) := fun e => h (Fin.ext e.symm)
  simp [State.lane, State.setLane, h']

@[simp] theorem State.lane_modLane_same (l : LaneId) (f : Lane → Lane) : (s.modLane l f).lane l = f (s.lane l) := by
  simp [State.modLane]

theorem State.lane_modLane_other (l m : LaneId) (f : Lane → Lane) (h : m ≠ l) : (s.modLane l f).lane m = s.lane m :=
  s.lane_setLane_other l m _ h

@[simp] theorem State.rx_setRx_same (l : LaneId) (v : RxPort) : (s.setRx l v).rx l = v := by
  simp [State.rx, State.setRx]

theorem State.rx_setRx_other (l m : LaneId) (v : RxPort) (h : m ≠ l) : (s.setRx l v).rx m = s.rx m := by
  have h' : (l : Nat) ≠ (m : Nat) := fun e => h (Fin.ext e.symm)
  simp [State.rx, State.setRx, h']

@[simp] theorem State.claim_setClaim_same (l : LaneId) (v : Claim) : (s.setClaim l v).claim l = v := by
  simp [State.claim, State.setClaim]

theorem State.claim_setClaim_other (l m : LaneId) (v : Claim) (h : m ≠ l) : (s.setClaim l v).claim m = s.claim m := by
  have h' : (l : Nat) ≠ (m : Nat) := fun e => h (Fin.ext e.symm)
  simp [State.claim, State.setClaim, h']

end Sys2Proof.Machine
end

