-- ==== Sys2Proof/Laws/Table.lean ====
section
/-! SUPPORT. The sparse tables: what a write does to every read, and that it keeps the canonical form. -/

namespace Sys2Proof.Machine

variable {α : Type} [DecidableEq α]

/-- The canonical form of a listed tail. -/
theorem Table.wfFrom_cons (d : α) (n : Option Nat) (j : Nat) (v : α) (t : Table α) :
    Table.wfFrom d n ((j, v) :: t) = true ↔ (∀ k ∈ n, k < j) ∧ v ≠ d ∧ Table.wfFrom d (some j) t = true := by
  simp [Table.wfFrom, and_assoc]

/-- A lower bound of the indices may be lowered. -/
theorem Table.wfFrom_mono (d : α) (n m : Option Nat) (h : ∀ k ∈ m, ∃ l ∈ n, k ≤ l) (t : Table α)
    (w : Table.wfFrom d n t = true) : Table.wfFrom d m t = true := by
  cases t with
  | nil => rfl
  | cons r rest =>
    obtain ⟨j, v⟩ := r
    rw [Table.wfFrom_cons] at w ⊢
    refine ⟨fun k hk => ?_, w.2⟩
    obtain ⟨l, hl, hkl⟩ := h k hk
    exact lt_of_le_of_lt hkl (w.1 l hl)

/-- An index at or below the bound of a canonical tail reads as the default. -/
theorem Table.get_below (d : α) (i j : Nat) (t : Table α) (h : i ≤ j) (w : Table.wfFrom d (some j) t = true) :
    Table.get d i t = d := by
  cases t with
  | nil => rfl
  | cons r rest =>
    obtain ⟨m, v⟩ := r
    rw [Table.wfFrom_cons] at w
    have hm : i < m := lt_of_le_of_lt h (w.1 j rfl)
    simp [Table.get, hm]

theorem Table.set_wfFrom (d : α) (i : Nat) (v : α) (n : Option Nat) (hn : ∀ k ∈ n, k < i) (t : Table α)
    (w : Table.wfFrom d n t = true) : Table.wfFrom d n (Table.set d i v t) = true := by
  induction t generalizing n with
  | nil => by_cases hv : v = d <;> simp_all [Table.set, Table.wfFrom]
  | cons r rest ih =>
    obtain ⟨j, x⟩ := r
    rw [Table.wfFrom_cons] at w
    obtain ⟨w1, w2, w3⟩ := w
    simp only [Table.set]
    split
    · rename_i hij
      split
      · exact (Table.wfFrom_cons ..).2 ⟨w1, w2, w3⟩
      · rename_i hv
        exact (Table.wfFrom_cons ..).2 ⟨hn, hv, (Table.wfFrom_cons ..).2 ⟨by simpa using hij, w2, w3⟩⟩
    · split
      · rename_i hij
        subst hij
        split
        · exact Table.wfFrom_mono d (some i) n (fun k hk => ⟨i, rfl, (hn k hk).le⟩) rest w3
        · rename_i hv
          exact (Table.wfFrom_cons ..).2 ⟨hn, hv, w3⟩
      · rename_i h1 h2
        refine (Table.wfFrom_cons ..).2 ⟨w1, w2, ih (some j) ?_ w3⟩
        rintro k ⟨rfl⟩
        omega

/-- A write keeps the canonical form. -/
theorem Table.set_wf (d : α) (i : Nat) (v : α) (t : Table α) (w : Table.wf d t = true) :
    Table.wf d (Table.set d i v t) = true :=
  Table.set_wfFrom d i v none (by simp) t w

theorem Table.get_set_from (d : α) (i k : Nat) (v : α) (n : Option Nat) (t : Table α) (w : Table.wfFrom d n t = true) :
    Table.get d k (Table.set d i v t) = if k = i then v else Table.get d k t := by
  induction t generalizing n with
  | nil =>
    by_cases hv : v = d <;> by_cases hk : k = i <;> simp_all [Table.set, Table.get]
  | cons r rest ih =>
    obtain ⟨j, x⟩ := r
    obtain ⟨w1, w2, w3⟩ := (Table.wfFrom_cons ..).1 w
    have below := fun (h : k ≤ j) => Table.get_below d k j rest h w3
    have ih' := ih (some j) w3
    simp only [Table.set]
    by_cases hij : i < j
    · by_cases hv : v = d <;> by_cases hk : k = i <;> by_cases hkj : k < j <;> by_cases hki : k < i <;>
        (simp_all [Table.get]; try omega)
    · by_cases hij' : i = j
      · subst hij'
        by_cases hv : v = d <;> by_cases hk : k = i <;> by_cases hki : k < i <;> simp_all [Table.get]
        exact below (by omega)
      · rw [if_neg hij, if_neg hij']
        simp only [Table.get, ih']
        split_ifs <;> first | rfl | omega

/-- In a canonical table a write is read back, and every other index reads as before. -/
theorem Table.get_set (d : α) (i k : Nat) (v : α) (t : Table α) (w : Table.wf d t = true) :
    Table.get d k (Table.set d i v t) = if k = i then v else Table.get d k t :=
  Table.get_set_from d i k v none t w

/-- Every other index reads as before, whatever the table. -/
theorem Table.get_set_other (d : α) (i k : Nat) (v : α) (t : Table α) (w : Table.wf d t = true) (h : k ≠ i) :
    Table.get d k (Table.set d i v t) = Table.get d k t := by
  rw [Table.get_set d i k v t w, if_neg h]

end Sys2Proof.Machine
end

