-- ==== Sys2Proof/Laws/Ops.lean ====
section
/-! SUPPORT. What the shared operations can do, said once each. -/

namespace Sys2Proof.Machine

/-! ### Commands -/

/-- A command under an asserted reset pin leaves the state. -/
theorem State.unlessReset_held (s : State) (f : State → State) (h : s.resetPin = true) : s.unlessReset f = .next s := by
  simp [State.unlessReset, h]

/-- A command with the pin released has its effect. -/
theorem State.unlessReset_free (s : State) (f : State → State) (h : s.resetPin = false) : s.unlessReset f = .next (f s) := by
  simp [State.unlessReset, h]

/-- Every command of the part answers a next state. -/
theorem exec_next (c : Instr) (s : State) : ∃ t, exec c s = .next t := by
  cases c <;> exact ⟨_, rfl⟩

/-- The step takes the front of the queue. -/
theorem step_cons (c : Instr) (rest : List Instr) (s : State) :
    step (s.withPending (c :: rest)) = exec c (s.withPending rest) := rfl

/-- The step on an empty queue. -/
theorem step_nil (s : State) (h : s.pending = []) : step s = .next s.idle := by simp [step, h]

/-! ### Reports -/

/-- A report joins a queue with room: its tail, the time it was raised, and the gate's latch. -/
theorem State.raise_room (s : State) (b : ReportBody) (h : s.port.reports.length < Config.reports) :
    s.raise b = { s with port := { s.port with reports := s.port.reports ++ [⟨s.now, b⟩], gate := s.port.gate.latch } } := by
  simp [State.raise, h]

/-- A report meets a full queue: it is lost, marked and counted. -/
theorem State.raise_full (s : State) (b : ReportBody) (h : Config.reports ≤ s.port.reports.length) :
    s.raise b = { s with port := { s.port with overrun := true, lost := satAdd Config.reportsLost s.port.lost 1 } } := by
  simp [State.raise, Nat.not_lt.2 h]

/-- A report writes the Control Port alone. -/
theorem State.raise_port (s : State) (b : ReportBody) : s.raise b = { s with port := (s.raise b).port } := by
  unfold State.raise; split <;> rfl

/-- A report leaves the part state, the replies and the frame in progress. -/
theorem State.raise_kept (s : State) (b : ReportBody) :
    (s.raise b).port.part = s.port.part ∧ (s.raise b).port.replies = s.port.replies ∧
      (s.raise b).port.frame = s.port.frame ∧ (s.raise b).port.holdoff = s.port.holdoff := by
  unfold State.raise; split <;> simp

@[simp] theorem State.raise_lanes (s : State) (b : ReportBody) : (s.raise b).lanes = s.lanes := by rw [State.raise_port]
@[simp] theorem State.raise_claims (s : State) (b : ReportBody) : (s.raise b).claims = s.claims := by rw [State.raise_port]
@[simp] theorem State.raise_stations (s : State) (b : ReportBody) : (s.raise b).stations = s.stations := by rw [State.raise_port]
@[simp] theorem State.raise_streams (s : State) (b : ReportBody) : (s.raise b).streams = s.streams := by rw [State.raise_port]
@[simp] theorem State.raise_refs (s : State) (b : ReportBody) : (s.raise b).refs = s.refs := by rw [State.raise_port]
@[simp] theorem State.raise_link (s : State) (b : ReportBody) : (s.raise b).link = s.link := by rw [State.raise_port]
@[simp] theorem State.raise_builder (s : State) (b : ReportBody) : (s.raise b).builder = s.builder := by rw [State.raise_port]
@[simp] theorem State.raise_now (s : State) (b : ReportBody) : (s.raise b).now = s.now := by rw [State.raise_port]

/-! ### Table entries -/

/-- The parity does not look at the parity field. -/
@[simp] theorem StationEntry.parityOf_seal (e : StationEntry) : e.seal.parityOf = e.parityOf := rfl
@[simp] theorem StreamEntry.parityOf_seal (e : StreamEntry) : e.seal.parityOf = e.parityOf := rfl

/-- A written entry passes its check (R151). -/
@[simp] theorem StationEntry.checks_seal (e : StationEntry) : e.seal.checks = true := by simp [StationEntry.checks, StationEntry.seal, StationEntry.parityOf]
@[simp] theorem StreamEntry.checks_seal (e : StreamEntry) : e.seal.checks = true := by simp [StreamEntry.checks, StreamEntry.seal, StreamEntry.parityOf]

/-- A read that passes its check leaves the state. -/
theorem State.checkStation_passes (s : State) (f : Finder) (t : Nat) (h : (s.station t).checks = true) : s.checkStation f t = s := by
  simp [State.checkStation, h]

theorem State.checkStream_passes (s : State) (f : Finder) (i : Nat) (h : (s.stream i).checks = true) : s.checkStream f i = s := by
  simp [State.checkStream, h]

/-- A written station entry is read back, and the others read as before. -/
theorem State.station_putStation (s : State) (t k : Nat) (e : StationEntry)
    (w : Table.wf StationEntry.free s.stations.entries = true) :
    (s.putStation t e).station k = if k = t then e.seal else s.station k :=
  Table.get_set _ t k _ _ w

theorem State.station_modStation (s : State) (t k : Nat) (f : StationEntry → StationEntry)
    (w : Table.wf StationEntry.free s.stations.entries = true) :
    (s.modStation t f).station k = if k = t then (f (s.station t)).seal else s.station k :=
  s.station_putStation t k _ w

/-- A written stream entry is read back, and the others read as before. -/
theorem State.stream_putStream (s : State) (i k : Nat) (e : StreamEntry)
    (w : Table.wf StreamEntry.free s.streams.entries = true) :
    (s.putStream i e).stream k = if k = i then e.seal else s.stream k :=
  Table.get_set _ i k _ _ w

theorem State.stream_modStream (s : State) (i k : Nat) (f : StreamEntry → StreamEntry)
    (w : Table.wf StreamEntry.free s.streams.entries = true) :
    (s.modStream i f).stream k = if k = i then (f (s.stream i)).seal else s.stream k :=
  s.stream_putStream i k _ w

/-- The entry writes keep the canonical form of the tables. -/
theorem State.putStation_wf (s : State) (t : Nat) (e : StationEntry)
    (w : Table.wf StationEntry.free s.stations.entries = true) :
    Table.wf StationEntry.free (s.putStation t e).stations.entries = true :=
  Table.set_wf _ _ _ _ w

theorem State.putStream_wf (s : State) (i : Nat) (e : StreamEntry)
    (w : Table.wf StreamEntry.free s.streams.entries = true) :
    Table.wf StreamEntry.free (s.putStream i e).streams.entries = true :=
  Table.set_wf _ _ _ _ w

theorem State.setReserved_wf (s : State) (i : Nat) (r : Reserved) (w : Table.wf Reserved.none s.streams.reserved = true) :
    Table.wf Reserved.none (s.setReserved i r).streams.reserved = true :=
  Table.set_wf _ _ _ _ w

theorem State.setStationRefs_wf (s : State) (t n : Nat) (w : Table.wf 0 s.refs.stations = true) :
    Table.wf 0 (s.setStationRefs t n).refs.stations = true :=
  Table.set_wf _ _ _ _ w

theorem State.setStreamRefs_wf (s : State) (i n : Nat) (w : Table.wf 0 s.refs.streams = true) :
    Table.wf 0 (s.setStreamRefs i n).refs.streams = true :=
  Table.set_wf _ _ _ _ w

/-- The tables are canonical at reset. -/
theorem reset_tablesCanonical : State.reset.tablesCanonical := by decide

/-- No memory test is in progress at reset. -/
theorem reset_testWordsCanonical : State.reset.testWordsCanonical := by simp [State.testWordsCanonical, State.reset]

/-! ### Service lists -/

/-- Every lane and every class is listed. -/
theorem mem_allLanes (l : LaneId) : l ∈ allLanes := by revert l; decide
theorem mem_allClasses (k : Fin 4) : k ∈ allClasses := by revert k; decide

/-- A written service list is read back, and the others read as before. -/
theorem State.list_setList (s : State) (l m : LaneId) (k c : Fin 4) (v : List Nat) :
    (s.setList l k v).list m c = if m = l ∧ c = k then v else s.list m c := by
  unfold State.setList State.list
  by_cases hm : m = l
  · subst hm
    by_cases hc : c = k
    · subst hc; simp
    · have : (k : Nat) ≠ c := fun h => hc (Fin.ext h.symm)
      simp [hc, this]
  · have : (l : Nat) ≠ m := fun h => hm (Fin.ext h.symm)
    simp [hm, this]

/-- A stream that leaves one list: who stands where after it. -/
theorem State.mem_leaveList (s : State) (l m : LaneId) (k c : Fin 4) (i j : Nat) :
    j ∈ (s.leaveList l k i).list m c ↔ j ∈ s.list m c ∧ (m = l → c = k → j ≠ i) := by
  rw [State.leaveList, State.list_setList]
  split
  · rename_i h; obtain ⟨rfl, rfl⟩ := h; simp
  · rename_i h; simp; tauto

/-- A stream that leaves the lists of one lane. -/
theorem State.mem_leaveLane (s : State) (l m : LaneId) (k : Fin 4) (i j : Nat) :
    j ∈ (s.leaveLane i m).list l k ↔ j ∈ s.list l k ∧ (l = m → j ≠ i) := by
  have h : ∀ (cs : List (Fin 4)) (s : State),
      j ∈ (cs.foldl (fun s c => s.leaveList m c i) s).list l k ↔ j ∈ s.list l k ∧ (l = m → k ∈ cs → j ≠ i) := by
    intro cs
    induction cs with
    | nil => simp
    | cons c cs ih => intro s; simp only [List.foldl_cons, ih, State.mem_leaveList, List.mem_cons]; tauto
  simp [State.leaveLane, h, mem_allClasses]

/-- A stream that leaves every list stands on none, and the others stand where they stood. -/
theorem State.mem_leaveLists (s : State) (l : LaneId) (k : Fin 4) (i j : Nat) :
    j ∈ (s.leaveLists i).list l k ↔ j ∈ s.list l k ∧ j ≠ i := by
  have h : ∀ (ls : List LaneId) (s : State),
      j ∈ (ls.foldl (State.leaveLane · i ·) s).list l k ↔ j ∈ s.list l k ∧ (l ∈ ls → j ≠ i) := by
    intro ls
    induction ls with
    | nil => simp
    | cons m ms ih => intro s; rw [List.foldl_cons, ih, State.mem_leaveLane, List.mem_cons]; tauto
  simp [State.leaveLists, h, mem_allLanes]

theorem State.onLane_leaveLists (s : State) (i : Nat) (l : LaneId) : (s.leaveLists i).onLane l i = false := by
  simp [State.onLane, State.mem_leaveLists]

/-- Leaving every list writes the service lists alone. -/
theorem State.leaveLists_service (s : State) (i : Nat) :
    s.leaveLists i = { s with streams := { s.streams with service := (s.leaveLists i).streams.service } } := by
  have lane : ∀ (l : LaneId) (cs : List (Fin 4)) (s : State), cs.foldl (fun s c => s.leaveList l c i) s =
      { s with streams := { s.streams with service := (cs.foldl (fun s c => s.leaveList l c i) s).streams.service } } := by
    intro l cs
    induction cs with
    | nil => intro s; rfl
    | cons c cs ih => intro s; rw [List.foldl_cons, ih]; rfl
  have lanes : ∀ (ls : List LaneId) (s : State), ls.foldl (State.leaveLane · i ·) s =
      { s with streams := { s.streams with service := (ls.foldl (State.leaveLane · i ·) s).streams.service } } := by
    intro ls
    induction ls with
    | nil => intro s; rfl
    | cons m ms ih => intro s; rw [List.foldl_cons, ih, State.leaveLane, lane m allClasses s]
  exact lanes allLanes s

@[simp] theorem State.leaveLists_entries (s : State) (i : Nat) : (s.leaveLists i).streams.entries = s.streams.entries := by
  rw [State.leaveLists_service]
@[simp] theorem State.leaveLists_stream (s : State) (i j : Nat) : (s.leaveLists i).stream j = s.stream j := by
  simp [State.stream]

/-! ### The Integrity Unit -/

/-- Raising a count of the scrub leaves the state for every other finder. -/
theorem State.tallyScrub_other (s : State) (f : Finder) (g : Scrub → Scrub) (h : f ≠ .scrub) : s.tallyScrub f g = s := by
  simp [State.tallyScrub, h]

/-- The idle step writes the memory test in progress alone, and without one nothing. -/
theorem State.idle_memTest (s : State) :
    s.idle = { s with integrity := { s.integrity with memTest := s.integrity.memTest.map MemTest.access } } := by
  unfold State.idle
  cases h : s.integrity.memTest
  · simp only [Option.map, ← h]
  · rfl

/-- An access of the memory test keeps the words canonical. -/
theorem MemTest.access_wf (m : MemTest) (w : Table.wf 0 m.words = true) : Table.wf 0 m.access.words = true := by
  unfold MemTest.access
  cases m.next with
  | none => exact w
  | some p =>
    dsimp only
    cases p.act <;> dsimp only <;> first | exact Table.set_wf _ _ _ _ w | (split <;> exact w)

@[simp] theorem State.onLane_putStream (s : State) (i j : Nat) (l : LaneId) (e : StreamEntry) :
    (s.putStream i e).onLane l j = s.onLane l j := by
  simp only [State.onLane, State.list, State.putStream]

/-- An entry written for a stream that then leaves its lists passes its check, and the stream stands on none. -/
theorem State.putStream_leaveLists (s : State) (i : Nat) (e : StreamEntry)
    (w : Table.wf StreamEntry.free s.streams.entries = true) :
    (((s.putStream i e).leaveLists i).stream i).checks = true ∧ ∀ l, ((s.putStream i e).leaveLists i).onLane l i = false :=
  ⟨by rw [State.leaveLists_stream, State.stream_putStream _ _ _ _ w, if_pos rfl, StreamEntry.checks_seal],
    State.onLane_leaveLists _ i⟩

/-- The same of states with the same stream table. -/
theorem State.checked_of_streams {s t : State} {i : Nat} (e : t.streams = s.streams)
    (h : (s.stream i).checks = true ∧ ∀ l, s.onLane l i = false) :
    (t.stream i).checks = true ∧ ∀ l, t.onLane l i = false := by
  simpa only [State.stream, State.onLane, State.list, e] using h

theorem State.tallyScrub_streams (s : State) (f : Finder) (g : Scrub → Scrub) : (s.tallyScrub f g).streams = s.streams := by
  unfold State.tallyScrub; split <;> rfl

/-- A stream whose check failed passes its check and stands on no list, whatever becomes of it (R153). -/
theorem State.checkStream_fails (s : State) (f : Finder) (i : Nat) (w : Table.wf StreamEntry.free s.streams.entries = true)
    (h : (s.stream i).checks = false) :
    ((s.checkStream f i).stream i).checks = true ∧ ∀ l, (s.checkStream f i).onLane l i = false := by
  unfold State.checkStream
  simp only [h, Bool.false_eq_true, if_false]
  split
  · split
    · exact State.checked_of_streams (State.tallyScrub_streams _ _ _) (s.putStream_leaveLists i _ w)
    · refine State.checked_of_streams (State.tallyScrub_streams _ _ _) ⟨?_, fun l => ?_⟩
      · rw [State.freeStream, State.stream_putStream _ _ _ _ (by rwa [State.leaveLists_entries]), if_pos rfl,
          StreamEntry.checks_seal]
      · rw [State.freeStream, State.onLane_putStream, State.onLane_leaveLists]
  · split
    · exact s.putStream_leaveLists i _ w
    · rw [State.quarantineStream]
      refine State.checked_of_streams ((State.tallyScrub_streams _ _ _).trans (State.raise_streams _ _)) ?_
      exact State.putStream_leaveLists _ i _ (s.putStream_wf i _ w)

/-- The note of the tags quarantined after one more, and after one has left it. -/
theorem State.mem_noteQuarantine (s : State) (t k : Nat) :
    k ∈ (s.noteQuarantine t).stations.quarantined ↔ k = t ∨ k ∈ s.stations.quarantined := by
  simp only [State.noteQuarantine, addName]
  split
  · rename_i h; constructor
    · exact .inr
    · rintro (rfl | h') <;> simp_all
  · simp [or_comm]

theorem State.mem_forgetQuarantine (s : State) (t k : Nat) :
    k ∈ (s.forgetQuarantine t).stations.quarantined ↔ k ∈ s.stations.quarantined ∧ k ≠ t := by
  simp [State.forgetQuarantine]

/-- A station quarantined already whose check fails: what the reseal writes, besides the entry. -/
theorem State.resealStation_kept (s : State) (t : Nat) :
    (s.resealStation t).port = s.port ∧ (s.resealStation t).streams.entries = s.streams.entries ∧
      (s.resealStation t).stations = (s.modStation t fun e => { e with state := .quarantined }).stations ∧
      (s.resealStation t).align = (s.leaveDue t).align := by
  have h : ∀ (l : List Nat) (s : State), (l.foldl State.leaveLists s).port = s.port ∧
      (l.foldl State.leaveLists s).streams.entries = s.streams.entries ∧
      (l.foldl State.leaveLists s).stations = s.stations ∧ (l.foldl State.leaveLists s).align = s.align := by
    intro l
    induction l with
    | nil => intro s; exact ⟨rfl, rfl, rfl, rfl⟩
    | cons i l ih =>
      intro s
      obtain ⟨a, b, c, d⟩ := ih (s.leaveLists i)
      rw [List.foldl_cons, a, b, c, d, State.leaveLists_service]
      exact ⟨rfl, rfl, rfl, rfl⟩
  unfold State.resealStation
  dsimp only
  generalize (((s.modStation t fun e => { e with state := .quarantined }).leaveDue t).streamsOwnedBy t) = l
  obtain ⟨a, b, c, d⟩ := h l ((s.modStation t fun e => { e with state := .quarantined }).leaveDue t)
  rw [a, b, c, d]
  exact ⟨rfl, rfl, rfl, rfl⟩

/-! ### Times -/

/-- No time is earlier than itself (R2). -/
@[simp] theorem earlier_irrefl (a : Time) : earlier a a = false := by simp [earlier]

/-! ### Turn lists -/

/-- A placed turn is one more of the list, and the others are as they were. -/
theorem mem_insertTurn (t u : Turn) (l : List Turn) : u ∈ insertTurn t l ↔ u = t ∨ u ∈ l := by
  induction l with
  | nil => simp [insertTurn]
  | cons v rest ih =>
    simp only [insertTurn]
    split
    · simp
    · simp only [List.mem_cons, ih]
      tauto

theorem length_insertTurn (t : Turn) (l : List Turn) : (insertTurn t l).length = l.length + 1 := by
  induction l with
  | nil => rfl
  | cons v rest ih => simp only [insertTurn]; split <;> simp_all

/-- Every free run lies at or past the offset the walk starts from, and within the span. -/
theorem freeRunsFrom_bounds (S pos : Nat) (l : List Turn) (r : Nat × Nat) (h : r ∈ freeRunsFrom S pos l)
    (hl : ∀ t ∈ l, t.stop ≤ S ∧ t.start ≤ t.stop) : pos ≤ r.1 ∧ r.1 + r.2 ≤ S ∧ 1 ≤ r.2 := by
  induction l generalizing pos with
  | nil =>
    simp only [freeRunsFrom] at h
    split at h
    · simp only [List.mem_singleton] at h
      subst h
      refine ⟨le_refl _, ?_, ?_⟩ <;> dsimp only <;> omega
    · cases h
  | cons t rest ih =>
    have ht := hl t (by simp)
    simp only [freeRunsFrom, List.mem_append] at h
    rcases h with h | h
    · split at h
      · simp only [List.mem_singleton] at h
        subst h
        refine ⟨le_refl _, ?_, ?_⟩ <;> dsimp only <;> omega
      · cases h
    · obtain ⟨h1, h2, h3⟩ := ih (max pos t.stop) h (fun u hu => hl u (by simp [hu]))
      exact ⟨le_trans (le_max_left _ _) h1, h2, h3⟩

end Sys2Proof.Machine
end

