-- ==== Sys2Proof/Tests/Slice0.lean ====
section
/-! SUPPORT. Tests: the WellFormed smoke test, small one-step tests whose expected values are the manual's worked examples, and a
witness for each statement that has hypotheses (a state and operands that meet them together, clause by clause). -/

namespace Sys2Proof.Tests

-- The tests are closed by the kernel one after another; elaborating them at once would hold a thread for each.
set_option Elab.async false

open Sys2Proof.Machine

/-! ### Fixtures -/

/-- A frame in progress in CONFIG, with nothing queued. -/
def config0 : State := { State.reset with port := { ControlPort.reset with part := .config, frame := some .empty } }

/-- The setup of the manual's worked example of lane 2, with the bounds of its alignment example. -/
def setup2 : LaneSetup :=
  { Lq := 32, S := 128, bpq := 16, P := 2, b := 2, Ld := 4000, Ba := 1000, Wm := 2000, Df := 1000, Ao := 4, Wo := 16, Ua := 4,
    Umax := 2, Od := 4000, Pmin := 40, Pmax := 120, Rc := 512, Dl := 3 }

def hist9 : HistEntry :=
  { seq := 9, startQ := 1152, start := 36864, slots := 20, tallyArrived := false, turns := [⟨77, false⟩, ⟨78, true⟩],
    openWindow := true, joins := 7, stations := [77], streams := [] }

def lane2 : Lane :=
  { Lane.reset with setup := some setup2, state := .live, nextSpan := 10, history := [hist9] }

def st77 : StationEntry :=
  StationEntry.seal { StationEntry.free with
    state := .active, addr := some 1, laneSet := 4, home := 2, O := 3700, Pw := 70, admitted := true,
    outstanding := some (2, 9), refs := (Vector.replicate 8 none).set 0 (some 100) }

def bid100 : StreamEntry :=
  StreamEntry.seal { StreamEntry.free with
    state := .inUse, owner := some (77, 0), cls := 1, weight := 4, maxTurn := 16, fragmentable := true, laneSet := 4, D := 1000,
    lastBid := some 4 }

def cad101 : StreamEntry :=
  StreamEntry.seal { StreamEntry.free with
    state := .inUse, owner := some (77, 1), kind := .cadenced, lane := 2, c := 40, z := 6, jitter := 3, N := 1034 }

/-- Lane 2 LIVE and RUNNING, with station 77, its bidding stream 100 and its cadenced stream 101. -/
def run0 : State :=
  { config0 with
    port := { config0.port with part := .running }
    lanes := config0.lanes.set 2 lane2
    claims := config0.claims.set 2
      { mode := .tracking, target := some 10, missing := 0, settings := ClaimSettings.defaults }
    stations := { config0.stations with entries := [(77, st77)], joinMap := [(1, 77)] }
    streams := { config0.streams with
      entries := [(100, bid100), (101, cad101)]
      service := config0.streams.service.set 2 ((Vector.replicate 4 []).set 1 [100]) } }

/-- Station 77 changed. -/
def with77 (f : StationEntry → StationEntry) : State := run0.modStation 77 f

/-- Bits of stream 100 changed, its check value with none of them. -/
def broken100 (f : StreamEntry → StreamEntry) : State :=
  { run0 with streams := { run0.streams with entries := [(100, f bid100), (101, cad101)] } }

/-- A scrub at a position. -/
def scrubbingAt (s : State) (p : ScrubPos) : State :=
  { s with integrity := { s.integrity with scrub := some { pos := p, quarantined := 0, rewritten := 0, waiting := 0 } } }

/-- A draft of lane 2's span 8, at a stage. -/
def draft8 (st : Stage) : Draft :=
  { lane := 2, index := 8, setup := setup2, startQ := 1024, start := 2032768, target := 12, bs := 2, be := 5, creditUnit := 256,
    ack := 0, candidates := [77], notices := [], visits := [], stage := st, turns := [], data := [], cadence := [], pendings := [],
    openWindow := false, slips := 0, lowestSlip := none, namedStations := [77], namedStreams := [], readStations := [],
    readStreams := [] }

def drafting (d : Draft) : State := run0.setDraft (some d)

def plan8 : Plan := (draft8 .complete).plan 2000000

/-- What exec gives, for the tests that look at one field of the next state. -/
def after (c : Instr) (s : State) : State :=
  match exec c s with
  | .next t => t
  | _ => s

def req1 : Req := { reference := 1, extra := 0 }

def reply1 : Reply := { kind := 20, reference := 1, outcome := .done, part := .config, body := .empty }
def report1 : Report := { time := 0, body := .laneStopped 2 }

/-- `config0` with so many replies and reports waiting. -/
def queued (replies reports : Nat) : State :=
  { config0 with port := { config0.port with
      replies := List.replicate replies reply1, reports := List.replicate reports report1, gate := .latched } }

/-- A record header on port 2 about plan 9. -/
def head9 (len : Nat) : RecordHead := { port := 2, planSeq := 9, time := 5000, frameLen := len }

/-- With an empty marker going out, steps 1 and 2 of the frame end change nothing. -/
theorem atStep3_of_marker (s : State) (n : Nat) (p : s.resetPin = false) (f : s.port.frame = some .empty) : s.atStep3 n s :=
  ⟨p, .empty, f, by simp [State.deliver]⟩

/-- Entries that all pass their checks where listed pass them everywhere. -/
theorem stations_check (s : State) (h : ∀ r ∈ s.stations.entries, r.2.checks = true) : ∀ t, (s.station t).checks = true := by
  intro t
  rw [State.station]
  generalize s.stations.entries = l at h ⊢
  induction l with
  | nil => exact StationEntry.checks_seal _
  | cons r rest ih =>
    simp only [Table.get]
    split
    · exact StationEntry.checks_seal _
    · split
      · exact h r (by simp)
      · exact ih fun q hq => h q (by simp [hq])

theorem streams_check (s : State) (h : ∀ r ∈ s.streams.entries, r.2.checks = true) : ∀ i, (s.stream i).checks = true := by
  intro i
  rw [State.stream]
  generalize s.streams.entries = l at h ⊢
  induction l with
  | nil => exact StreamEntry.checks_seal _
  | cons r rest ih =>
    simp only [Table.get]
    split
    · exact StreamEntry.checks_seal _
    · split
      · exact h r (by simp)
      · exact ih fun q hq => h q (by simp [hq])

/-! ### WellFormed refuses what a row cannot carry -/

theorem test_wf_malformedRequest : (Instr.malformedRequest 1 7 36 40).wellFormed = false := by decide +kernel
theorem test_wf_shortFrame : (Instr.receptionFrameShort 0 8).wellFormed = false := by decide +kernel
theorem test_wf_unknownKind : (Instr.receptionUnknownKind (head9 8) 5).wellFormed = false := by decide +kernel
theorem test_wf_unknownKindHead : (Instr.receptionUnknownKind (head9 7) 6).wellFormed = false := by decide +kernel
theorem test_wf_bid : (Instr.bid (head9 7) 77 0 5 500 1).wellFormed = false := by decide +kernel
theorem test_wf_tally : (Instr.tally (head9 7) 20 8 6 6).wellFormed = false := by decide +kernel
theorem test_wf_resultTagged : (Instr.resultTagged (head9 22) 2 77 0 0 40).wellFormed = false := by decide +kernel
theorem test_wf_resultTaggedHead : (Instr.resultTagged (head9 7) 1 77 0 0 40).wellFormed = false := by decide +kernel
theorem test_wf_resultAddress : (Instr.resultAddressForm (head9 7) 1 0 0 40).wellFormed = false := by decide +kernel
theorem test_wf_noShow : (Instr.noShow (head9 7) 77).wellFormed = false := by decide +kernel
theorem test_wf_mark : (Instr.mark (head9 7)).wellFormed = false := by decide +kernel
theorem test_wf_maintenanceDue : (Instr.maintenanceDue 0).wellFormed = false := by decide +kernel
theorem test_wf_memoryTestEnd :
    (Instr.memoryTestEnd (some ⟨.station, .pattern, 0, 0, 5⟩)).wellFormed = false := by decide +kernel

/-! ### Frames and records, byte by byte from Record Layouts -/

/-- R175: STATION_ADMIT is kind 7 with 4 body bytes: tag 77, lane set with lane 2, clear streams no. -/
theorem test_frame_stationAdmit :
    requestOfFrame [7, 9, 0, 4, 0, 77, 4, 0] = .stationAdmit ⟨9, 0⟩ ⟨77, 4, 0⟩ := by decide +kernel

/-- R164: the same header with a body one byte short is malformed. -/
theorem test_frame_cutShort : requestOfFrame [7, 9, 0, 4, 0, 77, 4] = .malformedRequest 7 9 4 7 := by decide +kernel

/-- R163, R175: bytes beyond the record count for delivery alone. -/
theorem test_frame_extra : requestOfFrame [20, 3, 0, 0, 0, 0, 0] = .fetch ⟨3, 3⟩ := by decide +kernel

/-- R175: STREAM_REMOVE of stream index 258. -/
theorem test_frame_streamRemove : requestOfFrame [14, 1, 0, 2, 1, 2] = .streamRemove ⟨1, 0⟩ 258 := by decide +kernel

/-- R177: BID of tag 77 with its check bit in bit 15, slot 0, sequence 5, amount 500, CLAIM, plan 9. -/
theorem test_record_bid :
    recordOfFrame 3 [1, 0, 0, 9, 0, 0, 1, 0, 128, 77, 0, 5, 0, 0, 1, 244, 1, 0, 0, 0] =
      .bid ⟨3, 9, 256, 20⟩ (32768 + 77) 0 5 500 1 := by decide +kernel

/-- R177: a RESULT in address form carries the address in bytes 12 to 17. -/
theorem test_record_resultAddress :
    recordOfFrame 2 [3, 0, 0, 9, 0, 0, 0, 1, 2, 0, 0, 0, 0, 0, 0, 0, 0, 5, 255, 244, 3, 40] =
      .resultAddressForm ⟨2, 9, 1, 22⟩ 5 (-12) 3 40 := by decide +kernel

/-! ### Worked values of the manual -/

/-- R29's table: the check bit that passes for tags 1, 77, 501, 612 and 4095. -/
theorem test_tagCheck :
    ([1, 32768 + 77, 501, 32768 + 612, 32768 + 4095] : List (BitVec 16)).all tagCheckPasses = true ∧
    ([32768 + 1, 77, 32768 + 501, 612, 4095] : List (BitVec 16)).any tagCheckPasses = false := by decide +kernel

/-- The example of R107: T = 10, gain setting 1, boost setting 1; tallies (3, 4) then (6, 1) give 12 and 11. -/
theorem test_claimArithmetic :
    let c := { ClaimSettings.defaults with cMax := 64 }
    let u := { setup2 with S := 512, b := 1 }
    claimUpdate c u 10 10 3 4 = 12 ∧ claimUpdate c u 12 12 6 1 = 11 := by decide +kernel

/-- The example of R32 near the wrap: the serial minimum of 4,294,967,000 and 200 is the former. -/
theorem test_serialWrap : earlier 4294967000 200 = true ∧ earlier 200 4294967000 = false := by decide +kernel

/-- The worked plan of lane 2, R110: bs = 2 and T = 12 give be = 5. -/
theorem test_backoffEnd : backoffEnd 2 12 = 5 := by decide +kernel

/-- R43's and R62's example: et −300 and ep 10 with Od = 4,000 and bounds 40..120 give O = 3,700 and Pw = 70. -/
theorem test_firstCorrection : firstOffset setup2 (-300) = 3700 ∧ firstPower setup2 10 = 70 := by decide +kernel

/-- The alignment example: et 40 and ep −6 from 3,700 and 70 give 3,740 and 76. -/
theorem test_correction : correctedOffset 3700 40 = 3740 ∧ correctedPower setup2 70 (-6) = 76 := by decide +kernel

/-- R168: an OVERRUN of the count of lost reports and R162's empty marker are as long as R176 lays them out. -/
theorem test_recordLengths : Outgoing.empty.bytes.length = 4 ∧ reply1.bytes.length = 8 ∧ report1.bytes.length = 9 := by decide +kernel

/-! ### One step each -/

theorem test_plantTime_wraps : (after .plantTimeCount { State.reset with now := 4294967295 }).now = 0 := by decide +kernel

/-- R86: a repeated bid sequence sets the relist flag and leaves D. -/
theorem test_bid_duplicate :
    let t := after (.bid (head9 20) (32768 + 77) 0 4 500 1) run0
    (t.stream 100).relist = true ∧ (t.stream 100).D = 1000 ∧ (t.lane 2).counters.bidsAccepted = 1 := by decide +kernel

/-- R86: a new sequence raises D. -/
theorem test_bid_new : ((after (.bid (head9 20) (32768 + 77) 0 5 500 1) run0).stream 100).D = 1500 := by decide +kernel

/-- R27: a malformed record still moves the watermark (R31). -/
theorem test_bid_malformed :
    let t := after (.bid (head9 20) 77 0 5 0 1) run0
    (t.rx 2).malformed = 1 ∧ (t.rx 2).tagCheck = 0 ∧ (t.rx 2).watermark = 5000 := by decide +kernel

/-- R104, R105: the tally of plan 9 moves T from 10 to 15: B = 8 + 15 = 23, step ceil(13 × 2 × 2 / 8) = 7, T = 17. -/
theorem test_tally : ((after (.tally (head9 16) 20 8 6 6) run0).claim 2).target = some 17 := by decide +kernel

/-- R65, R68: a converged measurement of an ACTIVE station is DONE, due one interval later. -/
theorem test_resultTagged :
    let t := after (.resultTagged (head9 22) 1 (32768 + 77) (-12) 3 40) run0
    (t.station 77).O = 3688 ∧ (t.station 77).Pw = 67 ∧ (t.station 77).due = 160000000 ∧
      (t.lane 2).notices.map (·.body) = [.correction 77 (-12) (-3) .done] := by decide +kernel

/-- R73: a no-show of an ACTIVE station raises its miss count alone. -/
theorem test_noShow :
    let t := after (.noShow (head9 12) (32768 + 77)) run0
    (t.station 77).misses = 1 ∧ (t.station 77).attempts = 0 ∧ (t.station 77).outstanding = none := by decide +kernel

/-- R42: the first join takes tag 1. -/
theorem test_join :
    let t := after (.resultAddressForm (head9 22) 5 (-300) 10 30) run0
    (t.station 1).state = .aligning ∧ (t.station 1).O = 3700 ∧ (t.station 1).Pw = 70 ∧ (5, 1) ∈ t.stations.joinMap := by decide +kernel

/-- R119: stream 101 (c = 40, z = 6) with N at offset 10 has turns at 10, 50 and 90 and its N at offset 130. -/
theorem test_walk :
    let t := after .stageA1CadencedWalk (drafting (draft8 .cadenced))
    (t.builder.draft.map fun d => d.turns.map (·.start)) = some [10, 50, 90] ∧ (t.stream 101).N = 1024 + 130 := by decide +kernel

/-- R123: T × b = 24 quanta at the span's start. -/
theorem test_floor :
    let t := after .stageBClaimFloor (drafting (draft8 .floor))
    (t.builder.draft.map fun d => d.turns.map fun x => (x.start, x.len, x.slots)) = some [(0, 24, 12)] := by decide +kernel

/-- R125, R126: weight 4 gives credit 1,024; x is the least of 1,000, 1,024 and 14 × 16 = 224: a turn of 2 + 14 quanta. -/
theorem test_visit :
    let t := after .stageCVisit (drafting { draft8 .visits with visits := [(1, 100)] })
    (t.builder.draft.map fun d => d.turns.map (·.len)) = some [16] ∧ (t.stream 100).G = 224 ∧ (t.stream 100).credit = 800 := by
  decide +kernel

/-- R128: an empty span of 128 quanta becomes 64 slots of 2. -/
theorem test_leftover :
    let t := after .stageDLeftoverClaims (drafting (draft8 .leftover))
    (t.builder.draft.map fun d => slotsOffered d.turns) = some 64 := by decide +kernel

/-- R144 to R146: with the margin below Df the head plan is dropped and reported; with Df of margin it is committed. -/
theorem test_transmitStart :
    let s := { run0 with ready := true, link := { queue := [plan8], sending := none } }
    ((after .transmitStart { s with now := 2032768 - 999 }).lane 2).drops = 1 ∧
      (after .transmitStart { s with now := 2032768 - 1000 }).link.sending.isSome = true := by decide +kernel

/-- R151: a stream entry whose kind alone has changed fails its check. -/
theorem test_parity_kind : ({ bid100 with kind := .cadenced } : StreamEntry).checks = false ∧ bid100.checks = true := by decide +kernel

/-- R92: at a drop the streams of station 77's slots 0 and 1 join their list in slot order, whatever the order of their turns. -/
theorem test_drop_slotOrder :
    let give := fun (e : StreamEntry) => { e with D := 100, G := 100 }
    let s := ((run0.modStream 100 give).modStream 101 fun _ => { give bid100 with owner := some (77, 1) }).leaveLists 100
    (s.restoreData [⟨101, 40⟩, ⟨100, 60⟩]).list 2 1 = [100, 101] := by decide +kernel

/-- R162: while the reset pin is asserted the part shifts out the empty marker. -/
theorem test_reset_shiftsMarker : ({ run0 with resetPin := true } : State).shiftedOut 6 = [0, 0, 0, 0, 0, 0] := by decide +kernel

/-- R124: a stream that has joined its list since build begin is passed over. -/
theorem test_visit_joined :
    let t := after .stageCVisit ((drafting { draft8 .visits with visits := [(1, 100)] }).setJoined 2 [100])
    (t.builder.draft.map fun d => (d.turns.length, d.visits.length)) = some (0, 0) ∧ (t.stream 100).credit = 0 := by decide +kernel

/-- R153, R91: a listed stream whose state has fallen to FREE by a fault is rewritten free and stands on no list. -/
theorem test_scrub_freeStream :
    let s := scrubbingAt (broken100 fun e => { e with state := .free }) (.stream 100)
    ((after .scrubStep s).stream 100) = StreamEntry.free ∧ (after .scrubStep s).list 2 1 = [] := by decide +kernel

/-- R160: the first access writes the first word of STATION with its number, and the next goes to the word after it. -/
theorem test_memoryTest_access :
    let s := { State.reset with integrity := { State.reset.integrity with
      memTest := some { next := some (testStart .station), words := [] } } }
    s.idle.integrity.memTest = some
      { next := some { testStart .station with word := 1 }, words := [((testStart .station).address, 268435472)] } := by decide +kernel

/-- R161: the test does not end while a read of it is still to be made, nor at a word that is not the next read's. -/
theorem test_memoryTest_end :
    let at_ := fun (p : Option TestPos) => ({ State.reset with
      port := { State.reset.port with part := .testing }
      integrity := { State.reset.integrity with memTest := some { next := p, words := [] } } } : State)
    let read := { testStart .stream with act := .check }
    (after (.memoryTestEnd none) (at_ (some read))).port.part = .testing ∧
    (after (.memoryTestEnd none) (at_ none)).port.part = .config ∧
    (after (.memoryTestEnd (some ⟨.stream, .pattern, 0, 1, 5⟩)) (at_ (some read))).port.part = .testing ∧
    (after (.memoryTestEnd (some ⟨.stream, .pattern, 0, 0, 5⟩)) (at_ (some read))).port.reports.map (·.body) =
      [.testResult (some ⟨.stream, .pattern, 0, 0, 5⟩)] := by decide +kernel

/-- R153, R154: a mapped station whose state field a fault has turned to QUARANTINED is quarantined by R154 at its first read, its
streams with it, and at no later read. -/
theorem test_scrub_quarantinedField :
    let s := scrubbingAt { run0 with
      stations := { run0.stations with
        entries := [(77, { st77 with state := .quarantined, O := 3701 })], freeTags := [1] } } (.station 77)
    let t := after .scrubStep s
    (s.station 77).checks = false ∧ (t.station 77).state = .quarantined ∧ (t.stream 100).D = 0 ∧ t.list 2 1 = [] ∧
      t.stations.quarantined = [77] ∧ t.port.reports.map (·.body) = [.quarantined .station 77 .scrub] ∧
      t.integrity.scrub.map (·.quarantined) = some 1 := by decide +kernel

/-- R57, R166: with A_max kept an entry whose count a fault has put above it is left as it stands, its fault with it. -/
theorem test_partSetup_keepsFault :
    let s := { run0 with
      port := config0.port, stations := { run0.stations with entries := [(77, { st77 with attempts := 7 })] } }
    (after (.partSetup req1 ⟨24, 4, 5, 12, 10000, 256⟩) s).stations.entries = [(77, { st77 with attempts := 7 })] ∧
      ((after (.partSetup req1 ⟨24, 4, 4, 12, 10000, 256⟩) s).station 77).attempts = 4 := by decide +kernel

/-- R169: the attention line rises with the first record and the gate latches. -/
theorem test_attention :
    (config0.raise (.laneStopped 2)).attention = true ∧ (config0.raise (.laneStopped 2)).port.gate = .latched := by decide +kernel

/-! ### Witnesses: pins, frames and the Control Port -/

def heldInReset : State := { State.reset with resetPin := true }

theorem witness_StepRunsTheFrontCommand : State.reset.pending = [] ∧ State.reset.integrity.memTest = none := ⟨rfl, rfl⟩

theorem witness_PlantTimeCountAddsOne : State.reset.resetPin = false := rfl

theorem witness_AssertedResetPinHoldsThePart :
    heldInReset.resetPin = true ∧ Instr.buildBegin ≠ .resetAssert ∧ Instr.buildBegin ≠ .resetRelease ∧
      ∀ b, Instr.buildBegin ≠ .framerReady b := by
  simp [heldInReset]

theorem witness_ResetPinBringsResetValues : heldInReset.resetPin = true := rfl

theorem witness_RestartResetsThePart : run0.resetPin = false ∧ run0.port.frame.isSome = true := by decide +kernel

theorem witness_ClearingEndsStarting :
    State.reset.resetPin = false ∧ State.reset.port.part = .starting ∧ State.reset.port.reports.length < 64 := by decide +kernel

theorem witness_FrameStartChoosesTheOutgoingRecord :
    (State.reset.resetPin = false ∧ State.reset.port.frame = none) ∧
    (run0.resetPin = false ∧ run0.port.frame = some .empty) := by decide +kernel

/-- Each clause at its boundary: one byte short of the record, and exactly its length. -/
theorem witness_FrameEndDeliversAndArms :
    7 < (Outgoing.reply reply1).bytes.length ∧ (Outgoing.reply reply1).bytes.length ≤ 8 ∧ reply1.arming = none ∧
    (let r : Reply := { reply1 with kind := 16, body := .attentionArm 65534 }
     (Outgoing.reply r).bytes.length ≤ 10 ∧ r.outcome = .done ∧ r.body = .attentionArm 65534) ∧
    (Outgoing.report report1).bytes.length ≤ 9 ∧ (queued 0 64).port.overrun = false ∧
    (let s := { queued 0 64 with port := { (queued 0 64).port with overrun := true, lost := 3 } }
     s.port.overrun = true ∧ s.port.reports ≠ [] ∧ s.port.reports.length ≤ 64) := by decide +kernel

theorem witness_FrameEndWithoutRequest : config0.atStep3 (4 + 0) config0 ∧ config0.atStep3 (3 : Fin 4).val config0 :=
  ⟨atStep3_of_marker _ _ rfl rfl, atStep3_of_marker _ _ rfl rfl⟩

theorem witness_ReportQueuedOrLost : (queued 0 63).port.reports.length < 64 ∧ 64 ≤ (queued 0 64).port.reports.length := by decide +kernel

theorem witness_RequestChecksBeforeItsOwnRule :
    (Instr.scrub req1).requestOf = some (17, 0, req1) ∧
    ((queued 8 0).atStep3 (4 + 0 + 0) (queued 8 0) ∧ 8 ≤ (queued 8 0).port.replies.length) ∧
    (let s := { queued 7 0 with port := { (queued 7 0).port with part := .starting } }
     s.atStep3 (4 + 0 + 0) s ∧ s.port.replies.length < 8 ∧ s.port.part = .starting) ∧
    (let s := { queued 7 0 with port := { (queued 7 0).port with part := .testing } }
     s.atStep3 (4 + 0 + 0) s ∧ s.port.replies.length < 8 ∧ s.port.part = .testing ∧ (17 : Byte) ≠ 20) ∧
    ((queued 7 0).atStep3 (4 + 0 + 0) (queued 7 0) ∧ (queued 7 0).open_) :=
  ⟨rfl, ⟨atStep3_of_marker _ _ rfl rfl, by decide +kernel⟩, ⟨atStep3_of_marker _ _ rfl rfl, by decide +kernel, rfl⟩,
    ⟨atStep3_of_marker _ _ rfl rfl, by decide +kernel, rfl, by decide +kernel⟩, atStep3_of_marker _ _ rfl rfl, by decide +kernel⟩

theorem witness_MalformedRequestIsRefused :
    (Instr.malformedRequest 1 7 36 39).wellFormed = true ∧
    ((queued 7 0).atStep3 39 (queued 7 0) ∧ (queued 7 0).port.replies.length < 8) ∧
    ((queued 8 0).atStep3 39 (queued 8 0) ∧ 8 ≤ (queued 8 0).port.replies.length) :=
  ⟨by decide +kernel, ⟨atStep3_of_marker _ _ rfl rfl, by decide +kernel⟩, atStep3_of_marker _ _ rfl rfl, by decide +kernel⟩

theorem witness_FetchAndArmAreAnsweredDone :
    (let s := { queued 7 0 with port := { (queued 7 0).port with part := .testing } }
     s.atStep3 (4 + 0) s ∧ s.port.replies.length < 8 ∧ s.port.part ≠ .starting) ∧
    (config0.atStep3 (6 + 0) config0 ∧ config0.open_) :=
  ⟨⟨atStep3_of_marker _ _ rfl rfl, by decide +kernel, by decide +kernel⟩, atStep3_of_marker _ _ rfl rfl, by decide +kernel⟩

/-! ### Witnesses: the Integrity Unit -/

def scrubbing (p : ScrubPos) : State := scrubbingAt run0 p

theorem witness_ScrubAndMemoryTestBegin :
    (config0.atStep3 (4 + 0) config0 ∧ config0.open_ ∧ config0.integrity.scrub = none ∧ config0.builder.draft = none ∧
      config0.port.part = .config ∧ 4095 ≤ config0.stations.freeTags.length ∧ 8192 ≤ config0.freeStreams) ∧
    ((scrubbing (.station 1)).atStep3 (4 + 0) (scrubbing (.station 1)) ∧ (scrubbing (.station 1)).open_ ∧
      (scrubbing (.station 1)).integrity.scrub.isSome = true ∧ (scrubbing (.station 1)).port.part = .running) ∧
    (let s := { scrubbing (.station 1) with port := config0.port }
     s.atStep3 (4 + 0) s ∧ s.open_ ∧ s.port.part = .config ∧ s.integrity.scrub.isSome = true) ∧
    (let s := { run0 with port := config0.port }
     s.atStep3 (4 + 0) s ∧ s.open_ ∧ s.port.part = .config ∧ s.integrity.scrub = none ∧ s.builder.draft = none ∧
       s.freeStreams < 8192) :=
  ⟨⟨atStep3_of_marker _ _ rfl rfl, by decide +kernel, rfl, rfl, rfl, by simp [config0, State.reset, StationTable.reset, Config.stations],
      by decide +kernel⟩,
    ⟨atStep3_of_marker _ _ rfl rfl, by decide +kernel, rfl, rfl⟩, ⟨atStep3_of_marker _ _ rfl rfl, by decide +kernel, rfl, rfl⟩,
    atStep3_of_marker _ _ rfl rfl, by decide +kernel, rfl, rfl, rfl, by decide +kernel⟩

/-- An entry of tag 5 whose offset has changed by one bit: with the tag free, mapped, and still counted by a plan. -/
def broken5 (free : List Nat) (joins : List (HwAddr × Nat)) (refs : Table Nat) : State :=
  { config0 with
    stations := { entries := [(5, { StationEntry.free with O := 1 })], freeTags := free, joinMap := joins, quarantined := [] }
    refs := { stations := refs, streams := [] } }

/-- Tag 5 mapped, and noted as quarantined already. -/
def noted5 : State := (broken5 [4] [(9, 5)] []).noteQuarantine 5

theorem witness_ScrubStepReadsTheNextEntry :
    (((scrubbing (.station 4095)).resetPin = false ∧ ((scrubbing (.station 4095)).station 4095).checks = true) ∧
    ((scrubbing (.stream 8190)).resetPin = false ∧ ((scrubbing (.stream 8190)).stream 8190).checks = true) ∧
    ((scrubbing (.stream 8191)).resetPin = false ∧ ((scrubbing (.stream 8191)).stream 8191).checks = true)) ∧
    (∀ s ∈ [broken5 [4, 5] [] [], broken5 [4] [(9, 5)] [], broken5 [4] [] [(5, 1)], noted5],
      (scrubbingAt s (.station 5)).resetPin = false ∧ ((scrubbingAt s (.station 5)).station 5).checks = false) ∧
    5 ∈ (broken5 [4, 5] [] []).stations.freeTags ∧ (9, 5) ∈ (broken5 [4] [(9, 5)] []).stations.joinMap ∧
    5 ∉ (broken5 [4] [(9, 5)] []).stations.quarantined ∧ 5 ∈ noted5.stations.quarantined ∧ (9, 5) ∈ noted5.stations.joinMap ∧
    5 ∉ noted5.stations.freeTags ∧ (broken5 [4] [(9, 5)] []).tablesCanonical ∧
    (∀ r ∈ (broken5 [4] [(9, 5)] []).streams.entries, r.2.checks = true) ∧
    (∀ f ∈ [fun e : StreamEntry => { e with state := .free }, fun e : StreamEntry => { e with D := 1 }],
      (scrubbingAt (broken100 f) (.stream 100)).resetPin = false ∧ ((broken100 f).stream 100).checks = false) ∧
    (let e := (broken100 fun e => { e with state := .free }).stream 100
     e.state = .free ∧ ((broken100 fun e => { e with state := .free }).reservedOf 100).amount = 0) := by decide +kernel

/-- The test's first write, a read that finds what was written, one that does not, and its last read. -/
def testPlaces : List TestPos :=
  [testStart .station, { testStart .station with act := .check }, { testStart .stream with act := .set 31 },
    { testStart .support with act := .get 0 }, { testStart .support with act := .clear }]

/-- The test at a place of it, while the part is TESTING: at its end, at a read of each kind, and before a write. -/
def testingAt (p : Option TestPos) : State :=
  { config0 with
    port := { config0.port with part := .testing }
    integrity := { config0.integrity with memTest := some { next := p, words := [] } } }

theorem witness_MemoryTestEndClearsTheTables :
    (((Instr.memoryTestEnd none).wellFormed = true ∧ (Instr.memoryTestEnd (some ⟨.station, .pattern, 1, 0, 0⟩)).wellFormed = true ∧
      (Instr.memoryTestEnd (some ⟨.support, .walk 0, 0, 0, 0⟩)).wellFormed = true) ∧
    (∀ p ∈ [none, some { testStart .station with act := .check }, some { testStart .support with act := .get 0 }],
      (testingAt p).resetPin = false ∧ (testingAt p).port.part = .testing ∧ (testingAt p).allIdle ∧
        (testingAt p).integrity.memTest = some { next := p, words := [] } ∧ (testingAt p).port.reports.length < 64) ∧
    (let p := { testStart .station with act := .check }
     (1 : BitVec 32).toNat = p.entry ∧ (0 : BitVec 32).toNat = p.word ∧ (0 : BitVec 32) ≠ BitVec.ofNat 32 p.address) ∧
    (let p := { testStart .support with act := .get 0 }
     (0 : BitVec 32).toNat = p.entry ∧ (0 : BitVec 32).toNat = p.word ∧ (0 : BitVec 32) ≠ BitVec.ofNat 32 (2 ^ (0 : Fin 32).val)) ∧
    State.reset.integrity.memTest = none) ∧
    (∀ p ∈ testPlaces,
      let m : MemTest := { next := some p, words := [] }
      let s := { State.reset with integrity := { State.reset.integrity with memTest := some m } }
      s.pending = [] ∧ s.integrity.memTest = some m ∧ m.next = some p ∧ Table.wf 0 m.words = true ∧
        testEntryInRange p.table p.entry = true ∧ p.word < testWords p.table) := by decide +kernel

theorem witness_FailedStationCheckIsHandled :
    ((config0.tablesCanonical ∧ (config0.station 5).checks = true) ∧ Finder.link ≠ .scrub ∧
    (let s := broken5 [4, 5] [] []
     s.tablesCanonical ∧ (s.station 5).checks = false ∧ 5 ∈ s.stations.freeTags) ∧
    (let s := broken5 [4] [(9, 5)] []
     s.tablesCanonical ∧ (s.station 5).checks = false ∧ 5 ∉ s.stations.freeTags ∧ (9, 5) ∈ s.stations.joinMap ∧
       5 ∉ s.stations.quarantined) ∧
    (noted5.tablesCanonical ∧ (noted5.station 5).checks = false ∧ 5 ∉ noted5.stations.freeTags ∧
      (9, 5) ∈ noted5.stations.joinMap ∧ 5 ∈ noted5.stations.quarantined) ∧
    (let s := broken5 [4] [] [(5, 1)]
     s.tablesCanonical ∧ (s.station 5).checks = false ∧ 5 ∉ s.stations.freeTags ∧ s.stations.joinMap = [] ∧
       0 < s.stationRefs 5)) ∧
    (let s := broken100 fun e => { e with state := .free }
     s.tablesCanonical ∧ (s.stream 100).checks = false ∧ (s.stream 100).state = .free ∧ (s.reservedOf 100).amount = 0 ∧
       s.streamRefs 100 = 0 ∧ s.draftNamesStream 100 = false ∧ 0 < (s.setStreamRefs 100 1).streamRefs 100) ∧
    (let s := broken100 fun e => { e with state := .quarantined }
     s.tablesCanonical ∧ (s.stream 100).checks = false ∧ (s.stream 100).state = .quarantined) ∧
    (let s := broken100 fun e => { e with D := 1 }
     s.tablesCanonical ∧ (s.stream 100).checks = false ∧ (s.stream 100).state = .inUse ∧ s.port.reports.length < 64) :=
  ⟨by decide +kernel, by decide +kernel⟩

/-! ### Witnesses: lanes and Claim Controllers -/

/-- The body of a LANE_SETUP of lane 2 at the ends of several ranges. -/
def setupBody : LaneSetupBody :=
  { lane := 2, Lq := 16, S := 128, bpq := 4, P := 8, b := 8, Ld := 1600, Ba := 160, Wm := 90000, Df := 90000, Ao := 0, Wo := 0,
    Ua := 0, Umax := 255, Od := 2000000, Pmin := 40, Pmax := 40, Rc := 768, Dl := 0 }

theorem witness_LaneSetupPutsClampedValuesInForce :
    config0.atStep3 (40 + 0) config0 ∧ config0.open_ ∧ setupBody.lane.toNat = (2 : LaneId).val ∧ (config0.lane 2).state = .idle ∧
    (16 ≤ setupBody.Lq.toNat ∧ setupBody.Lq.toNat ≤ 512 ∧ 128 ≤ setupBody.S.toNat ∧ setupBody.S.toNat ≤ 2048 ∧
      setupBody.S.toNat * setupBody.Lq.toNat ≤ 262144 ∧ 4 ≤ setupBody.bpq.toNat ∧ setupBody.bpq.toNat ≤ 128 ∧
      setupBody.P.toNat ≤ 8 ∧ 1 ≤ setupBody.b.toNat ∧ setupBody.b.toNat ≤ 8 ∧ 1600 ≤ setupBody.Ld.toNat ∧
      setupBody.Ld.toNat ≤ 80000 ∧ 160 ≤ setupBody.Ba.toNat ∧ setupBody.Ba.toNat ≤ 16000 ∧
      setupBody.Pmin.toNat ≤ setupBody.Pmax.toNat ∧ setupBody.Rc.toNat ≤ 768 ∧ config0.shareSum 2 ≤ setupBody.Rc.toNat) :=
  ⟨atStep3_of_marker _ _ rfl rfl, by decide +kernel, rfl, rfl, by decide +kernel⟩

theorem witness_LaneSetupRefusals :
    (config0.atStep3 (40 + 0) config0 ∧ config0.open_ ∧ 7 < ({ setupBody with lane := 8 } : LaneSetupBody).lane.toNat) ∧
    (run0.atStep3 (40 + 0) run0 ∧ run0.open_ ∧ (run0.lane 2).state ≠ .idle) ∧
    ((config0.lane 2).state = .idle ∧ ({ setupBody with Lq := 15 } : LaneSetupBody).Lq.toNat < 16) ∧
    (let s := config0.setShareSum 2 769
     s.atStep3 (40 + 0) s ∧ s.open_ ∧ (s.lane 2).state = .idle ∧ setupBody.Rc.toNat < s.shareSum 2) :=
  ⟨⟨atStep3_of_marker _ _ rfl rfl, by decide +kernel, by decide +kernel⟩, ⟨atStep3_of_marker _ _ rfl rfl, by decide +kernel, by decide +kernel⟩, by decide +kernel,
    atStep3_of_marker _ _ rfl rfl, by decide +kernel, by decide +kernel, by decide +kernel⟩

/-- Lane 3 LIVE beside lane 2. -/
def live3 (s : State) : State := s.setLane 3 { s.lane 2 with history := [] }

/-- Lane 2 IDLE and set, or FAULTED. -/
def stopped (st : LaneState) (p : PartState) : State :=
  { run0.modLane 2 fun v => { v with state := st, history := [] } with port := { config0.port with part := p } }

/-- Station 77 paused, its lane set holding lane 2: it resumes. In `stopped` it is not paused. -/
theorem witness_LaneStartBeginsTheLaneAfresh :
    let s := stopped .faulted .running
    (s.atStep3 (5 + 0) s ∧ s.open_ ∧ (2 : Byte).toNat = (2 : LaneId).val ∧ (s.lane 2).state = .faulted ∧
      (s.lane 2).setup = some setup2 ∧ s.building 2 = false ∧ (s.lane 2).coveredUntil = none) ∧
    ∀ p ∈ [false, true],
      let s := (stopped .faulted .running).modStation 77 fun e => { e with paused := p }
      (s.tablesCanonical ∧ (s.station 77).state.kept = true ∧ (s.station 77).paused = p ∧ inSet (s.station 77).laneSet 2 = true ∧
        (s.stream 101).state = .inUse ∧ (s.stream 101).kind = .cadenced ∧ (s.stream 101).lane = 2) ∧
      (∀ t, (s.station t).checks = true) ∧ ∀ i, (s.stream i).checks = true := by
  refine ⟨⟨atStep3_of_marker _ _ rfl rfl, by decide +kernel, rfl, rfl, rfl, rfl, rfl⟩, fun p _ => ?_⟩
  cases p <;>
    exact ⟨by decide +kernel, stations_check _ (by decide +kernel), streams_check _ (by decide +kernel)⟩

theorem witness_LaneRequestRefusalsAndRead :
    (run0.atStep3 (5 + 0) run0 ∧ run0.open_ ∧ 7 < (8 : Byte).toNat ∧ (run0.lane 2).state = .live ∧
      (run0.lane 7).state = .idle ∧ (run0.lane 7).setup = none) ∧
    (let s := (stopped .faulted .running).modLane 2 fun v => { v with coveredUntil := some 5 }
     s.atStep3 (5 + 0) s ∧ s.open_ ∧ (s.lane 2).state = .faulted ∧ (s.lane 2).coveredUntil.isSome = true) :=
  ⟨⟨atStep3_of_marker _ _ rfl rfl, by decide +kernel⟩, atStep3_of_marker _ _ rfl rfl, by decide +kernel⟩

/-- Lane 2 DRAINING with plan 8 at the head, at a plant time, with another plan of it behind or not. -/
def drainingAt (now : Time) (rest : List Plan) : State :=
  { run0.modLane 2 fun v => { v with state := .draining } with
    now := now, ready := true, link := { queue := plan8 :: rest, sending := none } }

/-- With Df of margin and with one less; with plan 8 the lane's last and not. -/
theorem witness_LaneStopDrainsOrReachesIdle_transmit :
    ∀ now ∈ [(2031768 : Time), 2031769], ∀ rest ∈ [[], [plan8]],
      let s := drainingAt now rest
      (s.resetPin = false ∧ s.tablesCanonical ∧ s.ready = true ∧ s.link = { queue := plan8 :: rest, sending := none } ∧
        plan8.record.lane = 2 ∧ (s.lane 2).state = .draining ∧ (s.lane 2).setup = some setup2 ∧ s.building 2 = false ∧
        plan8.expired = false ∧ (s.lane 2).history.length < 4 ∧ s.port.reports.length < 62 ∧
        (now = 2031768 ↔ (setup2.Df : Int) ≤ (plan8.record.start - s.now).toInt)) ∧
      (∀ t, (s.station t).checks = true) ∧ ∀ i, (s.stream i).checks = true := by
  intro now h rest k
  simp only [List.mem_cons, List.not_mem_nil, or_false] at h k
  obtain rfl | rfl := h <;> obtain rfl | rfl := k <;>
    exact ⟨by decide +kernel, stations_check _ (by decide +kernel), streams_check _ (by decide +kernel)⟩

theorem witness_LaneStopDrainsOrReachesIdle :
    ((run0.atStep3 (5 + 0) run0 ∧ run0.open_ ∧ (run0.lane 2).state = .live ∧ run0.queuedOf 2 = 0 ∧ run0.building 2 = false) ∧
    (let s := drafting (draft8 .floor)
     s.atStep3 (5 + 0) s ∧ s.open_ ∧ (s.lane 2).state = .live ∧ s.building 2 = true) ∧
    (let s := stopped .faulted .running
     s.atStep3 (5 + 0) s ∧ s.open_ ∧ (s.lane 2).state = .faulted ∧ s.port.reports.length < 64)) ∧
    (∀ s ∈ [run0, (live3 run0).modStation 77 fun e => { e with laneSet := 12 }],
      (s.lane 2).state = .live ∧ s.tablesCanonical ∧ (s.station 77).state.kept = true ∧ (s.station 77).home = 2 ∧
        (s.station 77).paused = false) ∧
    (run0.lowestLive 0 = none ∧ (live3 run0).lowestLive 8 = some 3) ∧ ∀ t, (run0.station t).checks = true :=
  ⟨⟨⟨atStep3_of_marker _ _ rfl rfl, by decide +kernel⟩, ⟨atStep3_of_marker _ _ rfl rfl, by decide +kernel⟩,
    atStep3_of_marker _ _ rfl rfl, by decide +kernel⟩, by decide +kernel, by decide +kernel, stations_check _ (by decide +kernel)⟩

theorem witness_SpanIsHandedOverAtItsBuildPoint :
    let s := { run0 with now := 10 * 4096 - 5000 }
    s.resetPin = false ∧ (s.lane 2).state = .live ∧ (s.lane 2).setup = some setup2 ∧
      (40960 : Time) = (s.lane 2).start0 + (s.lane 2).nextSpan * BitVec.ofNat 32 (128 * 32) ∧
      s.now = (40960 : Time) - BitVec.ofNat 32 (4000 + 1000) := by decide +kernel

def span9 : WaitingSpan := { lane := 2, index := 9, start := 36864, buildPoint := 31864 }

/-- Span 9 of lane 2 waiting, at a plant time, with drops behind it. -/
def waiting9 (now : Time) (drops : Nat) : State :=
  { run0.modLane 2 fun v => { v with drops := drops } with
    now := now, builder := { waiting := [span9], draft := none } }

/-- With 2 drops behind it the skip faults the lane (Dl = 3); with none, or on a DRAINING lane, it does not; and a lane with Df = 0. -/
theorem witness_WaitingSpanIsSkippedAtItsExpiry :
    (∀ n ∈ [0, 2], (waiting9 35865 n).resetPin = false ∧ (waiting9 35865 n).tablesCanonical ∧
      (waiting9 35865 n).builder.waiting.find? (fun v => v.lane == 2 && v.index == 9) = some span9 ∧
      ((waiting9 35865 n).lane 2).setup = some setup2 ∧ setup2.Df ≤ 80000 ∧
      (waiting9 35865 n).now = span9.start - BitVec.ofNat 32 setup2.Df + 1 ∧
      (waiting9 35865 n).port.reports.length < 63 ∧ ((waiting9 35865 n).lane 2).state = .live ∧
      ((waiting9 35865 n).lane 2).drops = n) ∧
    (let s := (waiting9 36865 0).modLane 2 fun v => { v with setup := some { setup2 with Df := 0 } }
     s.builder.waiting.find? (fun v => v.lane == 2 && v.index == 9) = some span9 ∧ (s.lane 2).setup = some { setup2 with Df := 0 } ∧
       s.now = span9.start - BitVec.ofNat 32 0 + 1) ∧
    (∀ t, ((waiting9 35865 2).station t).checks = true) ∧ ∀ i, ((waiting9 35865 2).stream i).checks = true :=
  ⟨by decide +kernel, by decide +kernel, stations_check _ (by decide +kernel), streams_check _ (by decide +kernel)⟩

def claimBody : ClaimSetupBody :=
  { lane := 2, cMin := 0, cMax := 600, cOpen := 16, gain := 3, boost := 7, Gs := 0, K := 9, bs := 12 }

/-- The settings CLAIM_SETUP puts in force for `claimBody`, and a state for each of its cases: T absent, OPEN, TRACKING below the
new K, and TRACKING at it. -/
theorem witness_ClaimSetupReplacesTheSettings :
    (config0.atStep3 (16 + 0) config0 ∧ config0.open_ ∧ run0.atStep3 (16 + 0) run0 ∧ run0.open_) ∧
    (let n : ClaimSettings := { cMin := 1, cMax := 512, cOpen := 16, gain := 3, boost := 7, Gs := 1, K := 6, bs := 9 }
     n.cMin = max 1 (min claimBody.cMin.toNat 64) ∧ n.cMax = max n.cMin (min claimBody.cMax.toNat 512) ∧
     n.cOpen = max n.cMin (min claimBody.cOpen.toNat n.cMax) ∧ n.gain = claimBody.gain.toNat ∧
     n.boost = claimBody.boost.toNat ∧ n.Gs = max 1 (min claimBody.Gs.toNat 16) ∧ n.K = max 3 (min claimBody.K.toNat 6) ∧
     n.bs = min claimBody.bs.toNat 9 ∧ claimBody.gain.toNat ≤ 3 ∧ claimBody.boost.toNat ≤ 7 ∧
     (config0.claim 2).target = none ∧
     ((run0.setClaim 2 { run0.claim 2 with mode := .opening }).claim 2).mode = .opening ∧
     (run0.claim 2).target = some 10 ∧ (run0.claim 2).mode = .tracking ∧ (run0.claim 2).missing < n.K ∧
     n.K ≤ ((run0.setClaim 2 { run0.claim 2 with missing := 6 }).claim 2).missing) ∧
    7 < ({ claimBody with lane := 8 } : ClaimSetupBody).lane.toNat ∧
    3 < ({ claimBody with gain := 4 } : ClaimSetupBody).gain.toNat :=
  ⟨⟨atStep3_of_marker _ _ rfl rfl, by decide +kernel, atStep3_of_marker _ _ rfl rfl, by decide +kernel⟩, by decide +kernel, by decide +kernel, by decide +kernel⟩

theorem witness_TargetMovesByTheSteps :
    let c := ClaimSettings.defaults
    c.gain ≤ 3 ∧ c.boost ≤ 7 ∧ 2 = [1, 2, 4, 6].getD c.gain 0 ∧ 2 = [1, 2, 3, 4, 6, 8, 16, 1].getD c.boost 0 ∧
      10 < 11 ∧ (9 < 10 ∧ c.cMin ≤ 9 ∧ c.boost ≠ 7) ∧ ({ c with boost := 7 } : ClaimSettings).boost = 7 := by decide +kernel

theorem witness_TallyIsUsedOrDiscarded :
    run0.resetPin = false ∧ run0.laneOpen 2 = true ∧ (Instr.tally (head9 16) 20 8 6 6).recordMalformed = false ∧
    run0.historyEntry 2 9 = some hist9 ∧ (run0.claim 2).target = some 10 ∧
    64 = max (run0.claim 2).settings.cMin (min (run0.claim 2).settings.cMax ((run0.setupOf 2).S / (run0.setupOf 2).b)) ∧
    23 = max (run0.claim 2).settings.cMin (min (8 + (5 * 6 + 1) / 2) 64) ∧
    17 = (if (20 : BitVec 16).toNat < (run0.claim 2).settings.Gs ∨ 23 = 10 then 10
      else claimMove (run0.claim 2).settings 64 23 10) ∧
    (0 < hist9.slots ∧ hist9.tallyArrived = false ∧ (20 : BitVec 16).toNat = hist9.slots ∧ (run0.claim 2).mode = .tracking) ∧
    ((Instr.tally (head9 16) 21 9 6 6).recordMalformed = false ∧ (21 : BitVec 16).toNat ≠ hist9.slots) ∧
    ((run0.setClaim 2 { run0.claim 2 with mode := .opening }).claim 2).mode = .opening := by decide +kernel

/-! ### Witnesses: part settings, stations and streams -/

theorem witness_PartSetupSetsAndLowersCounts :
    (config0.atStep3 (12 + 0) config0 ∧ config0.open_ ∧ config0.tablesCanonical ∧ config0.port.part = .config) ∧
    (run0.atStep3 (12 + 0) run0 ∧ run0.open_ ∧ run0.tablesCanonical ∧ run0.port.part = .running) ∧
    (4 < config0.align.settings.aMax ∧ config0.align.settings.aMax ≤ 5) :=
  ⟨⟨atStep3_of_marker _ _ rfl rfl, by decide +kernel⟩, ⟨atStep3_of_marker _ _ rfl rfl, by decide +kernel⟩, by decide +kernel⟩

theorem witness_StationRequestRefusals :
    (run0.open_ ∧ run0.atStep3 (6 + 0) run0 ∧ run0.atStep3 (8 + 0) run0) ∧ 4095 < (4096 : BitVec 16).toNat ∧
    ((run0.station 4095).checks = true ∧ (run0.station 4095).state = .free) ∧
    ((with77 fun e => { e with state := .held }).open_ ∧
      (((with77 fun e => { e with state := .held }).station 77).state ≠ .active)) ∧
    ((run0.station 77).checks = true ∧ (run0.station 77).state ≠ .held) ∧
    ((with77 fun e => { e with state := .releasing }).station 77).state = .releasing ∧
    ((with77 fun e => { e with state := .lapsed }).station 77).state ∈
      [StationState.aligning, .lapsed, .quarantined, .releasing] ∧
    (run0.station 77).state ∈ [StationState.ready, .active, .held] :=
  ⟨⟨by decide +kernel, atStep3_of_marker _ _ rfl rfl, atStep3_of_marker _ _ rfl rfl⟩, by decide +kernel⟩

/-- Station 77's slot 1 leads to the cadenced stream 101, whose reserved share is kept on lane 2. -/
def run1 : State :=
  (with77 fun e => { e with refs := e.refs.set 1 (some 101) }).setReserved 101 { lane := 2, amount := 154 } |>.setShareSum 2 154

/-- The home lane in the set; outside it with the lowest lane LIVE, not LIVE beside a LIVE one, and with none LIVE; paused, with and
without a LIVE lane; and streams that fit and do not. -/
theorem witness_StationAdmitPutsTheLaneSetInForce :
    (run0.atStep3 (8 + 0) run0 ∧ run0.open_ ∧ run0.tablesCanonical ∧ (77 : BitVec 16).toNat = 77 ∧
      (run0.station 77).checks = true ∧ (6 : LaneSet) ≠ 0 ∧ (run0.station 77).state ∈ [StationState.ready, .active, .held]) ∧
    (inSet 6 (run0.station 77).home = true ∧ (run0.station 77).paused = false ∧ inSet 10 (run0.station 77).home = false ∧
      inSet 8 (run0.station 77).home = false ∧ ((live3 run0).lane 3).state = .live ∧ ((live3 run0).lane 1).state ≠ .live ∧
      (live3 run0).lowestLive 10 = some 3 ∧ run0.lowestLive 10 = none) ∧
    ((run1.modStation 77 fun e => { e with paused := true }).station 77).paused = true ∧
    (run1.streamsOf 77 = [100, 101] ∧ (run1.stream 100).laneSet &&& 6 ≠ 0 ∧ (run1.stream 100).laneSet &&& 2 = 0 ∧
      inSet 6 (run1.stream 101).lane = true ∧ inSet 2 (run1.stream 101).lane = false ∧
      (run1.stream 100).G < (run1.stream 100).D) :=
  ⟨⟨atStep3_of_marker _ _ rfl rfl, by decide +kernel⟩, by decide +kernel⟩

theorem witness_StationHoldAndResumeMoveItsStreams :
    (run0.atStep3 (6 + 0) run0 ∧ run0.open_ ∧ run0.tablesCanonical ∧ (run0.station 77).checks = true ∧
      (run0.station 77).state = .active ∧ 100 ∈ run0.streamsOf 77) ∧
    (let s := with77 fun e => { e with state := .held }
     s.atStep3 (6 + 0) s ∧ s.open_ ∧ s.tablesCanonical ∧ (s.station 77).checks = true ∧ (s.station 77).state = .held ∧
      (100 ∈ s.streamsOf 77 ∧ (s.stream 100).state = .inUse ∧ (s.stream 100).kind = .bidding ∧
        (s.stream 100).G < (s.stream 100).D ∧ inSet (s.stream 100).laneSet 2 = true)) :=
  ⟨⟨atStep3_of_marker _ _ rfl rfl, by decide +kernel⟩, atStep3_of_marker _ _ rfl rfl, by decide +kernel⟩

theorem witness_StationReleaseFreesOrKeepsTheTag :
    (run0.atStep3 (6 + 0) run0 ∧ run0.open_ ∧ run0.tablesCanonical ∧ (run0.station 77).checks = true ∧
      (run0.station 77).state ≠ .free ∧ (run0.station 77).state ≠ .releasing ∧ run0.stationRefs 77 = 0 ∧
      run0.draftNamesStation 77 = false ∧ run0.port.reports.length < 64) ∧
    (let s := run0.setStationRefs 77 1
     s.atStep3 (6 + 0) s ∧ s.open_ ∧ s.tablesCanonical ∧ (s.station 77).state = .active ∧ 0 < s.stationRefs 77) :=
  ⟨⟨atStep3_of_marker _ _ rfl rfl, by decide +kernel⟩, atStep3_of_marker _ _ rfl rfl, by decide +kernel⟩

theorem witness_ReadsReturnTheEntriesUnchanged :
    run0.atStep3 (7 + 0) run0 ∧ run0.open_ ∧ 4095 < (4096 : BitVec 16).toNat ∧ 8191 < (8192 : BitVec 16).toNat ∧
    ((4094 : BitVec 16) ≠ 0 ∧ (4094 : BitVec 16).toNat ≤ 4095 ∧ (16 : Byte) ≠ 0 ∧ (16 : Byte).toNat ≤ 16 ∧
      [4094, 4095] = (List.range' 4094 16).filter (fun k => k ≤ 4095) ∧ ∀ k ∈ [4094, 4095], (run0.station k).checks = true) ∧
    ((8191 : BitVec 16).toNat ≤ 8191 ∧ [8191] = (List.range' 8191 16).filter (fun i => i < 8192) ∧
      ∀ i ∈ [8191], (run0.stream i).checks = true) :=
  ⟨atStep3_of_marker _ _ rfl rfl, by decide +kernel⟩

def fields (kind : Byte) : StreamFields :=
  { kind := kind, cls := 3, weight := 0, maxTurn := 0, fragmentable := 1, laneSet := 4, lane := 2, c := 10, z := 3, phase := 20,
    jitter := 255 }

theorem witness_StreamAddWritesTheLowestFreeEntry :
    (run0.atStep3 (21 + 0) run0 ∧ run0.open_ ∧ run0.tablesCanonical) ∧ (7 : Byte).toNat = (7 : Fin 8).val ∧
    (fields 1).cls.toNat ≤ 3 ∧ (run0.station 77).checks = true ∧
    (run0.station 77).state ∈ [StationState.ready, .active, .held] ∧ run0.slotStream 77 7 = none ∧ run0.lowestFree = some 0 ∧
    ((fields 1).kind = 1 ∧ (fields 1).laneSet ≠ 0 ∧ (fields 1).laneSet &&& (run0.station 77).laneSet = (fields 1).laneSet) ∧
    ((fields 2).kind = 2 ∧ (fields 2).jitter.toNat ≤ 255 ∧ (fields 2).lane.toNat = (2 : LaneId).val ∧
      (run0.lane 2).setup = some setup2 ∧ setup2.P + 1 ≤ (fields 2).z.toNat ∧ inSet (run0.station 77).laneSet 2 = true ∧
      16 = max (max 16 (fields 2).c.toNat) (fields 2).z.toNat ∧ 192 = ((fields 2).z.toNat * 1024 + 16 - 1) / 16 ∧
      run0.shareSum 2 + 192 ≤ setup2.Rc) ∧
    ((4 : Nat) < 16 ∧ ((run0.lane 2).nextSpan * BitVec.ofNat 32 setup2.S + BitVec.ofNat 32 4).toNat % 16 = 20 % 16 ∧
      ∀ n, n < 4 → ((run0.lane 2).nextSpan * BitVec.ofNat 32 setup2.S + BitVec.ofNat 32 n).toNat % 16 ≠ 20 % 16) ∧
    ∀ l : LaneId, run0.onLane l 0 = false :=
  ⟨⟨atStep3_of_marker _ _ rfl rfl, by decide +kernel⟩, by decide +kernel⟩

/-- Every stream entry in use. -/
def fullTable : State :=
  { run0 with streams := { run0.streams with entries := (List.range' 0 8192).map fun i => (i, bid100) } }

theorem get_everywhere (d e : StreamEntry) (n a k : Nat) (h : a ≤ k) (h' : k < a + n) :
    Table.get d k ((List.range' a n).map fun i => (i, e)) = e := by
  induction n generalizing a with
  | zero => omega
  | succ n ih =>
    simp only [List.range'_succ, List.map_cons, Table.get]
    split
    · omega
    · split
      · rfl
      · exact ih (a + 1) (by omega) (by omega)

/-- Each refusal of STREAM_ADD at a boundary: tag, slot, kind, class, jitter, owner, slot taken, lanes, size, cap and room. -/
theorem witness_StreamAddRefusals :
    (run0.atStep3 (21 + 0) run0 ∧ run0.open_) ∧
    (4095 < (4096 : BitVec 16).toNat ∧ 7 < (8 : Byte).toNat ∧ ((fields 3).kind ≠ 1 ∧ (fields 3).kind ≠ 2) ∧
      3 < ({ fields 1 with cls := 4 } : StreamFields).cls.toNat ∧ 255 < ({ fields 2 with jitter := 256 } : StreamFields).jitter.toNat) ∧
    ((run0.station 5).checks = true ∧ (run0.station 5).state = .free ∧ (run0.station 77).checks = true ∧
      ((with77 fun e => { e with state := .lapsed }).station 77).state ∉ [StationState.ready, .active, .held] ∧
      (run0.station 77).state ∈ [StationState.ready, .active, .held]) ∧
    ((run0.slotStream 77 0).isSome = true ∧ run0.slotStream 77 7 = none ∧ (12 : LaneSet) &&& (run0.station 77).laneSet ≠ 12 ∧
      7 < (8 : Byte).toNat ∧ (run0.lane 7).setup = none ∧ (run0.lane 2).setup = some setup2 ∧
      (2 : BitVec 32).toNat < setup2.P + 1 ∧ inSet (run0.station 77).laneSet 3 = false ∧
      setup2.Rc < (run0.setShareSum 2 321).shareSum 2 + ((fields 2).z.toNat * 1024 + 16 - 1) / 16) ∧
    (fullTable.slotStream 77 7 = none ∧ ∀ i, i < 8192 → (fullTable.stream i).state ≠ .free) :=
  ⟨⟨atStep3_of_marker _ _ rfl rfl, by decide +kernel⟩, by decide +kernel, by decide +kernel, by decide +kernel, rfl, fun i h => by
    rw [State.stream, fullTable, get_everywhere _ _ 8192 0 i (Nat.zero_le i) (by omega)]; decide +kernel⟩

theorem witness_StreamChangeKeepsDemandAndCredit :
    (run1.atStep3 (20 + 0) run1 ∧ run1.open_ ∧ run1.tablesCanonical ∧ (run1.station 77).checks = true ∧
      (run1.station 77).state ∈ [StationState.ready, .active, .held]) ∧
    ((run1.stream 100).checks = true ∧ (run1.stream 100).state = .inUse ∧ (run1.stream 100).owner = some (77, 0) ∧
      (run1.stream 100).kind = .bidding ∧ (fields 1).laneSet &&& (run1.station 77).laneSet = (fields 1).laneSet) ∧
    ((run1.stream 101).checks = true ∧ (run1.stream 101).state = .inUse ∧ (run1.stream 101).owner = some (77, 1) ∧
      (run1.stream 101).kind = .cadenced ∧ (run1.lane 2).setup = some setup2 ∧
      (run1.reservedOf 101).lane = (run1.stream 101).lane ∧
      (if (run1.stream 101).lane = 2 then run1.shareSum 2 - (run1.reservedOf 101).amount else run1.shareSum 2) +
        ((fields 2).z.toNat * 1024 + 16 - 1) / 16 ≤ setup2.Rc ∧ (run1.stream 101).c ≠ 16) ∧
    (let e := (run1.modStation 77 fun e => { e with laneSet := 12 }).station 77
     (8 : LaneSet) &&& e.laneSet = 8 ∧ inSet (run1.stream 100).laneSet 2 = true ∧ inSet 8 2 = false ∧
       inSet (run1.stream 100).laneSet 3 = false ∧ inSet 8 3 = true ∧ e.state = .active ∧
       (run1.stream 100).G < (run1.stream 100).D ∧ 100 ∈ run1.list 2 (run1.stream 100).cls) ∧
    (let f := { fields 2 with c := 40, phase := 0 }
     (run1.stream 101).lane = 2 ∧ (run1.stream 101).c = f.c.toNat ∧ (run1.stream 101).phase = f.phase.toNat % 40) :=
  ⟨⟨atStep3_of_marker _ _ rfl rfl, by decide +kernel⟩, by decide +kernel, by decide +kernel, by decide +kernel, by decide +kernel⟩

/-- Each refusal of STREAM_CHANGE at a boundary. -/
theorem witness_StreamChangeRefusals :
    (run1.atStep3 (20 + 0) run1 ∧ run1.open_) ∧ 8191 < (8192 : BitVec 16).toNat ∧
    ((run1.stream 8191).checks = true ∧ (run1.stream 8191).state ∈ [StreamState.free, .retiring]) ∧
    ((run1.modStream 101 fun e => { e with state := .quarantined }).stream 101).state = .quarantined ∧
    ((run1.stream 101).state = .inUse ∧ (run1.stream 101).owner = some (77, 1) ∧ (run1.stream 101).kind = .cadenced ∧
      (run1.stream 100).kind = .bidding ∧ (run1.station 77).checks = true) ∧
    ((run1.modStation 77 fun e => { e with state := .aligning }).station 77).state ∉ [StationState.ready, .active, .held] ∧
    ((fields 1).laneSet &&& (8 : LaneSet) ≠ (fields 1).laneSet ∧ (run1.lane 7).setup = none ∧ inSet (run1.station 77).laneSet 3 = false) ∧
    (let s := run1.setShareSum 2 475
     (s.reservedOf 101).lane = (s.stream 101).lane ∧ (s.stream 101).lane = 2 ∧
       setup2.Rc < s.shareSum 2 - (s.reservedOf 101).amount + ((fields 2).z.toNat * 1024 + 16 - 1) / 16) :=
  ⟨⟨atStep3_of_marker _ _ rfl rfl, by decide +kernel⟩, by decide +kernel⟩

/-- A QUARANTINED stream with its owner, with a QUARANTINED owner, and without one: no owner, a tag out of range, a slot elsewhere. -/
theorem witness_StreamRemoveOfQuarantined :
    (let s := run1.modStream 101 fun e => { e with state := .quarantined }
     s.atStep3 (6 + 0) s ∧ s.open_ ∧ s.tablesCanonical ∧ (s.stream 101).checks = true ∧ (s.stream 101).state = .quarantined ∧
       (s.stream 101).owner = some (77, 1) ∧ s.slotStream 77 1 = some 101 ∧ (s.station 77).state ≠ .quarantined) ∧
    (let s := run1.modStation 77 fun e => { e with state := .quarantined }
     (s.station 77).checks = true ∧ s.slotStream 77 1 = some 101 ∧ (s.station 77).state = .quarantined) ∧
    (∀ o ∈ [none, some (0, 1), some (4096, 1), some (77, 2)],
      let s := run1.modStream 101 fun e => { e with owner := o }
      (s.stream 101).checks = true ∧ (s.stream 101).state ∈ [StreamState.inUse, .quarantined] ∧ s.tablesCanonical ∧
        (s.stream 101).owner = o) ∧
    ((run1.station 77).checks = true ∧ run1.slotStream 77 2 ≠ some 101) ∧ 8191 < (8192 : BitVec 16).toNat ∧
    (run1.stream 8191).state ∈ [StreamState.free, .retiring] :=
  ⟨⟨atStep3_of_marker _ _ rfl rfl, by decide +kernel⟩, by decide +kernel⟩

theorem witness_StreamRemoveRetiresOrFrees :
    (run1.atStep3 (6 + 0) run1 ∧ run1.open_ ∧ run1.tablesCanonical ∧ (run1.stream 101).checks = true ∧
      (run1.stream 101).state = .inUse ∧ (run1.stream 101).owner = some (77, 1) ∧ (run1.station 77).checks = true ∧
      (run1.station 77).state ≠ .quarantined ∧ run1.slotStream 77 1 = some 101 ∧ run1.streamRefs 101 = 0 ∧
      run1.draftNamesStream 101 = false) ∧
    (let s := run1.setStreamRefs 101 2
     s.atStep3 (6 + 0) s ∧ s.open_ ∧ s.tablesCanonical ∧ s.slotStream 77 1 = some 101 ∧ 0 < s.streamRefs 101) :=
  ⟨⟨atStep3_of_marker _ _ rfl rfl, by decide +kernel⟩, atStep3_of_marker _ _ rfl rfl, by decide +kernel⟩

/-! ### Witnesses: reception records -/

theorem witness_RecordsAreCheckedInOrder :
    (Instr.mark (head9 8)).recordHead = some (head9 8) ∧ config0.laneOpen 2 = false ∧ run0.laneOpen 2 = true ∧
    (Instr.bid (head9 20) 77 0 5 0 1).recordMalformed = true ∧
    ((Instr.bid (head9 20) 77 7 15 1048575 2).recordMalformed = false ∧ (Instr.bid (head9 20) 77 7 15 1048576 2).recordMalformed = true ∧
      (Instr.tally (head9 16) 1024 1024 0 0).recordMalformed = false ∧ (Instr.tally (head9 16) 1024 1024 0 1).recordMalformed = true ∧
      (Instr.resultTagged (head9 22) 1 77 2047 (-64) 63).recordMalformed = false ∧
      (Instr.resultTagged (head9 22) 1 77 2048 (-64) 63).recordMalformed = true ∧
      (Instr.resultAddressForm (head9 22) 281474976710654 (-2048) 63 0).recordMalformed = false ∧
      (Instr.resultAddressForm (head9 22) 281474976710655 (-2048) 63 0).recordMalformed = true) ∧
    ((Instr.noShow (head9 12) 77).recordMalformed = false ∧ (Instr.noShow (head9 12) 77).recordTag = some 77 ∧
      tagCheckPasses 77 = false) ∧
    ((Instr.noShow { head9 12 with planSeq := 6 } 501).recordMalformed = false ∧ tagCheckPasses 501 = true ∧
      run0.historyEntry 2 6 = none) ∧
    (Instr.receptionUnknownKind (head9 8) 6).recordHead = some (head9 8) := by decide +kernel

theorem witness_BidRaisesDemandOrRelists :
    run0.resetPin = false ∧ run0.tablesCanonical ∧ run0.laneOpen 2 = true ∧
    (Instr.bid (head9 20) (32768 + 77) 0 5 1048575 2).recordMalformed = false ∧ tagCheckPasses (32768 + 77) = true ∧
    (run0.historyEntry 2 9).isSome = true ∧ tagOfTagWord (32768 + 77) = 77 ∧ (0 : Byte).toNat = (0 : Fin 8).val ∧
    (run0.station 77).checks = true ∧ (run0.station 77).state = .active ∧ (run0.station 77).refs[(0 : Fin 8)] = some 100 ∧
    (run0.stream 100).checks = true ∧ (run0.stream 100).state = .inUse ∧ (run0.stream 100).kind = .bidding ∧
    (run0.stream 100).owner = some (77, 0) ∧ (run0.stream 100).lastBid ≠ some (5 : Byte).toNat ∧
    (run0.stream 100).lastBid = some (4 : Byte).toNat ∧ (run0.station 77).refs[(7 : Fin 8)] = none ∧
    ((run0.modStream 100 fun e => { e with D := 0 }).stream 100).D ≤ ((run0.modStream 100 fun e => { e with D := 0 }).stream 100).G ∧
    ((with77 fun e => { e with state := .lapsed }).station 77).state = .lapsed := by decide +kernel

/-- Station 77 in a state, with attempts and misses one below A_max. -/
def near (st : StationState) : State := with77 fun e => { e with state := st, attempts := 4, misses := 4 }

/-- The common hypotheses, and those of each verdict: converged at the tolerances, not converged below A_max, and at it. -/
theorem witness_MeasurementCorrectsAndJudges :
    (run0.resetPin = false ∧ run0.tablesCanonical ∧ run0.laneOpen 2 = true ∧
      (Instr.resultTagged (head9 22) 1 (32768 + 77) (-24) 4 12).recordMalformed = false ∧
      tagCheckPasses (32768 + 77) = true ∧ tagOfTagWord (32768 + 77) = 77 ∧ run0.historyEntry 2 9 = some hist9 ∧
      hist9.turns.find? (fun a => a.tag == 77) = some ⟨77, false⟩ ∧ (run0.station 77).checks = true ∧
      (run0.station 77).state.kept = true ∧ run0.setupOf 2 = setup2 ∧ setup2.Pmin ≤ setup2.Pmax ∧
      run0.align.settings.qMin ≤ (12 : Byte).toNat ∧ (run0.lane 2).notices.length < 96) ∧
    ((3676 : Int) = max 0 (min (((run0.station 77).O : Int) + (-24 : BitVec 16).toInt) 1048575) ∧
      (66 : Int) = max (setup2.Pmin : Int) (min ((run0.station 77).Pw - (4 : Byte).toInt) setup2.Pmax) ∧
      (-24 : BitVec 16).toInt.natAbs ≤ run0.align.settings.tolT ∧ (4 : Byte).toInt.natAbs ≤ run0.align.settings.tolP) ∧
    ((Instr.resultTagged (head9 22) 1 (32768 + 77) 25 4 12).recordMalformed = false ∧
      ¬((25 : BitVec 16).toInt.natAbs ≤ run0.align.settings.tolT ∧ (4 : Byte).toInt.natAbs ≤ run0.align.settings.tolP) ∧
      min ((run0.station 77).attempts + 1) run0.align.settings.aMax < run0.align.settings.aMax) ∧
    (∀ st ∈ [StationState.aligning, .ready, .active, .held, .lapsed],
      ((near st).station 77).checks = true ∧ ((near st).station 77).state = st ∧ st.kept = true ∧
      (near st).align.settings.aMax ≤ min (((near st).station 77).attempts + 1) (near st).align.settings.aMax) ∧
    0 < (run0.setStationRefs 77 1).stationRefs 77 := by decide +kernel

theorem witness_NoShowCountsTowardsTheLimit :
    (run0.resetPin = false ∧ run0.tablesCanonical ∧ run0.laneOpen 2 = true ∧ tagCheckPasses (32768 + 77) = true ∧
      tagOfTagWord (32768 + 77) = 77 ∧ run0.historyEntry 2 9 = some hist9 ∧ (run0.station 77).checks = true) ∧
    (tagCheckPasses (32768 + 78) = true ∧ hist9.turns.find? (fun a => a.tag == 78) = some ⟨78, true⟩ ∧
      hist9.turns.find? (fun a => a.tag == 79) = none ∧ tagCheckPasses 79 = true) ∧
    ((Instr.noShow (head9 12) (32768 + 77)).recordMalformed = false ∧
      hist9.turns.find? (fun a => a.tag == 77) = some ⟨77, false⟩ ∧ (run0.station 77).paused = false ∧
      (run0.station 77).misses + 1 < run0.align.settings.aMax) ∧
    ((with77 fun e => { e with paused := true }).station 77).paused = true ∧
    (∀ st ∈ [StationState.aligning, .lapsed], ((near st).station 77).paused = false ∧
      (near st).align.settings.aMax ≤ ((near st).station 77).attempts + 1) ∧
    (∀ st ∈ [StationState.ready, .active, .held], (near st).align.settings.aMax ≤ ((near st).station 77).misses + 1) ∧
    (let s := with77 fun e => { e with state := .aligning, attempts := 3 }
     (s.station 77).attempts + 1 < s.align.settings.aMax) ∧
    (∀ st ∈ [StationState.free, .quarantined, .releasing], ((near st).station 77).state = st ∧
      (Instr.resultTagged (head9 22) 1 (32768 + 77) 5 5 40).recordMalformed = false) ∧
    ((11 : Byte).toNat < run0.align.settings.qMin ∧ run0.align.settings.qMin ≤ (12 : Byte).toNat ∧ (run0.station 77).state.kept = true ∧
      96 ≤ ((run0.modLane 2 fun v => { v with notices := List.replicate 96 ⟨.join 1 77 0 0, none, false⟩ }).lane 2).notices.length) := by
  decide +kernel

theorem witness_OpenWindowResultJoins :
    (run0.resetPin = false ∧ run0.tablesCanonical ∧ run0.laneOpen 2 = true ∧
      (Instr.resultAddressForm (head9 22) 5 (-300) 10 12).recordMalformed = false ∧ run0.historyEntry 2 9 = some hist9 ∧
      run0.setupOf 2 = setup2 ∧ setup2.Pmin ≤ setup2.Pmax ∧
      (3700 : Int) = max 0 (min (setup2.Od + (-300 : BitVec 16).toInt) 1048575) ∧
      (70 : Int) = max (setup2.Pmin : Int) (min ((((setup2.Pmin + setup2.Pmax) / 2 : Nat) : Int) - (10 : Byte).toInt) setup2.Pmax)) ∧
    (hist9.openWindow = true ∧ hist9.joins < 8 ∧ run0.align.settings.qMin ≤ (12 : Byte).toNat) ∧
    ¬(run0.align.settings.qMin ≤ (11 : Byte).toNat) ∧
    (run0.mapped 5 = none ∧ (run0.lane 2).state = .live ∧ run0.stations.freeTags.head? = some 1 ∧
      (run0.lane 2).notices.length < 96) ∧
    (run0.mapped 1 = some 77 ∧ (run0.station 77).checks = true ∧ (run0.station 77).state ≠ .quarantined) ∧
    ((with77 fun e => { e with state := .quarantined }).station 77).state = .quarantined ∧
    ((run0.modLane 2 fun v => { v with state := .draining }).laneOpen 2 = true ∧
      ((run0.modLane 2 fun v => { v with state := .draining }).lane 2).state ≠ .live) ∧
    ({ run0 with stations := { run0.stations with freeTags := [] } } : State).stations.freeTags = [] ∧
    96 ≤ ((run0.modLane 2 fun v => { v with notices := List.replicate 96 ⟨.join 1 77 0 0, none, false⟩ }).lane 2).notices.length := by
  decide +kernel

theorem witness_TimedEventsActAtTheirTimes :
    (run0.resetPin = false ∧ ((run0.modLane 2 fun v => { v with coveredUntil := some 0 }).lane 2).coveredUntil = some run0.now) ∧
    (let s := { run0 with port := { run0.port with gate := .holdoff, holdoff := some 0 } }
     s.port.gate = .holdoff ∧ s.port.holdoff = some s.now) ∧
    ((77 : BitVec 12).toNat = 77 ∧ (run0.station 77).due = run0.now ∧ (run0.station 77).state.kept = true ∧
      77 ∉ run0.align.dueQueue ∧ (run0.station 77).checks = true) ∧
    (let s := { run0 with align := { run0.align with dueQueue := [9, 70, 80], dueFresh := [80, 70] } }
     s.align.dueQueue = [9] ++ [70, 80] ∧ (∀ k ∈ [9], k ∉ s.align.dueFresh) ∧ (∀ k ∈ [70, 80], k ∈ s.align.dueFresh) ∧
       [70, 80].Pairwise (· < ·)) := by decide +kernel

/-! ### Witnesses: the Plan Builder -/

/-- Two turns with a gap of 4 quanta between them, in a span of 32. -/
def twoTurns : List Turn :=
  [{ kind := .align, tag := 77, slot := 0, start := 0, len := 4, slots := 0, floor := false },
   { kind := .claim, tag := 0, slot := 0, start := 8, len := 20, slots := 10, floor := true }]

theorem witness_FirstFitIsTheLowestPlace : turnsShaped 32 2 twoTurns ∧ 1 ≤ 4 ∧ firstFit 32 twoTurns 4 = some 4 ∧
    firstFit 32 twoTurns 5 = none := by decide +kernel

/-- At Df − 1 of margin the span is skipped, at Df it is built. -/
theorem witness_BuildBeginFixesTheDraft :
    (run0.resetPin = false ∧ run0.builder.draft = none ∧ run0.builder.waiting = []) ∧
    (let s := waiting9 35865 0
     s.resetPin = false ∧ s.builder.draft = none ∧ s.nextSpan = some span9 ∧ (s.lane 2).setup = some setup2 ∧
       span9 ∈ s.builder.waiting ∧ (s.lane 2).state = .live ∧ s.queuedOf 2 < 2 ∧ (span9.start - (0 : Time)).toNat < 2 ^ 31 ∧
       (span9.start - s.now).toInt < setup2.Df) ∧
    (let s := waiting9 35864 0
     (s.resetPin = false ∧ s.builder.draft = none ∧ s.nextSpan = some span9 ∧ (s.lane 2).setup = some setup2 ∧
       (setup2.Df : Int) ≤ (span9.start - s.now).toInt) ∧ (∀ t, (s.station t).checks = true) ∧
       ∀ l : LaneId, (s.lane l).state = .live → ((s.rx l).watermark - (0 : Time)).toNat < 2 ^ 31) :=
  ⟨by decide +kernel, by decide +kernel, by decide +kernel, stations_check _ (by decide +kernel), by decide +kernel⟩

/-- ceil_log2 of T: at a power of 2, one above it, and at T = 1; station 77 as a candidate. -/
theorem witness_BuildBeginFixesTheDraft_values :
    ((waiting9 35864 0).claim 2).target = some 10 ∧ (10 ≤ 2 ^ 4 ∧ ∀ n, n < 4 → 2 ^ n < 10) ∧
    (8 ≤ 2 ^ 3 ∧ ∀ n, n < 3 → 2 ^ n < 8) ∧ (1 ≤ 2 ^ 0 ∧ ∀ n, n < 0 → 2 ^ n < 1) ∧
    (let e := (with77 fun e => { e with outstanding := none }).station 77
     e.home = 2 ∧ e.state ∈ [StationState.aligning, .lapsed, .ready, .active, .held] ∧ e.outstanding = none ∧
       e.verdictWaiting = false ∧ e.paused = false) := by decide +kernel

/-- The one walked stream of lane 2 with an ACTIVE owner, whose N lies at offset 10. -/
theorem witness_CadencedWalkPlacesAndAdvances :
    let s := drafting (draft8 .cadenced)
    (s.resetPin = false ∧ s.tablesCanonical ∧ s.builder.draft = some (draft8 .cadenced) ∧ (draft8 .cadenced).stage = .cadenced ∧
      1 ≤ setup2.S ∧ setup2.S ≤ 2048) ∧ (∀ t, (s.station t).checks = true) ∧ (∀ i, (s.stream i).checks = true) ∧
    (s.cadencedOn 2 = [101] ∧ s.walks 2 101 = true ∧ (s.stream 101).owner = some (77, 1) ∧ (s.station 77).state = .active ∧
      16 ≤ (s.stream 101).c ∧ (s.stream 101).c ≤ 65535 ∧ 1 ≤ (s.stream 101).z ∧ (s.stream 101).z ≤ (s.stream 101).c ∧
      ((s.stream 101).N - (draft8 .cadenced).startQ).toNat < setup2.S) ∧ s.walks 2 100 = false ∧
    (∀ n ∈ [1152, 7207, 7208, 1023],
      let s := drafting (draft8 .cadenced) |>.modStream 101 fun e => { e with N := BitVec.ofNat 32 n }
      s.walks 2 101 = true ∧ 1 ≤ (s.stream 101).c ∧ (s.stream 101).c ≤ 65535) ∧
    (128 ≤ ((1152 : Quantum) - 1024).toNat ∧ ((7207 : Quantum) - 1024).toNat < 48 * 128 + 40 ∧
      48 * 128 + 40 ≤ ((7208 : Quantum) - 1024).toNat ∧ 48 * 128 + 40 ≤ ((1023 : Quantum) - 1024).toNat) :=
  ⟨by decide +kernel, stations_check _ (by decide +kernel), streams_check _ (by decide +kernel), by decide +kernel,
    by decide +kernel, by decide +kernel, by decide +kernel⟩

theorem witness_ReservationAndClaimStages :
    ((∀ st ∈ [Stage.alignment, .openWindow, .floor, .leftover],
      (drafting (draft8 st)).resetPin = false ∧ (drafting (draft8 st)).builder.draft = some (draft8 st) ∧
      turnsShaped setup2.S setup2.b (draft8 st).turns) ∧
    (1 ≤ setup2.b ∧ 1 ≤ setup2.Ua ∧ 1 ≤ setup2.Wo ∧ 0 < setup2.Ao ∧ (8 : BitVec 32).toNat % setup2.Ao = 0 ∧
      firstFit setup2.S [] setup2.Wo = some 0 ∧ 1 ≤ (draft8 .floor).target ∧
      firstFit setup2.S [] ((draft8 .floor).target * setup2.b) = some 0 ∧ slotsOffered (draft8 .leftover).turns ≤ 1024) ∧
    (let d := { draft8 .floor with setup := { setup2 with S := 32 }, turns := twoTurns }
     turnsShaped d.setup.S d.setup.b d.turns ∧ (∀ t ∈ d.turns, t.floor = true → t.kind = .claim) ∧
     firstFit d.setup.S d.turns (d.target * d.setup.b) = none ∧
     d.turns.length + (freeRuns d.setup.S d.turns).length ≤ 240)) ∧
    (let d := { draft8 .leftover with setup := { setup2 with S := 40 }, turns := twoTurns }
     turnsShaped d.setup.S d.setup.b d.turns ∧ d.turns.length + (freeRuns d.setup.S d.turns).length ≤ 240 ∧
     slotsOffered d.turns + ((freeRuns d.setup.S d.turns).map fun run => run.2 / d.setup.b).sum ≤ 1024 ∧
     (∃ u ∈ d.turns, u.floor = true ∧ (u.stop, 12) ∈ freeRuns d.setup.S d.turns) ∧
     (4, 4) ∈ freeRuns d.setup.S d.turns ∧ d.setup.b ≤ 4 ∧ ∀ u ∈ d.turns, u.floor = true → u.stop ≠ 4) :=
  ⟨by decide +kernel, by decide +kernel⟩

/-- Stream 100 at its visit: served by first fit, served by the largest run, not served for want of credit, and off its list. -/
theorem witness_VisitServesByCredit :
    let d := { draft8 .visits with visits := [(1, 100)] }
    let s := drafting d
    (s.resetPin = false ∧ s.tablesCanonical ∧ s.builder.draft = some d ∧ d.turns.length < 240 ∧
      (∃ run ∈ freeRuns setup2.S d.turns, setup2.P + 1 ≤ run.2) ∧ (s.stream 100).checks = true ∧
      (s.stream 100).owner = some (77, 0) ∧ (s.station 77).checks = true ∧ 1 ≤ setup2.bpq ∧ setup2.P ≤ 8 ∧
      100 ∈ s.list 2 1 ∧ 101 ∉ s.list 2 1) ∧
    ((1024 : Int) = min ((s.stream 100).credit + (((s.stream 100).weight * d.creditUnit : Nat) : Int)) 1048575 ∧
      (224 : Int) = min (((s.stream 100).D - (s.stream 100).G : Nat) : Int) (min 1024
        (((max (setup2.P + 1) (min (s.stream 100).maxTurn 255) - setup2.P) * setup2.bpq : Nat) : Int)) ∧
      16 = setup2.P + ((224 : Int).toNat + setup2.bpq - 1) / setup2.bpq ∧ firstFit setup2.S d.turns 16 = some 0) ∧
    (firstFit 32 twoTurns 16 = none ∧ (s.stream 100).fragmentable = true ∧ largestRun 32 twoTurns = (4, 4) ∧ setup2.P + 1 ≤ 4) ∧
    (drafting (draft8 .visits)).builder.draft = some (draft8 .visits) ∧ (draft8 .visits).visits = [] ∧
    (let b := (broken100 fun e => { e with D := 1 }).setDraft (some d)
     (b.stream 100).checks = false ∧ 100 ∉ d.readStreams ∧ b.tablesCanonical) ∧
    (100 ∉ s.joinedOf 2 ∧ (s.stream 100).state = .inUse ∧ (s.stream 100).kind = .bidding ∧
      100 ∈ (s.setJoined 2 [100]).joinedOf 2) ∧
    min (((s.modStream 100 fun e => { e with credit := -1024 }).stream 100).credit + 1024) 1048575 ≤ 0 := by decide +kernel

/-- The owner of the stream visited: not ACTIVE, and with a check that fails. -/
theorem witness_VisitServesByCredit_owner :
    let d := { draft8 .visits with visits := [(1, 100)] }
    let b := { drafting d with stations := { run0.stations with entries := [(77, { st77 with O := 3701 })] } }
    ((b.stream 100).checks = true ∧ (b.stream 100).owner = some (77, 0) ∧ (b.station 77).checks = false ∧ 77 ∉ d.readStations ∧
      b.tablesCanonical) ∧
    (run0.station 77).state = .active ∧ ((with77 fun e => { e with state := .held }).station 77).state ≠ .active := by decide +kernel

theorem witness_PendingSelectionChoosesUpTo48 :
    let s := drafting (draft8 .notices)
    (s.resetPin = false ∧ s.builder.draft = some (draft8 .notices) ∧ (draft8 .notices).stage = .notices ∧
      (draft8 .notices).pendings = [] ∧
      [100] = (([3, 2, 1, 0] : List (Fin 4)).flatMap fun k => s.list 2 k).filter
        (fun i => !((draft8 .notices).data.any fun t => t.stream == i))) ∧ ∀ i, (s.stream i).checks = true :=
  ⟨by decide +kernel, streams_check _ (by decide +kernel)⟩

theorem witness_CompletionQueuesOrDiscards :
    (let s := drafting (draft8 .complete)
     s.resetPin = false ∧ s.tablesCanonical ∧ s.builder.draft = some (draft8 .complete) ∧ (draft8 .complete).stage = .complete ∧
       (s.lane 2).state = .live ∧ (∀ t ∈ (draft8 .complete).namedStations, (s.station t).state ≠ .releasing) ∧
       ∀ i ∈ (draft8 .complete).namedStreams, (s.stream i).state ≠ .retiring) ∧
    (let s := (drafting { draft8 .complete with data := [⟨100, 224⟩] }).modLane 2 fun v => { v with state := .draining }
     ((s.lane 2).state = .draining ∧ s.queuedOf 2 = 0 ∧ s.tablesCanonical ∧ (s.stream 100).state = .inUse) ∧
       (∀ t, (s.station t).checks = true) ∧ ∀ i, (s.stream i).checks = true) ∧
    (let d := { draft8 .complete with data := [⟨100, 224⟩] }
     let s := { (drafting d).modStream 100 fun e => { e with D := 224, G := 224 } with link := { queue := [plan8], sending := none } }
     0 < s.queuedOf 2 ∧ (d.data.map (·.stream)).Nodup ∧ (s.stream 100).D ≤ (s.stream 100).G ∧
       (s.stream 100).G - 224 < (s.stream 100).D ∧ (s.stream 100).kind = .bidding ∧ s.ownerIs (s.stream 100) .active = true) :=
  ⟨by decide +kernel, ⟨by decide +kernel, stations_check _ (by decide +kernel), streams_check _ (by decide +kernel)⟩, by decide +kernel⟩

/-! ### Witnesses: the Plan Link, and what every step keeps -/

theorem witness_PlanLinkEventsChangeTheLinkAlone : run0.resetPin = false ∧ (run0.lane 2).setup = some setup2 := by decide +kernel

/-- A plan with a DATA turn, two CADENCE turns, an ALIGN turn and a slip. -/
def fullPlan : Plan :=
  { plan8 with
    record := { plan8.record with
      turns := [{ kind := .align, tag := 77, slot := 0, start := 11, len := 4, slots := 0, floor := false }] }
    cadence := [101, 101], data := [⟨100, 300⟩], slips := 1, lowestSlip := some 50, stations := [77], streams := [100, 101] }

/-- Lane 2 with four history entries, the oldest with station 77's turn open and its tally missing. -/
def fourEntries (f : StationEntry → StationEntry) : State :=
  ({ with77 f with ready := true, now := 2031268, link := { queue := [plan8], sending := none } }.modLane 2 fun v => { v with
    history := [{ hist9 with seq := 1, turns := [⟨77, false⟩] }, { hist9 with seq := 2 }, { hist9 with seq := 3 },
      { hist9 with seq := 4 }] }).setStationRefs 77 2

/-- R9: the fifth commit evicts the oldest entry: station 77's no-show, its count and the missing tally. -/
theorem test_transmitStart_evicts :
    let t := after .transmitStart (fourEntries fun e => { e with outstanding := some (2, 1) })
    (t.lane 2).history.map (·.seq) = [2, 3, 4, 8] ∧ (t.station 77).outstanding = none ∧ (t.station 77).misses = 1 ∧
      t.stationRefs 77 = 1 ∧ (t.claim 2).missing = 1 := by decide +kernel

/-- The plan of `fullPlan` is dropped: its notice stays unmarked, the mark is cleared, G is given back and slips are told. -/
def dropping : State :=
  { (with77 fun e => { e with outstanding := some (2, 8) }).modStream 100 fun e => { e with G := 400 } with
      ready := true, now := 2032268, link := { queue := [fullPlan], sending := none } }.modLane 2 fun v => { v with
    notices := [⟨.join 1 77 0 0, some 8, false⟩] }

theorem test_transmitStart_drops :
    let t := after .transmitStart dropping
    (t.lane 2).notices = [⟨.join 1 77 0 0, none, false⟩] ∧ (t.station 77).outstanding = none ∧ (t.stream 100).G = 100 ∧
      (t.stream 101).slips = 2 ∧
      t.port.reports.map (·.body) = [.dropped 2 8 .margin 500 1, .slipped 2 8 3 (some 50)] := by decide +kernel

/-- R18: with two drops behind it the drop faults lane 2, and a plan queued behind it is dropped with no report of its own. -/
def faulting : State :=
  { dropping.modLane 2 fun v => { v with drops := 2 } with
    link := { queue := [fullPlan, { plan8 with data := [⟨100, 60⟩] }], sending := none } }

theorem test_transmitStart_faults :
    let t := after .transmitStart faulting
    (t.lane 2).state = .faulted ∧ (t.lane 2).history = [] ∧ (t.lane 2).notices = [] ∧ t.link.queue.length = 0 ∧
      (t.stream 100).G = 40 ∧ (t.station 77).paused = true ∧
      t.port.reports.map (·.body) = [.dropped 2 8 .margin 500 3, .slipped 2 8 3 (some 50), .laneFaulted 2 3 1] := by decide +kernel

theorem witness_WaitingSpanIsSkippedAtItsExpiry_drop :
    let s := faulting
    (s.resetPin = false ∧ s.tablesCanonical ∧ s.ready = true ∧
      s.link = { queue := fullPlan :: [{ plan8 with data := [⟨100, 60⟩] }], sending := none } ∧ fullPlan.record.lane = 2 ∧
      (s.lane 2).state = .live ∧ (s.lane 2).setup = some setup2 ∧ (fullPlan.record.start - s.now).toInt < setup2.Df ∧
      setup2.Dl ≤ min ((s.lane 2).drops + 1) 15 ∧ (s.lane 2).counters.slips ≤ 4294967295 ∧ s.port.reports.length < 62) ∧
    (∀ t, (s.station t).checks = true) ∧ ∀ i, (s.stream i).checks = true :=
  ⟨by decide +kernel, stations_check _ (by decide +kernel), streams_check _ (by decide +kernel)⟩

/-- A committed and a dropped plan, one tu apart: with Df of margin and with one less. -/
theorem witness_TransmitStartCommitsOrDrops :
    (∀ now ∈ [(2031768 : Time), 2031769],
      let s := { run0 with now := now, ready := true, link := { queue := [plan8], sending := none } }
      (s.resetPin = false ∧ s.tablesCanonical ∧ s.ready = true ∧ s.link = { queue := plan8 :: [], sending := none } ∧
        plan8.record.lane = 2 ∧ (s.lane 2).state = .live ∧ (s.lane 2).setup = some setup2 ∧ plan8.expired = false ∧
        (s.lane 2).history.length < 4 ∧ min ((s.lane 2).drops + 1) 15 < setup2.Dl ∧
        (((setup2.Df : Int) ≤ (plan8.record.start - s.now).toInt ∧ now = 2031768) ∨
          ((plan8.record.start - s.now).toInt < setup2.Df ∧ now = 2031769)) ∧
        (plan8.data.map (·.stream)).Nodup) ∧ (∀ t, (s.station t).checks = true) ∧ ∀ i, (s.stream i).checks = true) ∧
    (let s := dropping
     (s.tablesCanonical ∧ s.link = { queue := fullPlan :: [], sending := none } ∧ (s.lane 2).state = .live ∧
       min ((s.lane 2).drops + 1) 15 < setup2.Dl ∧ (fullPlan.record.start - s.now).toInt < setup2.Df ∧
       (s.stream 100).state = .inUse ∧ (s.stream 101).state = .inUse ∧ fullPlan.stations.Nodup ∧ fullPlan.streams.Nodup ∧
       (fullPlan.data.map (·.stream)).Nodup ∧ (∀ t ∈ fullPlan.stations, (s.station t).state ≠ .releasing)) ∧
     (∀ t, (s.station t).checks = true) ∧ ∀ i, (s.stream i).checks = true) ∧
    (let s := fourEntries id
     (s.tablesCanonical ∧ s.ready = true ∧ s.link = { queue := plan8 :: [], sending := none } ∧ (s.lane 2).state = .live ∧
       plan8.expired = false ∧ (setup2.Df : Int) ≤ (plan8.record.start - s.now).toInt ∧ 4 ≤ (s.lane 2).history.length ∧
       (s.lane 2).history.head? = some { hist9 with seq := 1, turns := [⟨77, false⟩] } ∧ (s.station 77).state.kept = true ∧
       (s.station 77).paused = false ∧ 0 < hist9.slots ∧ hist9.tallyArrived = false ∧ (s.claim 2).mode = .tracking) ∧
     (∀ t, (s.station t).checks = true) ∧ ∀ i, (s.stream i).checks = true) := by
  refine ⟨?_, ⟨by decide +kernel, stations_check _ (by decide +kernel), streams_check _ (by decide +kernel)⟩,
    by decide +kernel, stations_check _ (by decide +kernel), streams_check _ (by decide +kernel)⟩
  intro now h
  simp only [List.mem_cons, List.not_mem_nil, or_false] at h
  obtain rfl | rfl := h
  · exact ⟨by decide +kernel, stations_check _ (by decide +kernel), streams_check _ (by decide +kernel)⟩
  · exact ⟨by decide +kernel, stations_check _ (by decide +kernel), streams_check _ (by decide +kernel)⟩

/-- A command on each of two states that meet the invariants, one of them with a draft, a queue and a record being sent. -/
def busy : State :=
  { drafting { draft8 .leftover with turns := [{ kind := .claim, tag := 0, slot := 0, start := 0, len := 24, slots := 12, floor := true }] } with
    link := { queue := [plan8], sending := some plan8.record } }

theorem witness_EveryStepKeepsTheControlPort : (queued 8 64).gateSound ∧ (queued 8 64).queuesBounded := by decide +kernel

theorem witness_EveryStepKeepsThePartState : busy.partFollowsLanes ∧ config0.partFollowsLanes :=
  ⟨(by decide +kernel : ¬busy.allIdle), (by decide +kernel : config0.allIdle)⟩

theorem witness_EveryStepKeepsPlannedBytesWithinDemand :
    busy.tablesCanonical ∧ busy.demandSound ∧
    ({ State.reset with integrity := { State.reset.integrity with
      memTest := some { next := some (testStart .station), words := [] } } } : State).testWordsCanonical := by
  refine ⟨by decide +kernel, by decide +kernel, fun m h => ?_⟩
  cases h
  rfl

theorem witness_EveryStepKeepsTargetsInRange : busy.claimsSound := by decide +kernel

theorem witness_EveryStepKeepsTurnsApart :
    busy.plansShaped ∧ ∃ t, step (busy.withPending [.stageDLeftoverClaims]) = .next t :=
  ⟨by decide +kernel, _, rfl⟩

theorem witness_FramesReadBackAsWritten :
    ((Instr.laneSetup ⟨7, 2⟩ setupBody).wellFormed = true ∧ (requestFrame (.laneSetup ⟨7, 2⟩ setupBody)).isSome = true) ∧
    (let c := Instr.bid (head9 20) (32768 + 77) 7 15 1048575 2
     c.wellFormed = true ∧ (recordFrame c).isSome = true ∧ c.recordHead = some (head9 20) ∧
       (recordFrame c).map (fun r => r.2.length) = some (head9 20).frameLen) := by decide +kernel

end Sys2Proof.Tests
end

section
/-! PROOFS. How a request reaches its own rule and is answered (R163 to R165), and which lane its lane byte names (R13). -/

namespace Sys2Proof.Machine

/-! ### Requests -/

/-- With the pin released, the frame end of a frame in progress makes step 3 on the state of steps 1 and 2, and then step 4. -/
theorem State.frameEnd_of_atStep3 {s d : State} {n : Nat} (take : State → State) (h : s.atStep3 n d) :
    s.unlessReset (State.frameEnd n take) = .next ((take d).gateStep).closeFrame := by
  obtain ⟨pin, o, frame, rfl⟩ := h
  rw [State.unlessReset_free _ _ pin, State.frameEnd, frame]

/-- A request that finds a place for its reply, in CONFIG or RUNNING, is answered by its own rule. -/
theorem State.takeRequest_of_open {d : State} (kind reference : Byte) (own : State → Answer) (h : d.open_) :
    State.takeRequest kind reference own d = d.answer kind reference own := by
  obtain ⟨room, part | part⟩ := h <;> simp [State.takeRequest, State.unlessLost, Nat.not_le.2 room, part]

/-- What the host sees of such a request: the state its own rule gives, replied to. -/
theorem State.request_of_open {s d : State} {kind : Byte} {len : Nat} {req : Req} {own : State → Answer} {a : Answer}
    (h : s.atStep3 (4 + len + req.extra) d) (ho : d.open_) (ha : own d = a) :
    s.request kind len req own = .next (a.state.replied kind req.reference a.outcome a.body) := by
  rw [State.request, State.frameEnd_of_atStep3 _ h, State.takeRequest_of_open _ _ _ ho, State.answer, ha]
  rfl

theorem State.request_refused {s d : State} {kind : Byte} {len : Nat} {req : Req} {own : State → Answer} {o : ReqOutcome}
    (h : s.atStep3 (4 + len + req.extra) d) (ho : d.open_) (ha : own d = refuse o d) :
    s.request kind len req own = .next (d.replied kind req.reference o .empty) :=
  State.request_of_open h ho ha

theorem State.request_done {s d t : State} {kind : Byte} {len : Nat} {req : Req} {own : State → Answer} {body : ReplyBody}
    (h : s.atStep3 (4 + len + req.extra) d) (ho : d.open_) (ha : own d = carryOut body t) :
    s.request kind len req own = .next (t.replied kind req.reference .done body) :=
  State.request_of_open h ho ha

/-! ### Lane bytes -/

theorem laneOfByte_of_above {b : Byte} (h : 7 < b.toNat) : laneOfByte b = none := by
  simp [laneOfByte, Nat.not_lt.2 (Nat.succ_le_of_lt h)]

theorem laneOfByte_of_eq {b : Byte} {l : LaneId} (h : b.toNat = l.val) : laneOfByte b = some l := by
  simp [laneOfByte, h]

end Sys2Proof.Machine
end

section
/-! PROOFS. Reset, plant time, and the timed events of lanes, of the gate and of the due queue. -/

namespace Sys2Proof.Machine

/-! ### The place in the due queue (R58) -/

theorem mem_insertDue (fresh : List Nat) (t k : Nat) (l : List Nat) : k ∈ insertDue fresh t l ↔ k = t ∨ k ∈ l := by
  induction l with
  | nil => simp [insertDue]
  | cons m rest ih =>
    unfold insertDue
    split
    · simp only [List.mem_cons]
    · simp only [List.mem_cons, ih]
      tauto

theorem filter_ne_of_not_mem {t : Nat} {l : List Nat} (h : t ∉ l) : l.filter (fun k => k ≠ t) = l :=
  List.filter_eq_self.2 fun _ hk => decide_eq_true fun e => h (e ▸ hk)

/-- A joining tag moves no other member. -/
theorem insertDue_filter (fresh : List Nat) {t : Nat} {l : List Nat} (h : t ∉ l) :
    (insertDue fresh t l).filter (fun k => k ≠ t) = l := by
  induction l with
  | nil => simp [insertDue]
  | cons m rest ih =>
    have hm : decide (m ≠ t) = true := decide_eq_true fun e => h (e ▸ List.mem_cons_self)
    have hrest : t ∉ rest := fun hk => h (List.mem_cons_of_mem _ hk)
    unfold insertDue
    split
    · rw [List.filter_cons_of_neg (by simp), filter_ne_of_not_mem h]
    · rw [List.filter_cons_of_pos (p := fun k => decide (k ≠ t)) hm, ih hrest]

/-- A joining tag stands behind the members that joined at an earlier plant time. -/
theorem insertDue_append {fresh old : List Nat} (t : Nat) (new : List Nat) (h : ∀ k ∈ old, k ∉ fresh) :
    insertDue fresh t (old ++ new) = old ++ insertDue fresh t new := by
  induction old with
  | nil => rfl
  | cons m rest ih =>
    have hm : m ∉ fresh := h m List.mem_cons_self
    simp [insertDue, hm, ih fun k hk => h k (List.mem_cons_of_mem _ hk)]

/-- Among the members that joined at the present plant time it stands in tag order. -/
theorem insertDue_sorted {fresh new : List Nat} {t : Nat} (h : ∀ k ∈ new, k ∈ fresh) (ht : t ∉ new)
    (sorted : new.Pairwise (· < ·)) :
    insertDue fresh t new = new.filter (fun k => k < t) ++ [t] ++ new.filter (fun k => t < k) := by
  induction new with
  | nil => simp [insertDue]
  | cons m rest ih =>
    obtain ⟨least, sorted'⟩ := List.pairwise_cons.1 sorted
    obtain ⟨hm, hrest⟩ := not_or.1 (List.mem_cons.not.1 ht)
    have fresh_m : m ∈ fresh := h m List.mem_cons_self
    rcases Nat.lt_or_gt_of_ne hm with lt | gt
    · have above : ∀ k ∈ rest, t < k := fun k hk => lt.trans (least k hk)
      have none_below : rest.filter (fun k => k < t) = [] :=
        List.filter_eq_nil_iff.2 fun k hk => by simpa using (above k hk).le
      have all_above : rest.filter (fun k => t < k) = rest :=
        List.filter_eq_self.2 fun k hk => decide_eq_true (above k hk)
      simp [insertDue, fresh_m, lt, none_below, all_above, Nat.not_lt.2 lt.le]
    · simp [insertDue, gt, Nat.not_lt.2 gt.le, ih (fun k hk => h k (List.mem_cons_of_mem _ hk)) hrest sorted']

/-- A station not in the due queue joins it. -/
theorem State.joinDue_of_not_mem {s : State} {t : Nat} (h : t ∉ s.align.dueQueue) :
    s.joinDue t = { s with align := { s.align with
      dueQueue := insertDue (s.align.dueFresh.filter fun k => k ≠ t) t s.align.dueQueue
      dueFresh := t :: s.align.dueFresh.filter fun k => k ≠ t } } := by
  simp only [State.joinDue, State.leaveDue, filter_ne_of_not_mem h]

end Sys2Proof.Machine

open Sys2Proof Sys2Proof.Machine

/-- Settles O3: every table of `State.reset` is empty and every array one repeated value. -/
theorem resetLeavesTheStatedValues : Obligations.ResetLeavesTheStatedValues := by
  have lanes : ∀ l : LaneId, State.reset.lane l = Lane.reset := fun l => by simp [State.lane, State.reset]
  have marks : ∀ l : LaneId, (State.reset.rx l).watermark = 0 := fun l => by simp [State.rx, State.reset, RxPort.reset]
  have claims : ∀ l : LaneId, State.reset.claim l = Claim.reset := fun l => by simp [State.claim, State.reset]
  have shares : ∀ l : LaneId, State.reset.shareSum l = 0 := fun l => by
    simp [State.shareSum, State.reset, StreamTable.reset]
  have lists : ∀ (l : LaneId) (k : Fin 4), State.reset.list l k = [] := fun l k => by
    simp [State.list, State.reset, StreamTable.reset]
  exact ⟨rfl, fun l => ⟨lanes l, by rw [lanes]; rfl, by rw [lanes]; rfl, marks l⟩, claims, rfl, rfl, fun _ => rfl, rfl, rfl,
    fun _ => rfl, fun _ => rfl, shares, lists, fun _ => rfl, fun _ => rfl, rfl, rfl, rfl, rfl, rfl, rfl, rfl, rfl, rfl, rfl,
    rfl⟩

/-- Settles O4: with the pin released the command has its effect, which is one record update. -/
theorem plantTimeCountAddsOne : Obligations.PlantTimeCountAddsOne := by
  intro s pin
  exact s.unlessReset_free (fun s => { s with now := s.now + 1, align := { s.align with dueFresh := [] } }) pin

/-- Settles O25: the guard of the handover holds, and the span handed over is the one R5 gives. -/
theorem spanIsHandedOverAtItsBuildPoint : Obligations.SpanIsHandedOverAtItsBuildPoint := by
  intro s l u start pin live setup hstart due
  have span : s.spanOf l (s.lane l).nextSpan =
      { lane := l, index := (s.lane l).nextSpan, start := start, buildPoint := s.now } := by
    simp [State.spanOf, State.setupOf, setup, spanStart, tu, ← hstart, ← due]
  have handed : exec (.spanHandover l) s = .next (s.handOver l) := s.unlessReset_free _ pin
  rw [handed, State.handOver, span, if_pos ⟨live, rfl⟩]
  rfl

/-- Settles O44: each event's guard holds at its time; a joining tag's place is `insertDue`'s. -/
theorem timedEventsActAtTheirTimes : Obligations.TimedEventsActAtTheirTimes := by
  intro s pin
  refine ⟨fun l covered => ?_, fun gate holdoff => ?_, ?_⟩
  · have ended : exec (.coveredUntilExpiry l) s = .next (s.endCovered l) := s.unlessReset_free _ pin
    rw [ended, State.endCovered, if_pos covered]
    rfl
  · have ended : exec .holdoffExpiry s = .next s.endHoldoff := s.unlessReset_free _ pin
    rw [ended, State.endHoldoff, if_pos ⟨gate, holdoff⟩]
    simp
  · rintro tag t rfl due kept absent checks
    have joined : exec (.maintenanceDue tag) s = .next (s.joinDue tag.toNat) := by
      have acts : exec (.maintenanceDue tag) s = .next (s.becomeDue tag.toNat) := s.unlessReset_free _ pin
      rw [acts, State.becomeDue, if_pos ⟨due, kept, absent⟩, s.checkStation_passes _ _ checks, if_pos kept]
    refine ⟨_, joined.trans (by rw [State.joinDue_of_not_mem absent]), (mem_insertDue ..).2 (.inl rfl),
      insertDue_filter _ absent, ?_⟩
    intro old new split notFresh fresh sorted
    have absent_new : tag.toNat ∉ new := fun m => absent (split ▸ List.mem_append_right _ m)
    have fresh_filtered : ∀ k ∈ new, k ∈ s.align.dueFresh.filter fun j => j ≠ tag.toNat := fun k hk =>
      List.mem_filter.2 ⟨fresh k hk, decide_eq_true fun (e : k = tag.toNat) => absent_new (e ▸ hk)⟩
    rw [split, insertDue_append _ _ fun k hk m => notFresh k hk (List.mem_filter.1 m).1,
      insertDue_sorted fresh_filtered absent_new sorted]
    simp only [List.append_assoc]
end

section
/-! PROOFS. LANE_SETUP: the checks of R3 and the clamps of R4. -/

namespace Sys2Proof.Machine

/-- The bodies that a check of R3 refuses with BAD_VALUE. -/
def setupOutOfRange (b : LaneSetupBody) : Prop :=
  b.Lq.toNat < 16 ∨ 512 < b.Lq.toNat ∨ b.S.toNat < 128 ∨ 2048 < b.S.toNat ∨ 262144 < b.S.toNat * b.Lq.toNat ∨
    b.bpq.toNat < 4 ∨ 128 < b.bpq.toNat ∨ 8 < b.P.toNat ∨ b.b.toNat < 1 ∨ 8 < b.b.toNat ∨ b.Ld.toNat < 1600 ∨
    80000 < b.Ld.toNat ∨ b.Ba.toNat < 160 ∨ 16000 < b.Ba.toNat ∨ b.Pmax.toNat < b.Pmin.toNat ∨ 768 < b.Rc.toNat

/-- The range checks come first, and the share sum's last. -/
theorem setupRefusal_of_outOfRange {b : LaneSetupBody} (shares : Nat) (h : setupOutOfRange b) :
    setupRefusal b shares = some .badValue := by
  unfold setupRefusal
  unfold setupOutOfRange at h
  split_ifs <;> first | rfl | omega

theorem setupRefusal_of_inRange {b : LaneSetupBody} (shares : Nat) (h : ¬setupOutOfRange b) :
    setupRefusal b shares = if b.Rc.toNat < shares then some .noRoom else none := by
  unfold setupRefusal
  unfold setupOutOfRange at h
  split_ifs <;> first | rfl | omega

/-- A clamp into a range that is not empty. -/
theorem clampN_eq {lo hi : Nat} (x : Nat) (h : lo ≤ hi) : clampN lo hi x = max lo (min x hi) := by
  unfold clampN
  split_ifs <;> omega

/-- The ranges of R4's clamps are not empty where the checks of R3 pass. -/
theorem setupClamp_eq {b : LaneSetupBody} (hS : 128 ≤ b.S.toNat) (hP : b.P.toNat ≤ 8) :
    setupClamp b =
      { Lq := b.Lq.toNat, S := b.S.toNat, bpq := b.bpq.toNat, P := b.P.toNat, b := b.b.toNat, Ld := b.Ld.toNat,
        Ba := b.Ba.toNat, Wm := min b.Wm.toNat b.Ld.toNat, Df := min b.Df.toNat (min b.Wm.toNat b.Ld.toNat),
        Ao := b.Ao.toNat, Wo := max 8 (min b.Wo.toNat (min 512 (b.S.toNat / 2))),
        Ua := max (b.P.toNat + 2) (min b.Ua.toNat 64), Umax := min b.Umax.toNat 16, Od := min b.Od.toNat 1048575,
        Pmin := b.Pmin.toNat, Pmax := b.Pmax.toNat, Rc := b.Rc.toNat, Dl := max 1 (min b.Dl.toNat 15) } := by
  have wo : 8 ≤ min 512 (b.S.toNat / 2) := by omega
  have ua : b.P.toNat + 2 ≤ 64 := by omega
  simp [setupClamp, clampN_eq, wo, ua]

/-- The rule of LANE_SETUP on an IDLE lane, where a check of R3 fails and where none does. -/
theorem laneSetupRule_refused {d : State} {b : LaneSetupBody} {l : LaneId} {o : ReqOutcome} (hl : b.lane.toNat = l.val)
    (hi : (d.lane l).state = .idle) (hr : setupRefusal b (d.shareSum l) = some o) :
    laneSetupRule b d = refuse o d := by
  simp [laneSetupRule, laneOfByte_of_eq hl, hi, hr]

theorem laneSetupRule_done {d : State} {b : LaneSetupBody} {l : LaneId} (hl : b.lane.toNat = l.val)
    (hi : (d.lane l).state = .idle) (hr : setupRefusal b (d.shareSum l) = none) :
    laneSetupRule b d =
      carryOut (.laneSetup (setupClamp b)) (d.setLane l { d.lane l with setup := some (setupClamp b) }) := by
  simp [laneSetupRule, laneOfByte_of_eq hl, hi, hr, State.modLane]

end Sys2Proof.Machine

open Sys2Proof Sys2Proof.Machine

/-- Settles O21: each clause is one branch of the rule, the range checks before the share sum's. -/
theorem laneSetupRefusals : Obligations.LaneSetupRefusals := by
  intro s d req b h ho
  refine ⟨fun hb => ?_, fun l hl => ⟨fun hs => ?_, fun hi hr => ?_, fun hi hr hc => ?_⟩⟩
  · refine State.request_refused h ho (o := .badValue) ?_
    simp [laneSetupRule, laneOfByte_of_above hb]
  · refine State.request_refused h ho (o := .badState) ?_
    simp [laneSetupRule, laneOfByte_of_eq hl, hs]
  · refine State.request_refused h ho (o := .badValue) ?_
    exact laneSetupRule_refused hl hi (setupRefusal_of_outOfRange _ hr)
  · refine State.request_refused h ho (o := .noRoom) ?_
    exact laneSetupRule_refused hl hi (by rw [setupRefusal_of_inRange _ hr, if_pos hc])

/-- Settles O20: no check of R3 fails, and the clamps of R4 give the eighteen values. -/
theorem laneSetupPutsClampedValuesInForce : Obligations.LaneSetupPutsClampedValuesInForce := by
  intro s d req b l h ho hl hi _ _ hS _ _ _ _ hP _ _ _ _ _ _ _ _ hc
  have inRange : ¬setupOutOfRange b := by unfold setupOutOfRange; omega
  have accepted : setupRefusal b (d.shareSum l) = none := by
    rw [setupRefusal_of_inRange _ inRange, if_neg (Nat.not_lt.2 hc)]
  exact ⟨setupClamp b, setupClamp_eq hS hP, State.request_done h ho (laneSetupRule_done hl hi accepted)⟩
end

section
/-! PROOFS. The rules of LANE_START, LANE_STOP and LANE_READ (R13 to R15, R20): one lemma for each of their answers. -/

namespace Sys2Proof.Machine

variable {d : State} {b : Byte} {l : LaneId}

/-! ### LANE_START -/

theorem laneStartRule_badState (hl : b.toNat = l.val)
    (h : (d.lane l).state = .live ∨ (d.lane l).state = .draining ∨ ((d.lane l).state = .idle ∧ (d.lane l).setup = none)) :
    laneStartRule b d = refuse .badState d := by
  rcases h with h | h | ⟨h, hs⟩
  · simp [laneStartRule, laneOfByte_of_eq hl, h]
  · simp [laneStartRule, laneOfByte_of_eq hl, h]
  · simp [laneStartRule, laneOfByte_of_eq hl, h, hs]

/-- The lane is one that LANE_START may make LIVE: FAULTED, or IDLE and set (R14). -/
def Lane.startable (v : Lane) : Prop := v.state = .faulted ∨ (v.state = .idle ∧ v.setup.isSome = true)

theorem laneStartRule_busy (hl : b.toNat = l.val) (h : (d.lane l).startable)
    (hb : d.building l = true ∨ (d.lane l).coveredUntil.isSome = true) :
    laneStartRule b d = refuse .busy d := by
  rcases h with h | ⟨h, hs⟩ <;> rcases hb with hb | hb
  · simp [laneStartRule, laneOfByte_of_eq hl, h, hb]
  · simp [laneStartRule, laneOfByte_of_eq hl, h, hb]
  · simp [laneStartRule, laneOfByte_of_eq hl, h, hb, Option.isSome_iff_ne_none.1 hs]
  · simp [laneStartRule, laneOfByte_of_eq hl, h, hb, Option.isSome_iff_ne_none.1 hs]

theorem laneStartRule_done (hl : b.toNat = l.val) (h : (d.lane l).startable) (hb : d.building l = false)
    (hc : (d.lane l).coveredUntil = none) :
    laneStartRule b d = carryOut (.laneStart d.now ((d.startLane l).lane l).start0) (d.startLane l) := by
  rcases h with h | ⟨h, hs⟩
  · simp [laneStartRule, laneOfByte_of_eq hl, h, hb, hc]
  · simp [laneStartRule, laneOfByte_of_eq hl, h, hb, hc, Option.isSome_iff_ne_none.1 hs]

/-! ### LANE_STOP -/

theorem laneStopRule_badState (hl : b.toNat = l.val) (h : (d.lane l).state = .idle ∨ (d.lane l).state = .draining) :
    laneStopRule b d = refuse .badState d := by
  rcases h with h | h
  · simp [laneStopRule, laneOfByte_of_eq hl, h]
  · simp [laneStopRule, laneOfByte_of_eq hl, h]

theorem laneStopRule_live (hl : b.toNat = l.val) (h : (d.lane l).state = .live) :
    laneStopRule b d = carryOut .empty (d.stopLive l) := by
  simp [laneStopRule, laneOfByte_of_eq hl, h]

theorem laneStopRule_faulted (hl : b.toNat = l.val) (h : (d.lane l).state = .faulted) :
    laneStopRule b d = carryOut .empty (d.stopFaulted l) := by
  simp [laneStopRule, laneOfByte_of_eq hl, h]

/-! ### LANE_READ -/

/-- A build of the lane is in progress when the draft is the lane's. -/
theorem State.building_eq_any (s : State) (l : LaneId) : s.building l = s.builder.draft.any fun x => x.lane == l := by
  unfold State.building
  cases s.builder.draft <;> rfl

theorem laneReadRule_done (hl : b.toNat = l.val) : laneReadRule b d = carryOut (.laneRead (d.laneView l)) d := by
  simp [laneReadRule, laneOfByte_of_eq hl]

end Sys2Proof.Machine

open Sys2Proof Sys2Proof.Machine

/-- Settles O23: each clause is one branch of the three rules. -/
theorem laneRequestRefusalsAndRead : Obligations.LaneRequestRefusalsAndRead := by
  intro s d req b h ho
  refine ⟨fun hb => ⟨?_, ?_, ?_⟩, fun l hl => ⟨fun hs => ?_, fun hs hb => ?_, fun hs => ?_, ?_⟩⟩
  · exact State.request_refused h ho (o := .badValue) (by simp [laneStartRule, laneOfByte_of_above hb])
  · exact State.request_refused h ho (o := .badValue) (by simp [laneStopRule, laneOfByte_of_above hb])
  · exact State.request_refused h ho (o := .badValue) (by simp [laneReadRule, laneOfByte_of_above hb])
  · exact State.request_refused h ho (laneStartRule_badState hl hs)
  · exact State.request_refused h ho (laneStartRule_busy hl hs hb)
  · exact State.request_refused h ho (laneStopRule_badState hl hs)
  · rw [← State.building_eq_any]
    exact State.request_done h ho (laneReadRule_done hl)
end

section
/-! PROOFS. What the shared operations over the tables leave as it was: plant time, the ports and Claim Controllers, the builder,
the link, the part state, the settings, and of every lane all but its notices. -/

namespace Sys2Proof.Machine

/-- What every operation over the stations, the streams, their references, the due queue and the report queue leaves as it was.
A lane's notices may leave it, and one that holds none is given none. -/
structure State.Keeps (s t : State) : Prop where
  now : t.now = s.now
  ports : t.ports = s.ports
  claims : t.claims = s.claims
  builder : t.builder = s.builder
  link : t.link = s.link
  part : t.port.part = s.port.part
  settings : t.align.settings = s.align.settings
  lane : ∀ m, t.lane m = { s.lane m with notices := (t.lane m).notices }
  notices : ∀ m, (s.lane m).notices = [] → (t.lane m).notices = []

namespace State.Keeps

theorem refl (s : State) : s.Keeps s := ⟨rfl, rfl, rfl, rfl, rfl, rfl, rfl, fun _ => rfl, fun _ h => h⟩

theorem trans {s t u : State} (h : s.Keeps t) (k : t.Keeps u) : s.Keeps u where
  now := k.now.trans h.now
  ports := k.ports.trans h.ports
  claims := k.claims.trans h.claims
  builder := k.builder.trans h.builder
  link := k.link.trans h.link
  part := k.part.trans h.part
  settings := k.settings.trans h.settings
  lane m := by rw [k.lane m, h.lane m]
  notices m e := k.notices m (h.notices m e)

/-- An operation that writes the tables, the due queue, the Integrity Unit and the queues of the Control Port alone. -/
theorem of_tables {s t : State}
    (h : t = { s with
      stations := t.stations, align := { t.align with settings := s.align.settings }, streams := t.streams, refs := t.refs
      integrity := t.integrity, port := { t.port with part := s.port.part } }) : s.Keeps t := by
  rw [h]
  exact ⟨rfl, rfl, rfl, rfl, rfl, rfl, rfl, fun _ => rfl, fun _ e => e⟩

/-- What each step of a walk keeps, the walk keeps. -/
theorem foldl {α : Type} {f : State → α → State} (step : ∀ (s : State) (a : α), s.Keeps (f s a)) (l : List α) (s : State) :
    s.Keeps (l.foldl f s) :=
  List.foldlRecOn l f (refl s) fun _ h a _ => h.trans (step _ a)

/-- Of a choice that keeps, and of none, what keeps. -/
theorem ite {p : Prop} [Decidable p] {s t u : State} (ht : p → s.Keeps t) (hu : ¬p → s.Keeps u) :
    s.Keeps (if p then t else u) := by
  split
  · exact ht ‹_›
  · exact hu ‹_›

end State.Keeps

namespace State

variable (s : State)

/-! ### Single writes -/

theorem keeps_putStation (t : Nat) (e : StationEntry) : s.Keeps (s.putStation t e) := .of_tables rfl
theorem keeps_modStation (t : Nat) (f : StationEntry → StationEntry) : s.Keeps (s.modStation t f) := .of_tables rfl
theorem keeps_putStream (i : Nat) (e : StreamEntry) : s.Keeps (s.putStream i e) := .of_tables rfl
theorem keeps_modStream (i : Nat) (f : StreamEntry → StreamEntry) : s.Keeps (s.modStream i f) := .of_tables rfl
theorem keeps_setReserved (i : Nat) (r : Reserved) : s.Keeps (s.setReserved i r) := .of_tables rfl
theorem keeps_setShareSum (l : LaneId) (n : Nat) : s.Keeps (s.setShareSum l n) := .of_tables rfl
theorem keeps_setStationRefs (t n : Nat) : s.Keeps (s.setStationRefs t n) := .of_tables rfl
theorem keeps_setStreamRefs (i n : Nat) : s.Keeps (s.setStreamRefs i n) := .of_tables rfl
theorem keeps_noteQuarantine (t : Nat) : s.Keeps (s.noteQuarantine t) := .of_tables rfl
theorem keeps_forgetQuarantine (t : Nat) : s.Keeps (s.forgetQuarantine t) := .of_tables rfl
theorem keeps_setList (l : LaneId) (k : Fin 4) (v : List Nat) : s.Keeps (s.setList l k v) := .of_tables rfl
theorem keeps_setJoined (l : LaneId) (v : List Nat) : s.Keeps (s.setJoined l v) := .of_tables rfl
theorem keeps_leaveDue (t : Nat) : s.Keeps (s.leaveDue t) := .of_tables rfl
theorem keeps_joinDue (t : Nat) : s.Keeps (s.joinDue t) := .of_tables rfl
theorem keeps_setDueNow (t : Nat) : s.Keeps (s.setDueNow t) := (s.keeps_modStation t _).trans (keeps_joinDue _ t)

theorem keeps_raise (b : ReportBody) : s.Keeps (s.raise b) := .ite (fun _ => .of_tables rfl) (fun _ => .of_tables rfl)

theorem keeps_tallyScrub (f : Finder) (g : Scrub → Scrub) : s.Keeps (s.tallyScrub f g) :=
  .ite (fun _ => .of_tables rfl) (fun _ => .refl s)

/-- A write of a lane's notices alone that gives none to a lane that has none. -/
theorem keeps_modLane {f : Lane → Lane} (l : LaneId) (frame : ∀ v, f v = { v with notices := (f v).notices })
    (empty : ∀ v, v.notices = [] → (f v).notices = []) : s.Keeps (s.modLane l f) where
  now := rfl
  ports := rfl
  claims := rfl
  builder := rfl
  link := rfl
  part := rfl
  settings := rfl
  lane m := by
    by_cases h : m = l
    · subst h
      rw [s.lane_modLane_same, ← frame]
    · rw [s.lane_modLane_other l m f h]
  notices m e := by
    by_cases h : m = l
    · subst h
      rw [s.lane_modLane_same]
      exact empty _ e
    · rw [s.lane_modLane_other l m f h, e]

theorem keeps_mapNotices (l : LaneId) (f : Notice → Notice) : s.Keeps (s.mapNotices l f) :=
  s.keeps_modLane l (fun _ => rfl) fun v e => by simp [e]

theorem keeps_dropNoticesOf (t : Nat) : s.Keeps (s.dropNoticesOf t) :=
  .foldl (fun s l => s.keeps_modLane l (fun _ => rfl) fun v e => by simp [e]) _ _

/-! ### Streams and their lists -/

theorem keeps_joinList (l : LaneId) (k : Fin 4) (i : Nat) : s.Keeps (s.joinList l k i) :=
  .ite (fun _ => .refl s) fun _ => (s.keeps_setList l k _).trans (keeps_setJoined _ l _)

theorem keeps_joinLists (i : Nat) : s.Keeps (s.joinLists i) := .foldl (fun s l => s.keeps_joinList l _ i) _ _

theorem keeps_leaveLists (i : Nat) : s.Keeps (s.leaveLists i) := by
  rw [State.leaveLists_service]
  exact .of_tables rfl

theorem keeps_clearDemand (i : Nat) : s.Keeps (s.clearDemand i) := (s.keeps_modStream i _).trans (keeps_leaveLists _ i)
theorem keeps_freeStream (i : Nat) : s.Keeps (s.freeStream i) := (s.keeps_leaveLists i).trans (keeps_putStream _ i _)

theorem keeps_settleStream (i : Nat) : s.Keeps (s.settleStream i) := .ite (fun _ => s.keeps_freeStream i) (fun _ => .refl s)

theorem keeps_dropReference (i : Nat) : s.Keeps (s.dropReference i) := by
  unfold State.dropReference
  split
  · exact s.keeps_modStation _ _
  · exact .refl s

theorem keeps_dropShare (i : Nat) : s.Keeps (s.dropShare i) :=
  (s.keeps_setShareSum _ _).trans (keeps_setReserved _ i _)

theorem keeps_removeStream (i : Nat) : s.Keeps (s.removeStream i) :=
  (s.keeps_dropReference i).trans <| (keeps_leaveLists _ i).trans <| (keeps_clearDemand _ i).trans <|
    (keeps_modStream _ i _).trans <| (keeps_dropShare _ i).trans <| (keeps_modStream _ i _).trans (keeps_settleStream _ i)

/-! ### Stations -/

theorem keeps_freeStation (t : Nat) : s.Keeps (s.freeStation t) :=
  (s.keeps_putStation t _).trans <| (keeps_leaveDue _ t).trans <| (Keeps.of_tables rfl).trans (keeps_dropNoticesOf _ t)

theorem keeps_settleStation (t : Nat) : s.Keeps (s.settleStation t) := .ite (fun _ => s.keeps_freeStation t) (fun _ => .refl s)

theorem keeps_lowerStation (t : Nat) : s.Keeps (s.lowerStation t) :=
  (s.keeps_setStationRefs t _).trans (keeps_settleStation _ t)

theorem keeps_lowerStream (i : Nat) : s.Keeps (s.lowerStream i) :=
  (s.keeps_setStreamRefs i _).trans (keeps_settleStream _ i)

theorem keeps_lowerRefs (stations streams : List Nat) : s.Keeps (s.lowerRefs stations streams) :=
  (Keeps.foldl keeps_lowerStation stations s).trans (.foldl keeps_lowerStream streams _)

theorem keeps_tidyRefs (t : Nat) : s.Keeps (s.tidyRefs t) := .foldl (fun s _ => s.keeps_modStation t _) _ _
theorem keeps_clearStreams (t : Nat) : s.Keeps (s.clearStreams t) := .foldl keeps_clearDemand _ _

theorem keeps_release (t : Nat) (cause : Cause) : s.Keeps (s.release t cause) :=
  (Keeps.of_tables rfl : s.Keeps
      { s with stations := { s.stations with joinMap := s.stations.joinMap.filter (fun m => m.2 ≠ t) } }).trans <|
    (keeps_forgetQuarantine _ t).trans <| (keeps_modStation _ t _).trans <| (Keeps.foldl keeps_removeStream _ _).trans <|
    (keeps_modStation _ t _).trans <| (keeps_leaveDue _ t).trans <| (keeps_settleStation _ t).trans (keeps_raise _ _)

theorem keeps_enterLapsed (t : Nat) (cause : Cause) : s.Keeps (s.enterLapsed t cause) :=
  (s.keeps_modStation t _).trans <| (keeps_tidyRefs _ t).trans <| (keeps_clearStreams _ t).trans <|
    (keeps_setDueNow _ t).trans (keeps_raise _ _)

/-! ### Reads with a check (R153 to R155) -/

theorem keeps_quarantineStream (f : Finder) (i : Nat) : s.Keeps (s.quarantineStream f i) :=
  (s.keeps_modStream i _).trans <| (keeps_clearDemand _ i).trans <| (keeps_raise _ _).trans (keeps_tallyScrub _ f _)

theorem keeps_checkStream (f : Finder) (i : Nat) : s.Keeps (s.checkStream f i) := by
  refine .ite (fun _ => .refl s) fun _ => .ite (fun _ => .ite (fun _ => ?_) fun _ => ?_) fun _ => .ite (fun _ => ?_) fun _ => ?_
  · exact (s.keeps_putStream i _).trans <| (keeps_leaveLists _ i).trans (keeps_tallyScrub _ f _)
  · exact (s.keeps_freeStream i).trans (keeps_tallyScrub _ f _)
  · exact (s.keeps_putStream i _).trans (keeps_leaveLists _ i)
  · exact s.keeps_quarantineStream f i

theorem keeps_strandStream (f : Finder) (i : Nat) : s.Keeps (State.strandStream f s i) :=
  (s.keeps_checkStream f i).trans (.ite (fun _ => keeps_clearDemand _ i) (fun _ => .refl _))

theorem keeps_quarantineStation (f : Finder) (t : Nat) : s.Keeps (s.quarantineStation f t) :=
  (s.keeps_modStation t _).trans <| (keeps_noteQuarantine _ t).trans <| (keeps_leaveDue _ t).trans <|
    (Keeps.foldl (fun s i => s.keeps_strandStream f i) _ _).trans <| (keeps_raise _ _).trans (keeps_tallyScrub _ f _)

theorem keeps_resealStation (t : Nat) : s.Keeps (s.resealStation t) :=
  (s.keeps_modStation t _).trans <| (keeps_leaveDue _ t).trans (.foldl keeps_leaveLists _ _)

theorem keeps_checkStation (f : Finder) (t : Nat) : s.Keeps (s.checkStation f t) := by
  refine .ite (fun _ => .refl s) fun _ => .ite (fun _ => ?_) fun _ =>
    .ite (fun _ => .ite (fun _ => ?_) fun _ => ?_) fun _ => ?_
  · exact (s.keeps_putStation t _).trans (keeps_tallyScrub _ f _)
  · exact s.keeps_resealStation t
  · exact s.keeps_quarantineStation f t
  · exact (s.keeps_putStation t _).trans <| (keeps_leaveDue _ t).trans <| (keeps_settleStation _ t).trans (keeps_tallyScrub _ f _)

/-! ### Marks, no-shows and the entries of a history -/

theorem keeps_clearMark (l : LaneId) (q : PlanSeq) (t : Nat) : s.Keeps (s.clearMark l q t) :=
  .ite (fun _ => s.keeps_modStation t _) (fun _ => .refl s)

theorem keeps_clearMarkLink (l : LaneId) (q : PlanSeq) (t : Nat) : s.Keeps (State.clearMarkLink l q s t) :=
  (s.keeps_checkStation .link t).trans (keeps_clearMark _ l q t)

theorem keeps_noShow (l : LaneId) (t : Nat) : s.Keeps (s.noShow l t) := by
  refine .ite (fun _ => .refl s) fun _ => ?_
  split
  iterate 2
    exact (s.keeps_modStation t _).trans <|
      .ite (fun _ => (keeps_raise _ _).trans (keeps_release _ t _)) (fun _ => keeps_setDueNow _ t)
  iterate 3
    exact (s.keeps_modStation t _).trans <| .ite (fun _ => keeps_enterLapsed _ t _) (fun _ => .refl _)
  iterate 3
    exact .refl s

theorem keeps_evictTurn (l : LaneId) (q : PlanSeq) (a : AlignTurn) : s.Keeps (State.evictTurn l q s a) :=
  .ite (fun _ => .refl s) fun _ => (s.keeps_clearMarkLink l q a.tag).trans (keeps_noShow _ l a.tag)

theorem keeps_releaseEntry (l : LaneId) (h : HistEntry) : s.Keeps (State.releaseEntry l s h) :=
  (Keeps.foldl (fun s (a : AlignTurn) => s.keeps_clearMarkLink l h.seq a.tag) _ s).trans (keeps_lowerRefs _ _ _)

/-- Clearing a history writes besides the history what an operation over the tables may write. -/
theorem keeps_clearHistory (l : LaneId) : (s.modLane l fun v => { v with history := [] }).Keeps (s.clearHistory l) :=
  .foldl (fun s h => s.keeps_releaseEntry l h) _ _

/-! ### Notice queues and home lanes -/

theorem keeps_loseNotice (n : Notice) : s.Keeps (s.loseNotice n) :=
  (s.keeps_checkStation .other _).trans <|
    .ite (fun _ => (keeps_modStation _ _ _).trans (keeps_setDueNow _ _)) (fun _ => .refl _)

theorem keeps_emptyNotices (l : LaneId) : s.Keeps (s.emptyNotices l) :=
  (s.keeps_modLane (f := fun v => { v with notices := [] }) l (fun _ => rfl) fun _ _ => rfl).trans
    (.foldl keeps_loseNotice _ _)

theorem keeps_rehome (t : Nat) : s.Keeps (s.rehome t) := by
  unfold State.rehome
  split
  · exact s.keeps_modStation t _
  · exact s.keeps_modStation t _

theorem keeps_rehomeAll (l : LaneId) : s.Keeps (s.rehomeAll l) :=
  .foldl (fun s t => (s.keeps_checkStation .other t).trans (.ite (fun _ => keeps_rehome _ t) (fun _ => .refl _))) _ _

theorem keeps_resumeOn (t : Nat) (l : LaneId) : s.Keeps (s.resumeOn t l) :=
  (s.keeps_modStation t _).trans (keeps_setDueNow _ t)

theorem keeps_resumeAll (l : LaneId) : s.Keeps (s.resumeAll l) :=
  .foldl (fun s t => (s.keeps_checkStation .other t).trans (.ite (fun _ => keeps_resumeOn _ t l) (fun _ => .refl _))) _ _

/-! ### Plans committed and given back -/

theorem keeps_givePlanned (d : DataTurn) : s.Keeps (s.givePlanned d) :=
  (s.keeps_checkStream .link _).trans (keeps_modStream _ _ _)

theorem keeps_restoreData (data : List DataTurn) : s.Keeps (s.restoreData data) :=
  (Keeps.foldl keeps_givePlanned data s).trans <|
    .foldl (fun t i => .ite (fun _ => t.keeps_joinLists i) (fun _ => .refl t)) _ _

theorem keeps_clearMarks (p : PlanRecord) : s.Keeps (s.clearMarks p) :=
  (s.keeps_mapNotices _ _).trans (.foldl (fun s t => s.keeps_clearMarkLink _ _ t) _ _)

theorem keeps_commitData (d : DataTurn) : s.Keeps (s.commitData d) :=
  (s.keeps_checkStream .link _).trans (keeps_modStream _ _ _)

theorem keeps_commitStreams (p : Plan) : s.Keeps (s.commitStreams p) :=
  (Keeps.foldl keeps_commitData p.data s).trans (.foldl (fun s i => s.keeps_modStream i _) _ _)

theorem keeps_commitNotice (n : Notice) : s.Keeps (s.commitNotice n) :=
  .ite (fun _ => (s.keeps_checkStation .link _).trans (keeps_modStation _ _ _)) (fun _ => .refl s)

theorem keeps_commitNotices (p : PlanRecord) : s.Keeps (s.commitNotices p) :=
  (s.keeps_modLane (f := fun v => { v with notices := v.notices.filter fun n => n.mark != some p.seq }) p.lane
    (fun _ => rfl) fun v e => by simp [e]).trans (.foldl keeps_commitNotice _ _)

/-- A notice queue that is emptied stays empty while its stations are looked up (R12). -/
theorem emptyNotices_notices (l : LaneId) : ((s.emptyNotices l).lane l).notices = [] :=
  (Keeps.foldl keeps_loseNotice (s.lane l).notices (s.modLane l fun v => { v with notices := [] })).notices l (by simp)

end State

end Sys2Proof.Machine
end

section
/-! PROOFS. What the same operations leave as it was where every station entry passes its check: no report is raised, no station
in use loses its state, lane set, home lane or pause, and no stream IN_USE is touched. -/

namespace Sys2Proof.Machine

/-! ### Entries by index -/

/-- The listed indices of a canonical table that pass a test are those whose entry passes it, if the default does not. -/
theorem Table.mem_indices {α : Type} [DecidableEq α] {d : α} {p : α → Bool} (hd : p d = false) (k : Nat) (t : Table α)
    (w : Table.wf d t = true) : k ∈ Table.indices p t ↔ p (Table.get d k t) = true := by
  have from_ : ∀ (n : Option Nat) (t : Table α), Table.wfFrom d n t = true →
      (k ∈ Table.indices p t ↔ p (Table.get d k t) = true) := by
    intro n t w
    induction t generalizing n with
    | nil => simp [Table.indices, Table.get, hd]
    | cons r rest ih =>
      obtain ⟨j, v⟩ := r
      obtain ⟨-, -, w'⟩ := (Table.wfFrom_cons ..).1 w
      have cons : k ∈ Table.indices p ((j, v) :: rest) ↔ (p v = true ∧ k = j) ∨ k ∈ Table.indices p rest := by
        cases hv : p v <;> simp [Table.indices, hv]
      have below : k ≤ j → Table.get d k rest = d := fun h => Table.get_below d k j rest h w'
      rw [cons, ih _ w', Table.get]
      rcases Nat.lt_trichotomy k j with h | rfl | h
      · simp [h, h.ne, below h.le, hd]
      · simp [below le_rfl, hd]
      · simp [Nat.not_lt.2 h.le, h.ne']
  exact from_ none t w

/-- The stations are in canonical form, and every one passes its check. -/
def State.stationsSound (s : State) : Prop :=
  Table.wf StationEntry.free s.stations.entries = true ∧ ∀ t, (s.station t).checks = true

/-- Likewise the streams. -/
def State.streamsSound (s : State) : Prop :=
  Table.wf StreamEntry.free s.streams.entries = true ∧ ∀ i, (s.stream i).checks = true

/-- A read depends on its table alone. -/
theorem State.station_of_stations {s t : State} (h : t.stations = s.stations) (k : Nat) : t.station k = s.station k := by
  rw [State.station, State.station, h]

theorem State.stream_of_streams {s t : State} (h : t.streams = s.streams) (i : Nat) : t.stream i = s.stream i := by
  rw [State.stream, State.stream, h]

theorem State.stationsSound.of_entries {s t : State} (h : s.stationsSound) (e : t.stations.entries = s.stations.entries) :
    t.stationsSound := by
  unfold State.stationsSound State.station
  rw [e]
  exact h

theorem State.streamsSound.of_entries {s t : State} (h : s.streamsSound) (e : t.streams.entries = s.streams.entries) :
    t.streamsSound := by
  unfold State.streamsSound State.stream
  rw [e]
  exact h

/-- A written entry passes its check, and the others still do. -/
theorem State.stationsSound.putStation {s : State} (h : s.stationsSound) (t : Nat) (e : StationEntry) :
    (s.putStation t e).stationsSound := by
  refine ⟨s.putStation_wf t e h.1, fun k => ?_⟩
  rw [s.station_putStation t k e h.1]
  split
  · exact StationEntry.checks_seal e
  · exact h.2 k

theorem State.stationsSound.modStation {s : State} (h : s.stationsSound) (t : Nat) (f : StationEntry → StationEntry) :
    (s.modStation t f).stationsSound := h.putStation t _

theorem State.streamsSound.putStream {s : State} (h : s.streamsSound) (i : Nat) (e : StreamEntry) :
    (s.putStream i e).streamsSound := by
  refine ⟨s.putStream_wf i e h.1, fun k => ?_⟩
  rw [s.stream_putStream i k e h.1]
  split
  · exact StreamEntry.checks_seal e
  · exact h.2 k

/-! ### Quiet operations -/

/-- The entries agree in the state of the station and in its place among the lanes (R52). -/
structure StationEntry.SamePost (e f : StationEntry) : Prop where
  state : f.state = e.state
  laneSet : f.laneSet = e.laneSet
  home : f.home = e.home
  paused : f.paused = e.paused

theorem StationEntry.SamePost.refl (e : StationEntry) : e.SamePost e := ⟨rfl, rfl, rfl, rfl⟩

/-- What an operation over the tables leaves as it was where the stations pass their checks. -/
structure State.Quiet (s t : State) : Prop where
  sound : t.stationsSound
  port : t.port = s.port
  post : ∀ k, (s.station k).state.kept = true → (s.station k).SamePost (t.station k)
  streams : Table.wf StreamEntry.free s.streams.entries = true → Table.wf StreamEntry.free t.streams.entries = true
  inUse : Table.wf StreamEntry.free s.streams.entries = true → ∀ i, (s.stream i).state = .inUse → t.stream i = s.stream i

namespace State.Quiet

variable {s t u : State}

theorem refl (h : s.stationsSound) : s.Quiet s := ⟨h, rfl, fun _ _ => .refl _, id, fun _ _ _ => rfl⟩

theorem trans (h : s.Quiet t) (k : t.Quiet u) : s.Quiet u where
  sound := k.sound
  port := k.port.trans h.port
  post n hn := by
    obtain ⟨st, la, ho, pa⟩ := h.post n hn
    obtain ⟨st', la', ho', pa'⟩ := k.post n (st ▸ hn)
    exact ⟨st'.trans st, la'.trans la, ho'.trans ho, pa'.trans pa⟩
  streams w := k.streams (h.streams w)
  inUse w i hi := by
    have same := h.inUse w i hi
    rw [k.inUse (h.streams w) i (same ▸ hi), same]

/-- An operation that writes neither entries nor the Control Port. -/
theorem of_entries (h : s.stationsSound) (st : t.stations.entries = s.stations.entries)
    (sm : t.streams.entries = s.streams.entries) (port : t.port = s.port) : s.Quiet t where
  sound := h.of_entries st
  port := port
  post k _ := by rw [State.station, State.station, st]; exact .refl _
  streams w := by rwa [sm]
  inUse _ i _ := by rw [State.stream, State.stream, sm]

theorem foldl {α : Type} {f : State → α → State} (step : ∀ (s : State) (a : α), s.stationsSound → s.Quiet (f s a))
    (l : List α) (h : s.stationsSound) : s.Quiet (l.foldl f s) :=
  List.foldlRecOn l f (refl h) fun _ q a _ => q.trans (step _ a q.sound)

theorem ite {p : Prop} [Decidable p] (ht : p → s.Quiet t) (hu : ¬p → s.Quiet u) : s.Quiet (if p then t else u) := by
  split
  · exact ht ‹_›
  · exact hu ‹_›

end State.Quiet

namespace State.stationsSound

variable {s : State} (h : s.stationsSound)
include h

/-! ### Single writes -/

theorem quiet_modLane (l : LaneId) (f : Lane → Lane) : s.Quiet (s.modLane l f) := .of_entries h rfl rfl rfl

/-- A station entry is written with the post it has, or for a station not in use. -/
theorem quiet_putStation {t : Nat} {e : StationEntry} (post : (s.station t).state.kept = true → (s.station t).SamePost e) :
    s.Quiet (s.putStation t e) where
  sound := h.putStation t e
  port := rfl
  post k hk := by
    rw [s.station_putStation t k e h.1]
    split
    · subst k
      obtain ⟨st, la, ho, pa⟩ := post hk
      exact ⟨st, la, ho, pa⟩
    · exact .refl _
  streams := id
  inUse _ _ _ := rfl

/-- An entry is written for a stream that is not IN_USE. -/
theorem quiet_putStream {i : Nat} {e : StreamEntry} (free : (s.stream i).state ≠ .inUse) : s.Quiet (s.putStream i e) where
  sound := h.of_entries rfl
  port := rfl
  post _ _ := .refl _
  streams w := s.putStream_wf i e w
  inUse w k hk := by
    rw [s.stream_putStream i k e w, if_neg]
    rintro rfl
    exact free hk

theorem quiet_modStation {t : Nat} {f : StationEntry → StationEntry} (post : ∀ e : StationEntry, e.SamePost (f e)) :
    s.Quiet (s.modStation t f) := h.quiet_putStation fun _ => post _

theorem quiet_setDueNow (t : Nat) : s.Quiet (s.setDueNow t) :=
  have wrote : s.Quiet (s.modStation t fun e => { e with due := s.now }) := h.quiet_modStation fun _ => ⟨rfl, rfl, rfl, rfl⟩
  wrote.trans (.of_entries wrote.sound rfl rfl rfl)

theorem quiet_dropNoticesOf (t : Nat) : s.Quiet (s.dropNoticesOf t) :=
  .foldl (fun _ l hs => hs.quiet_modLane l _) _ h

/-! ### References and the entries they hold -/

theorem quiet_settleStation (t : Nat) : s.Quiet (s.settleStation t) := by
  refine .ite (fun ⟨releasing, _⟩ => ?_) fun _ => .refl h
  have freed : s.Quiet (s.putStation t StationEntry.free) :=
    h.quiet_putStation fun kept => by rw [releasing] at kept; cases kept
  unfold State.freeStation
  have listed := (Quiet.of_entries freed.sound rfl rfl rfl : (s.putStation t StationEntry.free).Quiet
    (let u := (s.putStation t StationEntry.free).leaveDue t
     { u with stations := { u.stations with freeTags := u.stations.freeTags ++ [t] } }))
  exact freed.trans (listed.trans (listed.sound.quiet_dropNoticesOf t))

theorem quiet_settleStream (i : Nat) : s.Quiet (s.settleStream i) := by
  refine .ite (fun ⟨retiring, _⟩ => ?_) fun _ => .refl h
  have left : s.Quiet (s.leaveLists i) := by
    rw [State.leaveLists_service]
    exact .of_entries h rfl rfl rfl
  unfold State.freeStream
  exact left.trans (left.sound.quiet_putStream (by simp [retiring]))

theorem quiet_lowerStation (t : Nat) : s.Quiet (s.lowerStation t) :=
  have wrote : s.Quiet (s.setStationRefs t (s.stationRefs t - 1)) := .of_entries h rfl rfl rfl
  wrote.trans (wrote.sound.quiet_settleStation t)

theorem quiet_lowerStream (i : Nat) : s.Quiet (s.lowerStream i) :=
  have wrote : s.Quiet (s.setStreamRefs i (s.streamRefs i - 1)) := .of_entries h rfl rfl rfl
  wrote.trans (wrote.sound.quiet_settleStream i)

theorem quiet_lowerRefs (stations streams : List Nat) : s.Quiet (s.lowerRefs stations streams) :=
  have lowered : s.Quiet (stations.foldl State.lowerStation s) := .foldl (fun _ t hs => hs.quiet_lowerStation t) _ h
  lowered.trans (.foldl (fun _ i hs => hs.quiet_lowerStream i) _ lowered.sound)

/-! ### Marks, histories and notice queues -/

theorem quiet_clearMarkLink (l : LaneId) (q : PlanSeq) (t : Nat) : s.Quiet (State.clearMarkLink l q s t) := by
  rw [State.clearMarkLink, s.checkStation_passes _ _ (h.2 t)]
  exact .ite (fun _ => h.quiet_modStation fun _ => ⟨rfl, rfl, rfl, rfl⟩) fun _ => .refl h

theorem quiet_releaseEntry (l : LaneId) (e : HistEntry) : s.Quiet (State.releaseEntry l s e) :=
  have cleared := Quiet.foldl (f := fun s (a : AlignTurn) => State.clearMarkLink l e.seq s a.tag)
    (fun _ a hs => hs.quiet_clearMarkLink l e.seq a.tag) (e.turns.filter fun a => a.resolved = false) h
  cleared.trans (cleared.sound.quiet_lowerRefs _ _)

theorem quiet_clearHistory (l : LaneId) : s.Quiet (s.clearHistory l) :=
  have wrote := h.quiet_modLane l fun v => { v with history := [] }
  wrote.trans (.foldl (fun _ e hs => hs.quiet_releaseEntry l e) _ wrote.sound)

theorem quiet_loseNotice (n : Notice) : s.Quiet (s.loseNotice n) := by
  rw [State.loseNotice, s.checkStation_passes _ _ (h.2 _)]
  refine .ite (fun _ => ?_) fun _ => .refl h
  have wrote : s.Quiet (s.modStation n.body.tag fun e => { e with verdictWaiting := false }) :=
    h.quiet_modStation fun _ => ⟨rfl, rfl, rfl, rfl⟩
  exact wrote.trans (wrote.sound.quiet_setDueNow _)

theorem quiet_emptyNotices (l : LaneId) : s.Quiet (s.emptyNotices l) :=
  have wrote := h.quiet_modLane l fun v => { v with notices := [] }
  wrote.trans (.foldl (fun _ n hs => hs.quiet_loseNotice n) _ wrote.sound)

theorem quiet_clearMarks (p : PlanRecord) : s.Quiet (s.clearMarks p) :=
  have wrote := h.quiet_modLane p.lane fun v =>
    { v with notices := v.notices.map fun n => if n.mark = some p.seq then { n with mark := none } else n }
  wrote.trans (.foldl (fun _ t hs => hs.quiet_clearMarkLink _ _ t) _ wrote.sound)

theorem quiet_commitNotice (n : Notice) : s.Quiet (s.commitNotice n) := by
  rw [State.commitNotice, s.checkStation_passes _ _ (h.2 _)]
  exact .ite (fun _ => h.quiet_modStation fun _ => ⟨rfl, rfl, rfl, rfl⟩) fun _ => .refl h

theorem quiet_commitNotices (p : PlanRecord) : s.Quiet (s.commitNotices p) :=
  have wrote := h.quiet_modLane p.lane fun v => { v with notices := v.notices.filter fun n => n.mark != some p.seq }
  wrote.trans (.foldl (fun _ n hs => hs.quiet_commitNotice n) _ wrote.sound)

end State.stationsSound

end Sys2Proof.Machine
end

section
/-! PROOFS. LANE_START (R14): the lane afresh, the nominal quanta of its cadenced streams, and the stations that resume on it. -/

namespace Sys2Proof.Machine

/-! ### Lane states and the part state (R13, R171) -/

/-- The part state alone follows the lane states. -/
theorem State.refreshPart_eq (s : State) : s.refreshPart = { s with port := { s.port with part := s.refreshPart.port.part } } := by
  unfold State.refreshPart
  split <;> rfl

/-- A lane state is given by a write of the lane and of the part state. -/
theorem State.setLaneState_eq (s : State) (l : LaneId) (st : LaneState) :
    s.setLaneState l st =
      { s.modLane l fun v => { v with state := st } with
        port := { s.port with part := (s.setLaneState l st).port.part } } :=
  State.refreshPart_eq _

section
variable (s : State) (l : LaneId) (st : LaneState)

@[simp] theorem State.setLaneState_now : (s.setLaneState l st).now = s.now := by rw [State.setLaneState_eq]; rfl
@[simp] theorem State.setLaneState_ports : (s.setLaneState l st).ports = s.ports := by rw [State.setLaneState_eq]; rfl
@[simp] theorem State.setLaneState_claims : (s.setLaneState l st).claims = s.claims := by rw [State.setLaneState_eq]; rfl
@[simp] theorem State.setLaneState_stations : (s.setLaneState l st).stations = s.stations := by rw [State.setLaneState_eq]; rfl
@[simp] theorem State.setLaneState_align : (s.setLaneState l st).align = s.align := by rw [State.setLaneState_eq]; rfl
@[simp] theorem State.setLaneState_streams : (s.setLaneState l st).streams = s.streams := by rw [State.setLaneState_eq]; rfl
@[simp] theorem State.setLaneState_builder : (s.setLaneState l st).builder = s.builder := by rw [State.setLaneState_eq]; rfl
@[simp] theorem State.setLaneState_link : (s.setLaneState l st).link = s.link := by rw [State.setLaneState_eq]; rfl
@[simp] theorem State.setLaneState_reports : (s.setLaneState l st).port.reports = s.port.reports := by
  rw [State.setLaneState_eq]

theorem State.setLaneState_lane (m : LaneId) :
    (s.setLaneState l st).lane m = (s.modLane l fun v => { v with state := st }).lane m := by
  rw [State.setLaneState_eq]; rfl

theorem State.setLaneState_lane_same : (s.setLaneState l st).lane l = { s.lane l with state := st } := by
  rw [State.setLaneState_lane, State.lane_modLane_same]

theorem State.setLaneState_lane_other {m : LaneId} (h : m ≠ l) : (s.setLaneState l st).lane m = s.lane m := by
  rw [State.setLaneState_lane, State.lane_modLane_other _ _ _ _ h]

end

/-- With a lane that is not IDLE the part is RUNNING. -/
theorem State.setLaneState_running {s : State} {l : LaneId} {st : LaneState} (hs : st ≠ .idle)
    (part : s.port.part = .config ∨ s.port.part = .running) : (s.setLaneState l st).port.part = .running := by
  have busy : allLanes.all (fun m => ((s.modLane l fun v => { v with state := st }).lane m).state = .idle) = false :=
    List.all_eq_false.2 ⟨l, mem_allLanes l, by simpa using hs⟩
  unfold State.setLaneState State.refreshPart
  rcases part with part | part <;> simp [part, busy]

/-! ### The steps of a start -/

/-- The counts and marks of a lane whose span 0 starts at the time `start0`. -/
def Lane.begun (start0 : Time) (v : Lane) : Lane :=
  { v with start0 := start0, nextSpan := 0, drops := 0, late := false, counters := LaneCounters.zero }

/-- The lane, its Claim Controller and its port as R14 begins them at the time `t0`, with span 0 at the time `start0`. -/
def State.beginLane (s : State) (l : LaneId) (t0 start0 : Time) : State :=
  ((s.modLane l (Lane.begun start0)).setClaim l
    { s.claim l with mode := .opening, target := some (s.claim l).settings.cOpen, missing := 0 }).setRx l
    { RxPort.reset with watermark := t0 }

/-- The lane begun on a cleared history and an emptied notice queue, and the streams that are numbered and the stations that
resume from there. -/
def State.begun (s : State) (l : LaneId) : State :=
  ((s.clearHistory l).emptyNotices l).beginLane l s.now (s.now + tu (2 * ((s.setupOf l).Ld + (s.setupOf l).Ba)))

/-- The nominal quantum of a stream as its lane starts. -/
def StreamEntry.numbered (e : StreamEntry) : StreamEntry := { e with N := tu e.phase }

/-- Every stream of a list has its nominal quantum given. -/
def State.numberAll (s : State) (is : List Nat) : State := is.foldl (fun s i => s.modStream i StreamEntry.numbered) s

theorem State.startLane_eq (s : State) (l : LaneId) :
    s.startLane l = (((s.begun l).numberAll ((s.begun l).cadencedOf l)).resumeAll l).setLaneState l .live := rfl

section
variable (s : State) (l : LaneId) (t0 start0 : Time)

@[simp] theorem State.beginLane_now : (s.beginLane l t0 start0).now = s.now := rfl
@[simp] theorem State.beginLane_builder : (s.beginLane l t0 start0).builder = s.builder := rfl
@[simp] theorem State.beginLane_link : (s.beginLane l t0 start0).link = s.link := rfl
@[simp] theorem State.beginLane_align : (s.beginLane l t0 start0).align = s.align := rfl
@[simp] theorem State.beginLane_port : (s.beginLane l t0 start0).port = s.port := rfl

theorem State.beginLane_lane : (s.beginLane l t0 start0).lane l = (s.lane l).begun start0 :=
  s.lane_modLane_same l (Lane.begun start0)

theorem State.beginLane_lane_other {m : LaneId} (h : m ≠ l) : (s.beginLane l t0 start0).lane m = s.lane m :=
  s.lane_modLane_other l m (Lane.begun start0) h

theorem State.beginLane_claim : (s.beginLane l t0 start0).claim l =
    { s.claim l with mode := .opening, target := some (s.claim l).settings.cOpen, missing := 0 } :=
  s.claim_setClaim_same l _

theorem State.beginLane_claim_other {m : LaneId} (h : m ≠ l) : (s.beginLane l t0 start0).claim m = s.claim m :=
  s.claim_setClaim_other l m _ h

theorem State.beginLane_rx : (s.beginLane l t0 start0).rx l = { RxPort.reset with watermark := t0 } := s.rx_setRx_same l _

theorem State.beginLane_rx_other {m : LaneId} (h : m ≠ l) : (s.beginLane l t0 start0).rx m = s.rx m :=
  s.rx_setRx_other l m _ h

theorem State.quiet_beginLane {s : State} (h : s.stationsSound) : s.Quiet (s.beginLane l t0 start0) :=
  .of_entries h rfl rfl rfl

end

section
variable (s : State) (l : LaneId)

/-- Clearing the history and emptying the notice queue: what they keep of the state, but for the history. -/
theorem State.keeps_cleared :
    (s.modLane l fun v => { v with history := [] }).Keeps ((s.clearHistory l).emptyNotices l) :=
  (s.keeps_clearHistory l).trans (State.keeps_emptyNotices _ l)

theorem State.cleared_lane :
    ((s.clearHistory l).emptyNotices l).lane l = { s.lane l with history := [], notices := [] } := by
  rw [(s.keeps_cleared l).lane l, State.emptyNotices_notices, State.lane_modLane_same]

theorem State.cleared_lane_other {m : LaneId} (h : m ≠ l) : ((s.clearHistory l).emptyNotices l).lane m =
    { s.lane m with notices := (((s.clearHistory l).emptyNotices l).lane m).notices } := by
  rw [(s.keeps_cleared l).lane m, State.lane_modLane_other _ _ _ _ h]

theorem State.quiet_cleared (h : s.stationsSound) : s.Quiet ((s.clearHistory l).emptyNotices l) :=
  have cleared := h.quiet_clearHistory l
  cleared.trans (cleared.sound.quiet_emptyNotices l)

end

/-! ### Nominal quanta -/

theorem State.keeps_numberAll (s : State) (is : List Nat) : s.Keeps (s.numberAll is) :=
  .foldl (fun s i => s.keeps_modStream i _) is s

theorem State.numberAll_stations (s : State) (is : List Nat) : (s.numberAll is).stations = s.stations :=
  List.foldlRecOn (motive := fun t : State => t.stations = s.stations) is _ rfl fun _ h _ _ => h

/-- The streams of the list have their N given, and the others are as they were. -/
theorem State.stream_numberAll (is : List Nat) {s : State} (w : Table.wf StreamEntry.free s.streams.entries = true)
    (i : Nat) : (s.numberAll is).stream i = if i ∈ is then (s.stream i).numbered.seal else s.stream i := by
  unfold State.numberAll
  induction is generalizing s with
  | nil => simp
  | cons j rest ih =>
    have w' : Table.wf StreamEntry.free (s.modStream j StreamEntry.numbered).streams.entries = true := s.putStream_wf j _ w
    rw [List.foldl_cons, ih w', s.stream_modStream j i _ w]
    by_cases hj : i = j
    · simp only [hj, List.mem_cons, true_or, if_true]
      split <;> rfl
    · simp [hj]

theorem State.mem_cadencedOf {s : State} (w : Table.wf StreamEntry.free s.streams.entries = true) (l : LaneId) (i : Nat) :
    i ∈ s.cadencedOf l ↔ (s.stream i).state = .inUse ∧ (s.stream i).kind = .cadenced ∧ (s.stream i).lane = l := by
  rw [State.cadencedOf, Table.mem_indices rfl i _ w]
  simp [State.stream, and_assoc]

/-! ### Stations that resume -/

theorem State.mem_joinDue (s : State) (t k : Nat) : k ∈ (s.joinDue t).align.dueQueue ↔ k = t ∨ k ∈ s.align.dueQueue := by
  simp only [State.joinDue, State.leaveDue, mem_insertDue, List.mem_filter, decide_eq_true_eq]
  tauto

/-- The entry of a station that resumes on lane `l` at the time `now`. -/
def StationEntry.resumed (e : StationEntry) (l : LaneId) (now : Time) : StationEntry :=
  { e with paused := false, home := l, due := now }

section
variable {s : State} (h : s.stationsSound) (l : LaneId)
include h

theorem State.resumeChecked_kept {t : Nat} (ht : (s.station t).state.kept = true) :
    State.resumeChecked l s t = s.resumeOn t l := by
  simp only [State.resumeChecked, s.checkStation_passes _ _ (h.2 t), ht, if_true]

theorem State.station_resumeOn (t k : Nat) : (s.resumeOn t l).station k =
    if k = t then ((s.station k).resumed l s.now).seal else s.station k := by
  have due : (s.resumeOn t l).station k = ((s.modStation t fun e => { e with paused := false, home := l }).modStation t
      fun e => { e with due := s.now }).station k := rfl
  have w : Table.wf StationEntry.free
      (s.modStation t fun e => { e with paused := false, home := l }).stations.entries = true := s.putStation_wf t _ h.1
  rw [due, State.station_modStation _ _ _ _ w, s.station_modStation t k _ h.1]
  by_cases hk : k = t
  · subst hk
    rw [s.station_modStation k k _ h.1]
    simp only [if_true]
    rfl
  · simp [hk]

theorem State.resumeOn_sound (t : Nat) : (s.resumeOn t l).stationsSound :=
  ((h.putStation t _).putStation t _).of_entries rfl

/-- The stations of a walk resume and stand in the due queue, and the others are as they were. -/
theorem State.foldl_resumeChecked (ts : List Nat) (hts : ∀ t ∈ ts, (s.station t).state.kept = true) (k : Nat) :
    ((ts.foldl (State.resumeChecked l) s).station k =
      if k ∈ ts then ((s.station k).resumed l s.now).seal else s.station k) ∧
    (k ∈ s.align.dueQueue ∨ k ∈ ts → k ∈ (ts.foldl (State.resumeChecked l) s).align.dueQueue) := by
  induction ts generalizing s with
  | nil => simp
  | cons t rest ih =>
    have first := State.resumeChecked_kept h l (hts t List.mem_cons_self)
    have after : ∀ j, (s.resumeOn t l).station j = if j = t then ((s.station j).resumed l s.now).seal else s.station j :=
      State.station_resumeOn h l t
    have kept : ∀ j ∈ rest, ((s.resumeOn t l).station j).state.kept = true := fun j hj => by
      rw [after]
      split <;> exact hts j (List.mem_cons_of_mem _ hj)
    obtain ⟨entry, due⟩ := ih (State.resumeOn_sound h l t) kept
    rw [List.foldl_cons, first]
    refine ⟨?_, fun hk => due ?_⟩
    · rw [entry, after, (s.keeps_resumeOn t l).now]
      by_cases ht : k = t
      · simp only [ht, List.mem_cons, true_or, if_true]
        split <;> rfl
      · simp [ht]
    · have joined : k ∈ (s.resumeOn t l).align.dueQueue ↔ k = t ∨ k ∈ s.align.dueQueue := State.mem_joinDue _ t k
      rw [joined]
      rw [List.mem_cons] at hk
      tauto

theorem State.resumeAll_streams : (s.resumeAll l).streams = s.streams := by
  refine (List.foldlRecOn (motive := fun t : State => t.stationsSound ∧ t.streams = s.streams) _ _ ⟨h, rfl⟩ ?_).2
  rintro t ⟨sound, same⟩ k -
  rw [State.resumeChecked, t.checkStation_passes _ _ (sound.2 k)]
  split
  · exact ⟨State.resumeOn_sound sound l k, same⟩
  · exact ⟨sound, same⟩

/-- LANE_START resumes exactly the paused stations in use whose lane set holds the lane (R14, R52). -/
theorem State.resumeAll_station (k : Nat) (hk : (s.station k).state.kept = true) :
    ((s.station k).paused = true → inSet (s.station k).laneSet l = true →
      (s.resumeAll l).station k = ((s.station k).resumed l s.now).seal ∧ k ∈ (s.resumeAll l).align.dueQueue) ∧
    ((s.station k).paused = false ∨ inSet (s.station k).laneSet l = false → (s.resumeAll l).station k = s.station k) := by
  have members : ∀ t, t ∈ Table.indices (fun e => e.state.kept && e.paused && inSet e.laneSet l) s.stations.entries ↔
      (s.station t).state.kept = true ∧ (s.station t).paused = true ∧ inSet (s.station t).laneSet l = true := fun t => by
    rw [Table.mem_indices rfl t _ h.1]
    simp [State.station, and_assoc]
  obtain ⟨entry, due⟩ := State.foldl_resumeChecked h l _ (fun t ht => ((members t).1 ht).1) k
  refine ⟨fun paused held => ?_, fun out => entry.trans (if_neg fun member => ?_)⟩
  · have member := (members k).2 ⟨hk, paused, held⟩
    exact ⟨entry.trans (if_pos member), due (.inr member)⟩
  · obtain ⟨-, paused, held⟩ := (members k).1 member
    rcases out with out | out <;> simp_all

end

/-! ### The start as a whole -/

/-- The time at which span 0 of a lane that starts now begins (R14). -/
def State.startOf (s : State) (l : LaneId) : Time := s.now + tu (2 * ((s.setupOf l).Ld + (s.setupOf l).Ba))

section
variable (s : State) (l : LaneId)

/-- From the begun lane on, a start numbers streams, resumes stations and gives the lane its state. -/
theorem State.keeps_resumed :
    (s.begun l).Keeps (((s.begun l).numberAll ((s.begun l).cadencedOf l)).resumeAll l) :=
  (State.keeps_numberAll _ _).trans (State.keeps_resumeAll _ l)

theorem State.begun_lane : (s.begun l).lane l = { (s.lane l).begun (s.startOf l) with history := [], notices := [] } := by
  rw [State.begun, State.beginLane_lane, State.cleared_lane]
  rfl

/-- The blocks that beginning a lane does not write. -/
theorem State.begun_frame : (s.begun l).now = s.now ∧ (s.begun l).builder = s.builder ∧ (s.begun l).link = s.link ∧
    (s.begun l).align.settings = s.align.settings ∧ (s.begun l).port.part = s.port.part := by
  have c := s.keeps_cleared l
  simp only [State.begun, State.beginLane_now, State.beginLane_builder, State.beginLane_link, State.beginLane_align,
    State.beginLane_port, c.now, c.builder, c.link, c.settings, c.part]
  exact ⟨rfl, rfl, rfl, rfl, rfl⟩

theorem State.startLane_lane : (s.startLane l).lane l =
    { (s.lane l).begun (s.startOf l) with state := .live, history := [], notices := [] } := by
  have k := s.keeps_resumed l
  have none_left := k.notices l (by rw [s.begun_lane])
  rw [State.startLane_eq, State.setLaneState_lane_same, k.lane l, none_left, s.begun_lane]

theorem State.startLane_lane_other {m : LaneId} (h : m ≠ l) :
    (s.startLane l).lane m = { s.lane m with notices := ((s.startLane l).lane m).notices } := by
  have k := s.keeps_resumed l
  rw [State.startLane_eq, State.setLaneState_lane_other _ _ _ h, k.lane m, State.begun,
    State.beginLane_lane_other _ _ _ _ h, s.cleared_lane_other l h]

theorem State.startLane_claims : (s.startLane l).claims = (s.begun l).claims := by
  rw [State.startLane_eq, State.setLaneState_claims, (s.keeps_resumed l).claims]

theorem State.startLane_ports : (s.startLane l).ports = (s.begun l).ports := by
  rw [State.startLane_eq, State.setLaneState_ports, (s.keeps_resumed l).ports]

theorem State.startLane_claim (m : LaneId) : (s.startLane l).claim m =
    if m = l then { s.claim l with mode := .opening, target := some (s.claim l).settings.cOpen, missing := 0 }
    else s.claim m := by
  have same : ∀ n, ((s.clearHistory l).emptyNotices l).claim n = s.claim n := fun n => by
    rw [State.claim, (s.keeps_cleared l).claims]; rfl
  have kept : (s.startLane l).claim m = (s.begun l).claim m := by rw [State.claim, s.startLane_claims]; rfl
  rw [kept, State.begun]
  split
  · subst m
    rw [State.beginLane_claim, same]
  · rw [State.beginLane_claim_other _ _ _ _ ‹_›, same]

theorem State.startLane_rx (m : LaneId) : (s.startLane l).rx m =
    if m = l then { RxPort.reset with watermark := s.now } else s.rx m := by
  have same : ((s.clearHistory l).emptyNotices l).rx m = s.rx m := by rw [State.rx, (s.keeps_cleared l).ports]; rfl
  have kept : (s.startLane l).rx m = (s.begun l).rx m := by rw [State.rx, s.startLane_ports]; rfl
  rw [kept, State.begun]
  split
  · subst m
    rw [State.beginLane_rx]
  · rw [State.beginLane_rx_other _ _ _ _ ‹_›, same]

/-- The blocks a start does not write. -/
theorem State.startLane_frame :
    (s.startLane l).builder = s.builder ∧ (s.startLane l).link = s.link ∧ (s.startLane l).now = s.now ∧
      (s.startLane l).align.settings = s.align.settings := by
  have k := s.keeps_resumed l
  obtain ⟨now, builder, link, settings, -⟩ := s.begun_frame l
  rw [State.startLane_eq, State.setLaneState_builder, State.setLaneState_link, State.setLaneState_now,
    State.setLaneState_align, k.builder, k.link, k.now, k.settings]
  exact ⟨builder, link, now, settings⟩

theorem State.startLane_part (part : s.port.part = .config ∨ s.port.part = .running) :
    (s.startLane l).port.part = .running := by
  obtain ⟨-, -, -, -, begun⟩ := s.begun_frame l
  have same : (((s.begun l).numberAll ((s.begun l).cadencedOf l)).resumeAll l).port.part = s.port.part :=
    (s.keeps_resumed l).part.trans begun
  rw [State.startLane_eq]
  exact State.setLaneState_running (by decide) (by rw [same]; exact part)

end

section
variable {s : State} (h : s.stationsSound) (l : LaneId)
include h

theorem State.quiet_begun : s.Quiet (s.begun l) :=
  (s.quiet_cleared l h).trans (State.quiet_beginLane _ _ _ (s.quiet_cleared l h).sound)

/-- Where every station passes its check, a start resumes the paused stations of its lane and leaves the others where they
are. -/
theorem State.startLane_station (k : Nat) (hk : (s.station k).state.kept = true) :
    ((s.startLane l).station k).state = (s.station k).state ∧ ((s.startLane l).station k).laneSet = (s.station k).laneSet ∧
    ((s.station k).paused = true → inSet (s.station k).laneSet l = true →
      ((s.startLane l).station k).paused = false ∧ ((s.startLane l).station k).home = l ∧
        ((s.startLane l).station k).due = s.now ∧ k ∈ (s.startLane l).align.dueQueue) ∧
    ((s.station k).paused = false ∨ inSet (s.station k).laneSet l = false →
      ((s.startLane l).station k).paused = (s.station k).paused ∧ ((s.startLane l).station k).home = (s.station k).home) := by
  have begun := State.quiet_begun h l
  obtain ⟨state, laneSet, home, paused⟩ := begun.post k hk
  generalize hn : (s.begun l).numberAll ((s.begun l).cadencedOf l) = n
  have stations : n.stations = (s.begun l).stations := by rw [← hn, State.numberAll_stations]
  have same : n.station k = (s.begun l).station k := State.station_of_stations stations k
  have now : n.now = s.now := by
    rw [← hn, (State.keeps_numberAll _ _).now]
    exact (s.begun_frame l).1
  have sound : n.stationsSound := begun.sound.of_entries (by rw [stations])
  have started : s.startLane l = (n.resumeAll l).setLaneState l .live := by rw [State.startLane_eq, hn]
  have station : (s.startLane l).station k = (n.resumeAll l).station k :=
    State.station_of_stations (by rw [started, State.setLaneState_stations]) k
  have align : (s.startLane l).align = (n.resumeAll l).align := by rw [started, State.setLaneState_align]
  rw [station, align]
  obtain ⟨resumes, stays⟩ := State.resumeAll_station sound l k (by rw [same, state]; exact hk)
  rw [same, paused, laneSet, now] at resumes
  rw [same, paused, laneSet] at stays
  by_cases held : (s.station k).paused = true ∧ inSet (s.station k).laneSet l = true
  · obtain ⟨entry, due⟩ := resumes held.1 held.2
    rw [entry]
    refine ⟨state, laneSet, fun _ _ => ⟨rfl, rfl, rfl, due⟩, fun out => ?_⟩
    simp [held.1, held.2] at out
  · have out : (s.station k).paused = false ∨ inSet (s.station k).laneSet l = false := by
      rw [not_and_or, Bool.not_eq_true, Bool.not_eq_true] at held
      exact held
    rw [stays out]
    exact ⟨state, laneSet, fun p i => absurd ⟨p, i⟩ held, fun _ => ⟨paused, home⟩⟩

/-- A start gives each IN_USE cadenced stream of its lane its nominal quantum. -/
theorem State.startLane_stream (w : Table.wf StreamEntry.free s.streams.entries = true) (i : Nat)
    (inUse : (s.stream i).state = .inUse) (cadenced : (s.stream i).kind = .cadenced) (lane : (s.stream i).lane = l) :
    (s.startLane l).stream i = (s.stream i).numbered.seal := by
  have begun := State.quiet_begun h l
  have same := begun.inUse w i inUse
  generalize hn : (s.begun l).numberAll ((s.begun l).cadencedOf l) = n
  have member : i ∈ (s.begun l).cadencedOf l := by
    rw [State.mem_cadencedOf (begun.streams w), same]
    exact ⟨inUse, cadenced, lane⟩
  have numbered : n.stream i = (s.stream i).numbered.seal := by
    rw [← hn, State.stream_numberAll _ (begun.streams w), if_pos member, same]
  have sound : n.stationsSound := begun.sound.of_entries (by rw [← hn, State.numberAll_stations])
  have streams : (s.startLane l).streams = n.streams := by
    rw [State.startLane_eq, hn, State.setLaneState_streams, State.resumeAll_streams sound]
  rw [State.stream_of_streams streams, numbered]

end

end Sys2Proof.Machine

open Sys2Proof Sys2Proof.Machine

/-- Settles O22: the rule's answer is `startLane`, whose lanes, claims, ports, stations and streams the lemmas above give. -/
theorem laneStartBeginsTheLaneAfresh : Obligations.LaneStartBeginsTheLaneAfresh := by
  intro s d req b l u h ho hl hs setup idle uncovered
  have startable : (d.lane l).startable := hs.symm.imp id fun hi => ⟨hi, by rw [setup]; rfl⟩
  have start0 : d.startOf l = d.now + BitVec.ofNat 32 (2 * (u.Ld + u.Ba)) := by
    simp [State.startOf, State.setupOf, setup, tu]
  have lane := d.startLane_lane l
  rw [start0] at lane
  have answer : laneStartRule b d =
      carryOut (.laneStart d.now (d.now + BitVec.ofNat 32 (2 * (u.Ld + u.Ba)))) (d.startLane l) := by
    rw [laneStartRule_done hl startable idle uncovered, lane]
    rfl
  obtain ⟨builder, link, now, settings⟩ := d.startLane_frame l
  refine ⟨d.startLane l, State.request_done h ho answer, lane, ?_, ?_, d.startLane_part l ho.2, fun m hm => ?_,
    builder, link, now, settings, fun canonical stations _ => ⟨fun k hk => ?_, fun i inUse cadenced hi => ?_⟩⟩
  · rw [State.startLane_claim, if_pos rfl]
  · rw [State.startLane_rx, if_pos rfl]
  · rw [State.startLane_claim, if_neg hm, State.startLane_rx, if_neg hm, d.startLane_lane_other l hm]
    exact ⟨rfl, rfl, rfl, rfl⟩
  · exact State.startLane_station ⟨canonical.1, stations⟩ l k hk
  · exact State.startLane_stream ⟨canonical.1, stations⟩ l canonical.2.1 i inUse cadenced hi
end

section
/-! PROOFS. LANE_STOP (R15) and a lane reaching IDLE (R16). -/

namespace Sys2Proof.Machine

/-! ### Stations whose home lane leaves LIVE (R52) -/

/-- The entry of a station moved to the lowest LIVE lane of its set, or paused where `low` gives none. -/
def StationEntry.rehomed (low : LaneSet → Option LaneId) (e : StationEntry) : StationEntry :=
  match low e.laneSet with
  | some m => { e with home := m }
  | none => { e with paused := true }

theorem StationEntry.rehomed_some {low : LaneSet → Option LaneId} {e : StationEntry} {m : LaneId} (h : low e.laneSet = some m) :
    e.rehomed low = { e with home := m } := by
  simp [StationEntry.rehomed, h]

theorem StationEntry.rehomed_none {low : LaneSet → Option LaneId} {e : StationEntry} (h : low e.laneSet = none) :
    e.rehomed low = { e with paused := true } := by
  simp [StationEntry.rehomed, h]

/-- A station moves or is paused without losing its state, its lane set or its due time, and to the same place again. -/
theorem StationEntry.rehomed_kept (low : LaneSet → Option LaneId) (e : StationEntry) :
    (e.rehomed low).state = e.state ∧ (e.rehomed low).laneSet = e.laneSet ∧ (e.rehomed low).due = e.due ∧
      ((e.rehomed low).seal.rehomed low).seal = (e.rehomed low).seal := by
  cases h : low e.laneSet with
  | some m =>
    rw [StationEntry.rehomed_some h]
    refine ⟨rfl, rfl, rfl, ?_⟩
    rw [StationEntry.rehomed_some (m := m) (by exact h)]
    rfl
  | none =>
    rw [StationEntry.rehomed_none h]
    refine ⟨rfl, rfl, rfl, ?_⟩
    rw [StationEntry.rehomed_none (by exact h)]
    rfl

theorem State.rehome_eq (s : State) (t : Nat) : s.rehome t = s.modStation t (StationEntry.rehomed s.lowestLive) := by
  unfold State.rehome
  cases h : s.lowestLive (s.station t).laneSet with
  | some m => simp only [State.modStation, StationEntry.rehomed_some h]
  | none => simp only [State.modStation, StationEntry.rehomed_none h]

/-- The lowest LIVE lane of a set depends on the lane states alone. -/
theorem State.lowestLive_of_lanes {s t : State} (h : t.lanes = s.lanes) : t.lowestLive = s.lowestLive := by
  unfold State.lowestLive State.isLive State.lane
  rw [h]

section
variable {s : State} (h : s.stationsSound)
include h

theorem State.rehomeChecked_kept {t : Nat} (ht : (s.station t).state.kept = true) :
    s.rehomeChecked t = s.modStation t (StationEntry.rehomed s.lowestLive) := by
  simp only [State.rehomeChecked, s.checkStation_passes _ _ (h.2 t), ht, if_true, State.rehome_eq]

/-- The stations of a walk are moved or paused, and the others are as they were. -/
theorem State.foldl_rehomeChecked (ts : List Nat) (hts : ∀ t ∈ ts, (s.station t).state.kept = true) :
    (ts.foldl State.rehomeChecked s).stationsSound ∧ ∀ k, (ts.foldl State.rehomeChecked s).station k =
        if k ∈ ts then ((s.station k).rehomed s.lowestLive).seal else s.station k := by
  induction ts generalizing s with
  | nil => exact ⟨h, fun k => by simp⟩
  | cons t rest ih =>
    have first := State.rehomeChecked_kept h (hts t List.mem_cons_self)
    have after := fun j => s.station_modStation t j (StationEntry.rehomed s.lowestLive) h.1
    have kept : ∀ j ∈ rest, ((s.modStation t (StationEntry.rehomed s.lowestLive)).station j).state.kept = true :=
      fun j hj => by
        have hj' := hts j (List.mem_cons_of_mem _ hj)
        rw [after]
        split
        · subst j
          exact (StationEntry.rehomed_kept s.lowestLive (s.station t)).1 ▸ hj'
        · exact hj'
    obtain ⟨sound, entry⟩ := ih (h.modStation t _) kept
    rw [List.foldl_cons, first]
    refine ⟨sound, fun k => ?_⟩
    rw [entry, after, State.lowestLive_of_lanes (s.modStation_lanes t _)]
    by_cases hk : k = t
    · subst hk
      simp only [List.mem_cons, true_or, if_true]
      split
      · exact (StationEntry.rehomed_kept s.lowestLive _).2.2.2
      · rfl
    · simp [hk]

/-- The stations at home on the lane that are not paused are moved or paused, and the others are as they were (R52). -/
theorem State.rehomeAll_spec (l : LaneId) :
    (s.rehomeAll l).stationsSound ∧ ∀ k, (s.station k).state.kept = true →
      ((s.station k).home = l ∧ (s.station k).paused = false →
        (s.rehomeAll l).station k = ((s.station k).rehomed s.lowestLive).seal) ∧
      (¬((s.station k).home = l ∧ (s.station k).paused = false) → (s.rehomeAll l).station k = s.station k) := by
  have members : ∀ t, t ∈ Table.indices (fun e => e.state.kept && e.home == l && !e.paused) s.stations.entries ↔
      (s.station t).state.kept = true ∧ (s.station t).home = l ∧ (s.station t).paused = false := fun t => by
    rw [Table.mem_indices rfl t _ h.1]
    simp [State.station, and_assoc]
  obtain ⟨sound, entry⟩ := State.foldl_rehomeChecked h _ (fun t ht => ((members t).1 ht).1)
  exact ⟨sound, fun k hk => ⟨fun moved => (entry k).trans (if_pos ((members k).2 ⟨hk, moved⟩)),
    fun stays => (entry k).trans (if_neg fun member => stays ((members k).1 member).2)⟩⟩

end

/-! ### Reaching IDLE (R16) -/

section
variable (s : State) (l : LaneId)

/-- The steps of a lane that reaches IDLE, as R16 lists them. -/
theorem State.reachIdle_eq : s.reachIdle l =
    ((((s.setLaneState l .idle).clearHistory l).emptyNotices l).modLane l fun v => { v with nextSpan := 0 }).raise
      (.laneStopped l) := rfl

@[simp] theorem State.raise_ports (b : ReportBody) : (s.raise b).ports = s.ports := by rw [State.raise_port]

theorem State.raise_lane (b : ReportBody) (m : LaneId) : (s.raise b).lane m = s.lane m := by
  rw [State.lane, State.raise_lanes]; rfl

theorem State.reachIdle_lane :
    (s.reachIdle l).lane l = { s.lane l with state := .idle, history := [], notices := [], nextSpan := 0 } := by
  rw [State.reachIdle_eq, State.raise_lane, State.lane_modLane_same, State.cleared_lane, State.setLaneState_lane_same]

theorem State.reachIdle_lane_other {m : LaneId} (h : m ≠ l) :
    (s.reachIdle l).lane m = { s.lane m with notices := ((s.reachIdle l).lane m).notices } := by
  rw [State.reachIdle_eq, State.raise_lane, State.lane_modLane_other _ _ _ _ h, State.cleared_lane_other _ l h,
    State.setLaneState_lane_other _ _ _ h]

/-- The blocks that reaching IDLE does not write. -/
theorem State.reachIdle_frame : (s.reachIdle l).now = s.now ∧ (s.reachIdle l).ports = s.ports ∧
    (s.reachIdle l).claims = s.claims ∧ (s.reachIdle l).builder = s.builder ∧ (s.reachIdle l).link = s.link := by
  have c := (s.setLaneState l .idle).keeps_cleared l
  rw [State.reachIdle_eq]
  simp [c.now, c.ports, c.claims, c.builder, c.link]

/-- Where every station passes its check, no station in use is moved or paused. -/
theorem State.reachIdle_post (h : s.stationsSound) (k : Nat) (hk : (s.station k).state.kept = true) :
    (s.station k).SamePost ((s.reachIdle l).station k) := by
  have cleared := (s.setLaneState l .idle).quiet_cleared l (h.of_entries (by rw [State.setLaneState_stations]))
  have same : (s.setLaneState l .idle).station k = s.station k := State.station_of_stations (by simp) k
  have stations : (s.reachIdle l).stations = (((s.setLaneState l .idle).clearHistory l).emptyNotices l).stations := by
    rw [State.reachIdle_eq, State.raise_stations, State.modLane_stations]
  have post := cleared.post k (by rw [same]; exact hk)
  rw [same] at post
  rw [State.station_of_stations stations]
  exact post

/-- Where every station passes its check and the report queue has room, LANE_STOPPED is the one report. -/
theorem State.reachIdle_reports (h : s.stationsSound) (room : s.port.reports.length < Config.reports) :
    (s.reachIdle l).port.reports = s.port.reports ++ [⟨s.now, .laneStopped l⟩] := by
  have cleared := (s.setLaneState l .idle).quiet_cleared l (h.of_entries (by rw [State.setLaneState_stations]))
  have k := (s.setLaneState l .idle).keeps_cleared l
  have reports : (((s.setLaneState l .idle).clearHistory l).emptyNotices l).port.reports = s.port.reports := by
    rw [cleared.port, State.setLaneState_reports]
  rw [State.reachIdle_eq, State.raise_room]
  · simp [reports, k.now]
  · rw [State.modLane_port, reports]
    exact room

end

end Sys2Proof.Machine
end

section
/-! PROOFS. LANE_STOP of a LIVE and of a FAULTED lane (R15, R52). -/

namespace Sys2Proof.Machine

/-! ### A lane that leaves LIVE by LANE_STOP -/

/-- LANE_STOP of a LIVE lane before it is seen whether the lane reaches IDLE: DRAINING, its spans withdrawn, its stations moved. -/
def State.drained (s : State) (l : LaneId) : State := ((s.setLaneState l .draining).withdraw l).rehomeAll l

section
variable (s : State) (l : LaneId)

theorem State.keeps_drained : ((s.setLaneState l .draining).withdraw l).Keeps (s.drained l) := State.keeps_rehomeAll _ l

theorem State.drained_lane :
    (s.drained l).lane l = { s.lane l with state := .draining, notices := ((s.drained l).lane l).notices } := by
  have before : ((s.setLaneState l .draining).withdraw l).lane l = { s.lane l with state := .draining } :=
    State.setLaneState_lane_same s l .draining
  rw [(s.keeps_drained l).lane l, before]

theorem State.drained_lane_other {m : LaneId} (h : m ≠ l) : ((s.drained l).lane m).state = (s.lane m).state := by
  have before : ((s.setLaneState l .draining).withdraw l).lane m = s.lane m := State.setLaneState_lane_other s l .draining h
  rw [(s.keeps_drained l).lane m, before]

theorem State.drained_builder : (s.drained l).builder =
    { s.builder with waiting := s.builder.waiting.filter fun w => w.lane ≠ l } := by
  rw [(s.keeps_drained l).builder, State.withdraw, State.setLaneState_builder]

/-- The blocks that the stop does not write. -/
theorem State.drained_frame : (s.drained l).now = s.now ∧ (s.drained l).ports = s.ports ∧ (s.drained l).claims = s.claims ∧
    (s.drained l).link = s.link := by
  have k := s.keeps_drained l
  rw [k.now, k.ports, k.claims, k.link]
  simp

theorem State.drained_part (part : s.port.part = .config ∨ s.port.part = .running) : (s.drained l).port.part = .running := by
  rw [(s.keeps_drained l).part, State.withdraw_port]
  exact State.setLaneState_running (by decide) part

/-- The lane reaches IDLE at once where nothing of it is in flight. -/
theorem State.stopLive_eq : s.stopLive l =
    if s.queuedOf l = 0 ∧ s.building l = false then (s.drained l).reachIdle l else s.drained l := by
  have draining : ((s.drained l).lane l).state = .draining := by rw [s.drained_lane]
  have queued : (s.drained l).queuedOf l = s.queuedOf l := by
    rw [State.queuedOf, (s.drained_frame l).2.2.2, State.queuedOf]
  have building : (s.drained l).building l = s.building l := by
    rw [State.building_eq_any, s.drained_builder, State.building_eq_any]
  have stop : s.stopLive l = (s.drained l).settleDraining l := rfl
  rw [stop, State.settleDraining, draining, queued, building]
  simp

/-- What the stop of a LIVE lane leaves, whether or not the lane reaches IDLE. -/
theorem State.stopLive_frame :
    (s.stopLive l).builder = { s.builder with waiting := s.builder.waiting.filter fun w => w.lane ≠ l } ∧
      (s.stopLive l).link = s.link ∧ (s.stopLive l).claims = s.claims ∧ (s.stopLive l).ports = s.ports ∧
      (s.stopLive l).now = s.now ∧ ∀ m : LaneId, m ≠ l → ((s.stopLive l).lane m).state = (s.lane m).state := by
  obtain ⟨now, ports, claims, link⟩ := s.drained_frame l
  have builder := s.drained_builder l
  have lanes := fun m h => s.drained_lane_other l (m := m) h
  rw [State.stopLive_eq]
  split
  · obtain ⟨now', ports', claims', builder', link'⟩ := (s.drained l).reachIdle_frame l
    refine ⟨builder'.trans builder, link'.trans link, claims'.trans claims, ports'.trans ports, now'.trans now, ?_⟩
    intro m h
    rw [State.reachIdle_lane_other _ l h]
    exact lanes m h
  · exact ⟨builder, link, claims, ports, now, lanes⟩

/-- The lowest LIVE lane of a set, once lane `l` is DRAINING. -/
theorem State.lowestLive_draining (set : LaneSet) : ((s.setLaneState l .draining).withdraw l).lowestLive set =
    ([0, 1, 2, 3, 4, 5, 6, 7] : List LaneId).find? fun m =>
      decide (m ≠ l ∧ inSet set m = true ∧ (s.lane m).state = .live) := by
  have withdrawn : ((s.setLaneState l .draining).withdraw l).lowestLive = (s.setLaneState l .draining).lowestLive :=
    State.lowestLive_of_lanes rfl
  rw [withdrawn, State.lowestLive, lanesOf, List.find?_filter]
  refine congrArg (fun p => allLanes.find? p) (funext fun m => ?_)
  by_cases h : m = l
  · subst h
    simp [State.isLive, State.setLaneState_lane_same]
  · simp [State.isLive, State.setLaneState_lane_other _ _ _ h, h]

end

/-- Where every station passes its check, the stations at home on the lane that are not paused move or are paused. -/
theorem State.drained_station {s : State} (h : s.stationsSound) (l : LaneId) :
    (s.drained l).stationsSound ∧ ∀ k, (s.station k).state.kept = true →
      ((s.station k).home = l ∧ (s.station k).paused = false → (s.drained l).station k =
        ((s.station k).rehomed ((s.setLaneState l .draining).withdraw l).lowestLive).seal) ∧
      (¬((s.station k).home = l ∧ (s.station k).paused = false) → (s.drained l).station k = s.station k) := by
  have stations : ((s.setLaneState l .draining).withdraw l).stations = s.stations := by simp
  have spec := State.rehomeAll_spec (h.of_entries (by rw [stations])) l
  simp only [State.station_of_stations stations] at spec
  exact spec

/-- The stations after LANE_STOP of a LIVE lane: as the lane left LIVE, in state and place. -/
theorem State.stopLive_post {s : State} (h : s.stationsSound) (l : LaneId) (k : Nat)
    (hk : ((s.drained l).station k).state.kept = true) : ((s.drained l).station k).SamePost ((s.stopLive l).station k) := by
  rw [State.stopLive_eq]
  split
  · exact State.reachIdle_post _ l (State.drained_station h l).1 k hk
  · exact .refl _

/-! ### LANE_STOP of a FAULTED lane -/

theorem State.stopFaulted_lane (s : State) (l : LaneId) :
    (s.stopFaulted l).lane l = { s.lane l with state := .idle, nextSpan := 0 } := by
  rw [State.stopFaulted, State.raise_lane, State.lane_modLane_same, State.setLaneState_lane_same]

theorem State.stopFaulted_frame (s : State) (l : LaneId) :
    (s.stopFaulted l).builder = s.builder ∧ (s.stopFaulted l).link = s.link ∧ (s.stopFaulted l).stations = s.stations ∧
      (s.stopFaulted l).streams = s.streams := by
  simp [State.stopFaulted]

theorem State.stopFaulted_reports (s : State) (l : LaneId) (room : s.port.reports.length < Config.reports) :
    (s.stopFaulted l).port.reports = s.port.reports ++ [⟨s.now, .laneStopped l⟩] := by
  rw [State.stopFaulted, State.raise_room _ _ (by simpa using room)]
  simp

end Sys2Proof.Machine
end

section
/-! PROOFS. The transmit start of a DRAINING lane's plan (R144 to R146), and how the lane then reaches IDLE (R16). -/

namespace Sys2Proof.Machine

/-! ### What a transmit start leaves of the lane's course -/

/-- Plant time, the builder and the link are as they were, and of lane `l` the setup, the state, the consecutive-drop count and the
covered-until time. -/
structure State.KeepsCourse (l : LaneId) (s t : State) : Prop where
  now : t.now = s.now
  builder : t.builder = s.builder
  link : t.link = s.link
  setup : (t.lane l).setup = (s.lane l).setup
  state : (t.lane l).state = (s.lane l).state
  drops : (t.lane l).drops = (s.lane l).drops
  covered : (t.lane l).coveredUntil = (s.lane l).coveredUntil

namespace State.KeepsCourse

variable {l : LaneId} {s t u : State}

theorem refl (s : State) : s.KeepsCourse l s := ⟨rfl, rfl, rfl, rfl, rfl, rfl, rfl⟩

theorem trans (h : State.KeepsCourse l s t) (k : State.KeepsCourse l t u) : State.KeepsCourse l s u :=
  ⟨k.now.trans h.now, k.builder.trans h.builder, k.link.trans h.link, k.setup.trans h.setup, k.state.trans h.state,
    k.drops.trans h.drops, k.covered.trans h.covered⟩

theorem of_lanes (now : t.now = s.now) (builder : t.builder = s.builder) (link : t.link = s.link) (lanes : t.lanes = s.lanes) :
    State.KeepsCourse l s t := by
  have lane : t.lane l = s.lane l := by rw [State.lane, State.lane, lanes]
  refine ⟨now, builder, link, ?_, ?_, ?_, ?_⟩ <;> rw [lane]

/-- A write of a lane's fields other than those four. -/
theorem of_modLane {f : Lane → Lane} (frame : ∀ v : Lane, f v =
      { f v with setup := v.setup, state := v.state, drops := v.drops, coveredUntil := v.coveredUntil }) :
    State.KeepsCourse l s (s.modLane l f) := by
  refine ⟨rfl, rfl, rfl, ?_, ?_, ?_, ?_⟩ <;> rw [State.lane_modLane_same, frame]

theorem ite {p : Prop} [Decidable p] (ht : p → State.KeepsCourse l s t) (hu : ¬p → State.KeepsCourse l s u) :
    State.KeepsCourse l s (if p then t else u) := by
  split
  · exact ht ‹_›
  · exact hu ‹_›

end State.KeepsCourse

/-- What an operation over the tables keeps, the course of a lane among it. -/
theorem State.Keeps.course {s t : State} (h : s.Keeps t) (l : LaneId) : State.KeepsCourse l s t := by
  refine ⟨h.now, h.builder, h.link, ?_, ?_, ?_, ?_⟩ <;> rw [h.lane l]

section
variable (s : State) (l : LaneId)

theorem State.course_setClaim (m : LaneId) (c : Claim) : State.KeepsCourse l s (s.setClaim m c) := .of_lanes rfl rfl rfl rfl

theorem State.course_missingTally (m : LaneId) : State.KeepsCourse l s (s.missingTally m) :=
  .ite (fun _ => (s.course_setClaim l m _).trans <| (State.course_setClaim _ l m _).trans ((State.keeps_raise _ _).course l))
    (fun _ => s.course_setClaim l m _)

theorem State.course_evict (h : HistEntry) : State.KeepsCourse l s (s.evict l h) := by
  have before : s.Keeps (h.turns.foldl (State.evictTurn l h.seq) (s.lowerRefs h.stations h.streams)) :=
    (s.keeps_lowerRefs _ _).trans (.foldl (fun s a => s.keeps_evictTurn l h.seq a) _ _)
  exact .ite (fun _ => (before.course l).trans (State.course_missingTally _ l l)) (fun _ => before.course l)

theorem State.course_pushHistory (h : HistEntry) : State.KeepsCourse l s (s.pushHistory l h) := by
  refine .ite (fun _ => ?_) (fun _ => .of_modLane fun _ => rfl)
  split
  · exact .refl s
  · exact .trans (.of_modLane fun _ => rfl) (State.course_evict _ l _)

theorem State.course_reportSlips (r : PlanRecord) (n : Nat) (lowest : Option Nat) :
    State.KeepsCourse l s (s.reportSlips r n lowest) :=
  .ite (fun _ => (s.keeps_raise _).course l) (fun _ => .refl s)

theorem State.course_judgeLate (r : PlanRecord) (M : Int) (hl : r.lane = l) : State.KeepsCourse l s (s.judgeLate r M) := by
  subst hl
  exact .ite (fun _ => .ite (fun _ => .refl s) (fun _ => .trans (.of_modLane fun _ => rfl) ((State.keeps_raise _ _).course _)))
    (fun _ => .of_modLane fun _ => rfl)

theorem State.course_count (f : LaneCounters → LaneCounters) : State.KeepsCourse l s (s.count l f) :=
  .of_modLane fun _ => rfl

theorem State.course_loseCadence (is : List Nat) : State.KeepsCourse l s (is.foldl (State.loseCadence l) s) :=
  List.foldlRecOn is _ (.refl s) fun t h i _ =>
    h.trans (((t.keeps_modStream i _).course l).trans (State.course_count _ l _))

end

/-! ### The commit and the drop of a plan -/

section
variable (s : State) (p : Plan) (M : Int)

/-- Steps 1 to 3 of a commit: the streams, the notices and the history entry (R145). -/
def State.recordPlan : State := ((s.commitStreams p).commitNotices p.record).pushHistory p.record.lane p.entry

/-- The rest of a commit: the course of the lane, the reports and the transmitter. -/
def State.sendPlan : State :=
  let told := ((s.commitLane p.record).judgeLate p.record M).reportSlips p.record p.slips p.lowestSlip
  { told with link := { told.link with sending := some p.record } }

theorem State.commit_eq : s.commit p M = (s.recordPlan p).sendPlan p M := rfl

/-- What a drop gives back and clears (R146). -/
def State.undoPlan : State :=
  ((p.cadence.foldl (State.loseCadence p.record.lane) (s.restoreData p.data)).clearMarks p.record).lowerRefs
    p.stations p.streams

/-- The count of a drop and its reports. -/
def State.tellDrop : State :=
  let counted := s.countDrop p.record.lane
  (counted.raise (.dropped p.record.lane p.record.seq .margin M (counted.lane p.record.lane).drops)).reportSlips p.record
    (p.slips + p.cadence.length) (lowestOf p.lowestSlip p.cadence)

theorem State.drop_eq : s.drop p M = ((s.undoPlan p).tellDrop p M).faultIfDue p.record.lane := rfl

theorem State.course_recordPlan : State.KeepsCourse p.record.lane s (s.recordPlan p) :=
  (((s.keeps_commitStreams p).trans (State.keeps_commitNotices _ p.record)).course _).trans
    (State.course_pushHistory _ p.record.lane p.entry)

theorem State.course_undoPlan : State.KeepsCourse p.record.lane s (s.undoPlan p) :=
  ((s.keeps_restoreData p.data).course _).trans <| (State.course_loseCadence _ _ _).trans <|
    ((State.keeps_clearMarks _ _).course _).trans ((State.keeps_lowerRefs _ _ _).course _)

/-- A commit makes the transmitter SENDING, begins the drop count again and covers the span. -/
theorem State.commit_course :
    (s.commit p M).now = s.now ∧ (s.commit p M).builder = s.builder ∧
      (s.commit p M).link = { s.link with sending := some p.record } ∧
      ((s.commit p M).lane p.record.lane).setup = (s.lane p.record.lane).setup ∧
      ((s.commit p M).lane p.record.lane).state = (s.lane p.record.lane).state ∧
      ((s.commit p M).lane p.record.lane).drops = 0 ∧
      ((s.commit p M).lane p.record.lane).coveredUntil = some p.record.stop := by
  have recorded := s.course_recordPlan p
  rw [State.commit_eq]
  generalize s.recordPlan p = c at recorded
  have told := (State.course_judgeLate (c.commitLane p.record) _ p.record M rfl).trans
    (State.course_reportSlips _ p.record.lane p.record p.slips p.lowestSlip)
  have committed : (c.commitLane p.record).lane p.record.lane =
      { c.lane p.record.lane with
        coveredUntil := some p.record.stop, drops := 0
        counters := { (c.lane p.record.lane).counters with
          transmitted := raiseBy 1 (c.lane p.record.lane).counters.transmitted } } := State.lane_modLane_same c _ _
  refine ⟨told.now.trans recorded.now, told.builder.trans recorded.builder, ?_,
    (told.setup.trans ?_).trans recorded.setup, (told.state.trans ?_).trans recorded.state, told.drops.trans ?_,
    told.covered.trans ?_⟩
  · rw [State.sendPlan]
    dsimp only
    rw [told.link.trans recorded.link]
  all_goals rw [committed]

/-- A drop of a lane that is not LIVE faults nothing (R17): it counts, and leaves the rest of the lane's course. -/
theorem State.drop_course (state : (s.lane p.record.lane).state ≠ .live) :
    s.drop p M = (s.undoPlan p).tellDrop p M ∧
      (s.drop p M).now = s.now ∧ (s.drop p M).builder = s.builder ∧ (s.drop p M).link = s.link ∧
      ((s.drop p M).lane p.record.lane).setup = (s.lane p.record.lane).setup ∧
      ((s.drop p M).lane p.record.lane).state = (s.lane p.record.lane).state ∧
      ((s.drop p M).lane p.record.lane).drops = min ((s.lane p.record.lane).drops + 1) 15 ∧
      ((s.drop p M).lane p.record.lane).coveredUntil = (s.lane p.record.lane).coveredUntil := by
  have undone := s.course_undoPlan p
  rw [State.drop_eq]
  generalize s.undoPlan p = c at undone
  have told : State.KeepsCourse p.record.lane (c.countDrop p.record.lane) (c.tellDrop p M) :=
    ((State.keeps_raise _ _).course _).trans (State.course_reportSlips _ _ _ _ _)
  have counted : (c.countDrop p.record.lane).lane p.record.lane =
      { c.lane p.record.lane with
        drops := satAdd Config.dropMax (c.lane p.record.lane).drops 1
        counters := { (c.lane p.record.lane).counters with
          dropped := raiseBy 1 (c.lane p.record.lane).counters.dropped } } := State.lane_modLane_same c _ _
  have same : ((c.tellDrop p M).lane p.record.lane).state = (s.lane p.record.lane).state :=
    (told.state.trans (by rw [counted])).trans undone.state
  have unfaulted : (c.tellDrop p M).faultIfDue p.record.lane = c.tellDrop p M := by
    rw [State.faultIfDue, if_neg]
    rw [same]
    exact fun h => state h.1
  rw [unfaulted]
  refine ⟨rfl, told.now.trans undone.now, told.builder.trans undone.builder, told.link.trans undone.link,
    (told.setup.trans ?_).trans undone.setup, same, told.drops.trans ?_, (told.covered.trans ?_).trans undone.covered⟩
  · rw [counted]
  · rw [counted, undone.drops]
    rfl
  · rw [counted]

end

/-! ### The reports of a transmit start -/

/-- At most `n` reports have joined the report queue. -/
def State.Tells (n : Nat) (s t : State) : Prop := ∃ told : List Report, told.length ≤ n ∧ t.port.reports = s.port.reports ++ told

theorem State.Tells.of_port {s t : State} (h : t.port = s.port) : State.Tells 0 s t := ⟨[], le_rfl, by rw [h, List.append_nil]⟩

theorem State.Tells.trans {m n : Nat} {s t u : State} (h : State.Tells m s t) (k : State.Tells n t u) :
    State.Tells (m + n) s u := by
  obtain ⟨a, ha, hs⟩ := h
  obtain ⟨b, hb, ht⟩ := k
  exact ⟨a ++ b, by rw [List.length_append]; omega, by rw [ht, hs, List.append_assoc]⟩

theorem State.tells_raise (s : State) (b : ReportBody) : State.Tells 1 s (s.raise b) := by
  unfold State.raise
  split
  · exact ⟨[⟨s.now, b⟩], le_rfl, rfl⟩
  · exact ⟨[], Nat.zero_le _, (List.append_nil _).symm⟩

theorem State.tells_reportSlips (s : State) (r : PlanRecord) (n : Nat) (lowest : Option Nat) :
    State.Tells 1 s (s.reportSlips r n lowest) := by
  unfold State.reportSlips
  split
  · exact s.tells_raise _
  · exact ⟨[], Nat.zero_le _, (List.append_nil _).symm⟩

theorem State.tells_judgeLate (s : State) (r : PlanRecord) (M : Int) : State.Tells 1 s (s.judgeLate r M) := by
  unfold State.judgeLate
  split
  · split
    · exact ⟨[], Nat.zero_le _, (List.append_nil _).symm⟩
    · exact State.tells_raise (s.modLane r.lane fun v => { v with late := true }) _
  · exact ⟨[], Nat.zero_le _, (List.append_nil _).symm⟩

theorem State.reportSlips_stations (s : State) (r : PlanRecord) (n : Nat) (lowest : Option Nat) :
    (s.reportSlips r n lowest).stations = s.stations := by
  unfold State.reportSlips
  split <;> simp

theorem State.judgeLate_stations (s : State) (r : PlanRecord) (M : Int) : (s.judgeLate r M).stations = s.stations := by
  unfold State.judgeLate
  split
  · split <;> simp
  · simp

section
variable (s : State) (p : Plan) (M : Int)

theorem State.sendPlan_stations : (s.sendPlan p M).stations = s.stations := by
  rw [State.sendPlan]
  dsimp only
  rw [State.reportSlips_stations, State.judgeLate_stations]
  rfl

theorem State.tellDrop_stations : (s.tellDrop p M).stations = s.stations := by
  rw [State.tellDrop, State.reportSlips_stations, State.raise_stations]
  rfl

theorem State.tells_sendPlan : State.Tells 2 s (s.sendPlan p M) :=
  ((s.commitLane p.record).tells_judgeLate p.record M).trans (State.tells_reportSlips _ p.record p.slips p.lowestSlip)

theorem State.tells_tellDrop : State.Tells 2 s (s.tellDrop p M) :=
  ((s.countDrop p.record.lane).tells_raise _).trans (State.tells_reportSlips _ p.record _ _)

end

/-- What an operation over the streams leaves where every stream passes its check. -/
structure State.WritesStreams (s t : State) : Prop where
  sound : t.streamsSound
  port : t.port = s.port
  stations : t.stations = s.stations

namespace State.WritesStreams

theorem trans {s t u : State} (h : State.WritesStreams s t) (k : State.WritesStreams t u) : State.WritesStreams s u :=
  ⟨k.sound, k.port.trans h.port, k.stations.trans h.stations⟩

theorem foldl {α : Type} {f : State → α → State}
    (step : ∀ (s : State) (a : α), s.streamsSound → State.WritesStreams s (f s a)) (l : List α) {s : State} (h : s.streamsSound) :
    State.WritesStreams s (l.foldl f s) :=
  List.foldlRecOn l f ⟨h, rfl, rfl⟩ fun _ q a _ => q.trans (step _ a q.sound)

end State.WritesStreams

namespace State.streamsSound

variable {s : State} (h : s.streamsSound)
include h

theorem writes_modStream (i : Nat) (f : StreamEntry → StreamEntry) : State.WritesStreams s (s.modStream i f) :=
  ⟨h.putStream i _, rfl, rfl⟩

theorem writes_joinLists (i : Nat) : State.WritesStreams s (s.joinLists i) := by
  refine .foldl (fun t l ht => ?_) _ h
  unfold State.joinList
  split
  · exact ⟨ht, rfl, rfl⟩
  · exact ⟨ht.of_entries rfl, rfl, rfl⟩

theorem writes_restoreData (data : List DataTurn) : State.WritesStreams s (s.restoreData data) := by
  have given : State.WritesStreams s (data.foldl State.givePlanned s) := .foldl (fun t d ht => by
    rw [State.givePlanned, t.checkStream_passes _ _ (ht.2 _)]
    exact ht.writes_modStream _ _) _ h
  refine given.trans (.foldl (fun t i ht => ?_) _ given.sound)
  unfold State.rejoinRaised
  split
  · exact ht.writes_joinLists i
  · exact ⟨ht, rfl, rfl⟩

theorem writes_commitStreams (p : Plan) : State.WritesStreams s (s.commitStreams p) :=
  have committed : State.WritesStreams s (p.data.foldl State.commitData s) := .foldl (fun t d ht => by
    rw [State.commitData, t.checkStream_passes _ _ (ht.2 _)]
    exact ht.writes_modStream _ _) _ h
  committed.trans (.foldl (fun _ i ht => ht.writes_modStream i _) _ committed.sound)

theorem writes_loseCadence (l : LaneId) (is : List Nat) : State.WritesStreams s (is.foldl (State.loseCadence l) s) :=
  .foldl (f := State.loseCadence l) (fun _ i ht => ⟨(ht.putStream i _).of_entries rfl, rfl, rfl⟩) _ h

end State.streamsSound

section
variable {s : State} (stations : s.stationsSound) (streams : s.streamsSound) (p : Plan) (M : Int)
include stations streams

/-- A commit that evicts no entry, where every read passes its check: at most LATE and SLIPPED. -/
theorem State.commit_tells (room : (s.lane p.record.lane).history.length < Config.history) :
    (s.commit p M).stationsSound ∧ State.Tells 2 s (s.commit p M) := by
  have written := streams.writes_commitStreams p
  have quiet := (stations.of_entries (by rw [written.stations])).quiet_commitNotices p.record
  have keeps := (s.keeps_commitStreams p).trans (State.keeps_commitNotices _ p.record)
  have port := quiet.port.trans written.port
  have sound := quiet.sound
  have recorded : s.recordPlan p = ((s.commitStreams p).commitNotices p.record).pushHistory p.record.lane p.entry := rfl
  rw [State.commit_eq, recorded]
  generalize (s.commitStreams p).commitNotices p.record = c at keeps port sound
  have history : (c.lane p.record.lane).history = (s.lane p.record.lane).history := by rw [keeps.lane]
  have fits : ¬Config.history < ((c.lane p.record.lane).history ++ [p.entry]).length := by
    rw [history, List.length_append, List.length_singleton]
    omega
  rw [State.pushHistory, if_neg fits]
  exact ⟨sound.of_entries (by rw [State.sendPlan_stations]; rfl),
    (State.Tells.of_port port).trans (State.tells_sendPlan (c.modLane p.record.lane _) p M)⟩

/-- A drop where every read passes its check: DROPPED and at most SLIPPED. -/
theorem State.tellDrop_tells :
    ((s.undoPlan p).tellDrop p M).stationsSound ∧ State.Tells 2 s ((s.undoPlan p).tellDrop p M) := by
  have restored := streams.writes_restoreData p.data
  have lost := restored.trans (restored.sound.writes_loseCadence p.record.lane p.cadence)
  have cleared := (stations.of_entries (by rw [lost.stations])).quiet_clearMarks p.record
  have undone := cleared.trans (cleared.sound.quiet_lowerRefs p.stations p.streams)
  exact ⟨undone.sound.of_entries (by rw [State.tellDrop_stations]; rfl),
    (State.Tells.of_port (undone.port.trans lost.port)).trans (State.tells_tellDrop (s.undoPlan p) p M)⟩

end

end Sys2Proof.Machine
end

section
/-! PROOFS. The DRAINING lane's last plan, and the whole of LANE_STOP (R15, R16). -/

namespace Sys2Proof.Machine

/-! ### The stations of a lane that leaves LIVE -/

/-- A lane with a queued plan or a build in progress stays DRAINING (R15). -/
theorem State.stopLive_of_busy {s : State} {l : LaneId} (busy : 0 < s.queuedOf l ∨ s.building l = true) :
    s.stopLive l = s.drained l := by
  rw [State.stopLive_eq, if_neg]
  rintro ⟨queued, building⟩
  rcases busy with busy | busy
  · omega
  · rw [building] at busy
    cases busy

/-- Where every station passes its check: a station at home on the lane that is not paused moves to the lowest other LIVE lane of
its set, or is paused where there is none; the others stay, and due times stay while the lane is DRAINING (R52). -/
theorem State.stopLive_station {s : State} (h : s.stationsSound) (l : LaneId) (k : Nat)
    (hk : (s.station k).state.kept = true) :
    let moved := (s.station k).home = l ∧ (s.station k).paused = false
    let low := ((s.setLaneState l .draining).withdraw l).lowestLive (s.station k).laneSet
    ((s.stopLive l).station k).state = (s.station k).state ∧
      (∀ m, moved → low = some m → ((s.stopLive l).station k).home = m ∧ ((s.stopLive l).station k).paused = false) ∧
      (moved → low = none → ((s.stopLive l).station k).home = l ∧ ((s.stopLive l).station k).paused = true) ∧
      (¬moved → ((s.stopLive l).station k).home = (s.station k).home ∧
        ((s.stopLive l).station k).paused = (s.station k).paused) ∧
      (0 < s.queuedOf l ∨ s.building l = true → ((s.stopLive l).station k).due = (s.station k).due) := by
  intro moved low
  obtain ⟨moves, stays⟩ := (State.drained_station h l).2 k hk
  have left : ((s.drained l).station k).state = (s.station k).state ∧ ((s.drained l).station k).due = (s.station k).due := by
    by_cases hm : moved
    · obtain ⟨state, -, due, -⟩ :=
        StationEntry.rehomed_kept ((s.setLaneState l .draining).withdraw l).lowestLive (s.station k)
      rw [moves hm]
      exact ⟨state, due⟩
    · rw [stays hm]
      exact ⟨rfl, rfl⟩
  obtain ⟨state, -, home, paused⟩ := State.stopLive_post h l k (by rw [left.1]; exact hk)
  refine ⟨state.trans left.1, fun m hm hlow => ?_, fun hm hlow => ?_, fun hm => ?_, fun busy => ?_⟩
  · rw [home, paused, moves hm, StationEntry.rehomed_some hlow]
    exact ⟨rfl, hm.2⟩
  · rw [home, paused, moves hm, StationEntry.rehomed_none hlow]
    exact ⟨hm.1, rfl⟩
  · rw [home, paused, stays hm]
    exact ⟨rfl, rfl⟩
  · rw [State.stopLive_of_busy busy]
    exact left.2

/-! ### A DRAINING lane after its plan has left the queue -/

theorem State.queuedOf_eq_zero (s : State) (l : LaneId) : s.queuedOf l = 0 ↔ ∀ q ∈ s.link.queue, q.record.lane ≠ l := by
  simp [State.queuedOf, List.filter_eq_nil_iff]

/-- A DRAINING lane reaches IDLE exactly when nothing of it is in flight (R16). -/
theorem State.settleDraining_eq {s : State} {l : LaneId} (draining : (s.lane l).state = .draining) :
    s.settleDraining l =
      if (∀ q ∈ s.link.queue, q.record.lane ≠ l) ∧ s.building l = false then s.reachIdle l else s := by
  simp only [State.settleDraining, draining, State.queuedOf_eq_zero, true_and]

/-- Reaching IDLE or not, the link, the setup, the drop count and the covered-until time are as they were. -/
theorem State.settleDraining_course {s : State} {l : LaneId} (draining : (s.lane l).state = .draining) :
    (s.settleDraining l).link = s.link ∧ ((s.settleDraining l).lane l).setup = (s.lane l).setup ∧
      ((s.settleDraining l).lane l).drops = (s.lane l).drops ∧
      ((s.settleDraining l).lane l).coveredUntil = (s.lane l).coveredUntil := by
  rw [State.settleDraining_eq draining]
  split
  · rw [State.reachIdle_lane]
    exact ⟨(s.reachIdle_frame l).2.2.2.2, rfl, rfl, rfl⟩
  · exact ⟨rfl, rfl, rfl, rfl⟩

/-- LANE_STOPPED stands behind the reports of the transmit start, where they leave it a place. -/
theorem State.reachIdle_behind {s t : State} {l : LaneId} (told : State.Tells 2 s t) (sound : t.stationsSound)
    (now : t.now = s.now) (room : s.port.reports.length < 62) :
    ∃ reports, (t.reachIdle l).port.reports = s.port.reports ++ reports ++ [⟨s.now, .laneStopped l⟩] := by
  obtain ⟨reports, count, joined⟩ := told
  refine ⟨reports, ?_⟩
  have fits : t.port.reports.length < Config.reports := by
    rw [joined, List.length_append, Config.reports]
    omega
  rw [t.reachIdle_reports l sound fits, joined, now]

/-- The outcome of a DRAINING lane's transmit start from the state `t` that the commit or the drop leaves; `heard` is what the
reports are told under. -/
theorem State.transmit_settles {s t : State} {l : LaneId} {u : LaneSetup} {queue : List Plan} {sending : Option PlanRecord}
    {drops : Nat} {covered : Option Time} {heard : Prop} (now : t.now = s.now) (builder : t.builder = s.builder)
    (link : t.link = { queue := queue, sending := sending }) (setup : (t.lane l).setup = some u)
    (state : (t.lane l).state = .draining) (hd : (t.lane l).drops = drops) (hc : (t.lane l).coveredUntil = covered)
    (told : heard → t.stationsSound ∧ State.Tells 2 s t) :
    let last := (∀ q ∈ queue, q.record.lane ≠ l) ∧ s.building l = false
    let r := t.settleDraining l
    r.link = { queue := queue, sending := sending } ∧ (r.lane l).setup = some u ∧ (r.lane l).drops = drops ∧
      (r.lane l).coveredUntil = covered ∧ (¬last → (r.lane l).state = .draining) ∧
      (last → (r.lane l).state = .idle ∧ (r.lane l).history = [] ∧ (r.lane l).notices = [] ∧ (r.lane l).nextSpan = 0 ∧
        (heard → s.port.reports.length < 62 →
          ∃ reports, r.port.reports = s.port.reports ++ reports ++ [⟨s.now, .laneStopped l⟩])) := by
  intro last r
  obtain ⟨link', setup', drops', covered'⟩ := State.settleDraining_course state
  have building : t.building l = s.building l := by rw [State.building_eq_any, State.building_eq_any, builder]
  have settled : r = if last then t.reachIdle l else t := by
    have h := State.settleDraining_eq state
    rwa [building, link] at h
  refine ⟨link'.trans link, setup'.trans setup, drops'.trans hd, covered'.trans hc, fun more => ?_, fun idle => ?_⟩
  · rw [settled, if_neg more, state]
  · rw [settled, if_pos idle, State.reachIdle_lane]
    refine ⟨rfl, rfl, rfl, rfl, fun h room => ?_⟩
    obtain ⟨sound, tells⟩ := told h
    exact State.reachIdle_behind tells sound now room

/-- The state whose head plan has left the output queue. -/
def State.popped (s : State) (rest : List Plan) : State := { s with link := { queue := rest, sending := none } }

/-- At a transmit start the head plan leaves the queue; it is committed with a margin of Df and dropped below it (R144). -/
theorem State.startTransmit_eq {s : State} {p : Plan} {rest : List Plan} {u : LaneSetup}
    (ready : s.ready = true) (link : s.link = { queue := p :: rest, sending := none })
    (setup : (s.lane p.record.lane).setup = some u) :
    s.startTransmit =
      (if p.expired = false ∧ (u.Df : Int) ≤ (p.record.start - s.now).toInt then
          (s.popped rest).commit p (p.record.start - s.now).toInt
        else (s.popped rest).drop p (p.record.start - s.now).toInt).settleDraining p.record.lane := by
  have setupOf : s.setupOf p.record.lane = u := by rw [State.setupOf, setup]; rfl
  unfold State.startTransmit
  simp only [State.popped, link, ready, setupOf, marginOf, if_true]
  by_cases commits : p.expired = false ∧ (u.Df : Int) ≤ (p.record.start - s.now).toInt
  · have late : (p.expired || decide ((p.record.start - s.now).toInt < (u.Df : Int))) = false := by
      rw [commits.1, Bool.false_or, decide_eq_false_iff_not, not_lt]
      exact commits.2
    simp only [late, if_pos commits, Bool.false_eq_true, if_false]
  · have late : (p.expired || decide ((p.record.start - s.now).toInt < (u.Df : Int))) = true := by
      rw [Bool.or_eq_true, decide_eq_true_eq, ← not_le]
      by_cases expired : p.expired = true
      · exact .inl expired
      · exact .inr fun le => commits ⟨by simpa using expired, le⟩
    simp only [late, if_neg commits, if_true]

end Sys2Proof.Machine

open Sys2Proof Sys2Proof.Machine

/-- Settles O24. LANE_STOP is `stopLive` or `stopFaulted`, and the transmit start a commit or a drop that keeps the lane's course
and tells at most two reports; then the lane reaches IDLE where nothing of it is in flight. -/
theorem laneStopDrainsOrReachesIdle : Obligations.LaneStopDrainsOrReachesIdle := by
  refine ⟨fun s d req b l h ho hl => ⟨fun live => ?_, fun faulted room => ?_⟩, ?_⟩
  · obtain ⟨builder, link, claims, ports, now, states⟩ := d.stopLive_frame l
    refine ⟨d.stopLive l, State.request_done h ho (laneStopRule_live hl live), by rw [builder], by rw [builder], link, states,
      claims, ports, now, fun busy => ?_, fun queued building => ?_, fun canonical checks k hk => ?_⟩
    · rw [State.stopLive_of_busy busy]
      exact ⟨d.drained_part l ho.2, d.drained_lane l⟩
    · rw [State.stopLive_eq, if_pos ⟨queued, building⟩, State.reachIdle_lane, State.drained_lane]
    · rw [← State.lowestLive_draining]
      exact State.stopLive_station ⟨canonical.1, checks⟩ l k hk
  · obtain ⟨builder, link, stations, streams⟩ := d.stopFaulted_frame l
    exact ⟨d.stopFaulted l, State.request_done h ho (laneStopRule_faulted hl faulted), d.stopFaulted_lane l,
      d.stopFaulted_reports l room, builder, link, stations, streams⟩
  · rintro s l p rest u M pin canonical ready link rfl draining setup rfl stations streams
    have ran : exec .transmitStart s = .next s.startTransmit := s.unlessReset_free _ pin
    rw [State.startTransmit_eq ready link setup] at ran
    have sound : (s.popped rest).stationsSound := ⟨canonical.1, stations⟩
    have streamsSound : (s.popped rest).streamsSound := ⟨canonical.2.1, streams⟩
    intro last commits
    by_cases hc : commits
    · rw [if_pos hc] at ran
      simp only [if_pos hc]
      obtain ⟨now, builder, link', setup', state, drops, covered⟩ :=
        (s.popped rest).commit_course p (p.record.start - s.now).toInt
      refine ⟨_, ran, State.transmit_settles now builder link' (setup'.trans setup) (state.trans draining) drops covered
        fun heard => ?_⟩
      exact State.commit_tells sound streamsSound p _ (heard.resolve_right fun dropped => dropped hc)
    · rw [if_neg hc] at ran
      simp only [if_neg hc]
      have notLive : ((s.popped rest).lane p.record.lane).state ≠ .live := by
        intro live
        cases draining.symm.trans live
      obtain ⟨dropped, now, builder, link', setup', state, drops, covered⟩ :=
        (s.popped rest).drop_course p (p.record.start - s.now).toInt notLive
      refine ⟨_, ran, State.transmit_settles now builder link' (setup'.trans setup) (state.trans draining) drops covered
        fun _ => ?_⟩
      rw [dropped]
      exact State.tellDrop_tells sound streamsSound p _
end

section
/-! PROOFS. The checks of a reception record in their order (R27, R29 to R31), and the malformed records (R28). -/

namespace Sys2Proof.Machine

/-! ### The tag check (R29, R177) -/

theorem oddOnes_eq (k n : Nat) : oddOnes k n = decide (((List.range k).filter n.testBit).length % 2 = 1) := by
  induction k generalizing n with
  | zero => rfl
  | succ k ih =>
    have rest : ((List.range k).map Nat.succ).filter n.testBit = ((List.range k).filter (n / 2).testBit).map Nat.succ := by
      simp [List.filter_map, Function.comp_def, Nat.testBit_succ]
    rw [oddOnes, ih, List.range_succ_eq_map, List.filter_cons, rest, Nat.testBit_zero]
    rcases Nat.mod_two_eq_zero_or_one n with low | low
    · simp [low]
    · simp [low, Nat.succ_mod_two_eq_one_iff, ← decide_not]

theorem testBit_tagOfTagWord (w : BitVec 16) {i : Nat} (hi : i < 12) : (tagOfTagWord w).testBit i = w.getLsbD i :=
  (BitVec.getLsbD_extractLsb' ..).trans (by simp [hi])

theorem tagOfTagWord_eq (w : BitVec 16) : tagOfTagWord w = w.toNat % 4096 := by
  simp [tagOfTagWord]

/-- The bits counted one by one are the twelve of the tag and then the check bit. -/
theorem tagCheckPasses_iff (w : BitVec 16) : tagCheckPasses w = true ↔
    (([0, 1, 2, 3, 4, 5, 6, 7, 8, 9, 10, 11, 15] : List Nat).filter fun k => w.getLsbD k).length % 2 = 1 := by
  have tag : (List.range 12).filter (tagOfTagWord w).testBit = (List.range 12).filter fun k => w.getLsbD k :=
    List.filter_congr fun i hi => testBit_tagOfTagWord w (List.mem_range.1 hi)
  have bits : ([0, 1, 2, 3, 4, 5, 6, 7, 8, 9, 10, 11, 15] : List Nat) = List.range 12 ++ [15] := by decide
  have checkBit : ([15] : List Nat).filter (fun k => w.getLsbD k) = if w.getLsbD 15 then [15] else [] := List.filter_cons
  rw [tagCheckPasses, oddOnes_eq, tag, bits, List.filter_append, List.length_append, checkBit]
  cases w.getLsbD 15
  · simp
  · simp [Nat.succ_mod_two_eq_one_iff]

/-! ### Malformed records (R28) -/

theorem bidMalformed_iff (h : RecordHead) (w : BitVec 16) (slot seq source : Byte) (n : BitVec 32) :
    bidMalformed h w slot seq n source = true ↔ h.frameLen ≠ 20 ∨ w.toNat % 4096 = 0 ∨ 7 < slot.toNat ∨ 15 < seq.toNat ∨
      n.toNat = 0 ∨ 1048575 < n.toNat ∨ (source ≠ 1 ∧ source ≠ 2) := by
  have zero : n = 0 ↔ n.toNat = 0 := BitVec.toNat_eq
  simp only [bidMalformed, tagOfTagWord_eq, Bool.or_eq_true, bne_iff_ne, beq_iff_eq, decide_eq_true_eq, Bool.not_eq_true',
    Bool.or_eq_false_iff, beq_eq_false_iff_ne, zero, or_assoc]

theorem tallyMalformed_iff (h : RecordHead) (n c x e : BitVec 16) :
    tallyMalformed h n c x e = true ↔ h.frameLen ≠ 16 ∨ 1024 < n.toNat ∨ 1024 < c.toNat ∨ 1024 < x.toNat ∨ 1024 < e.toNat ∨
      c.toNat + x.toNat + e.toNat ≠ n.toNat := by
  simp [tallyMalformed, or_assoc]

theorem measurementMalformed_iff (et : BitVec 16) (ep q : Byte) :
    measurementMalformed et ep q = true ↔
      et.toInt < -2048 ∨ 2047 < et.toInt ∨ ep.toInt < -64 ∨ 63 < ep.toInt ∨ 63 < q.toNat := by
  simp [measurementMalformed, or_assoc]

theorem taggedMalformed_iff (h : RecordHead) (form : Byte) (w et : BitVec 16) (ep q : Byte) :
    taggedMalformed h form w et ep q = true ↔
      h.frameLen ≠ 22 ∨ form ≠ 1 ∨ w.toNat % 4096 = 0 ∨ measurementMalformed et ep q = true := by
  simp [taggedMalformed, tagOfTagWord_eq, or_assoc]

theorem addressMalformed_iff (h : RecordHead) (a : HwAddr) (et : BitVec 16) (ep q : Byte) :
    addressMalformed h a et ep q = true ↔
      h.frameLen ≠ 22 ∨ a.toNat = 0 ∨ a.toNat = 2 ^ 48 - 1 ∨ measurementMalformed et ep q = true := by
  have zero : a = 0 ↔ a.toNat = 0 := BitVec.toNat_eq
  have ones : a = BitVec.allOnes 48 ↔ a.toNat = 2 ^ 48 - 1 := by rw [BitVec.toNat_eq, BitVec.toNat_allOnes]
  simp only [addressMalformed, Bool.or_eq_true, bne_iff_ne, beq_iff_eq, zero, ones, or_assoc]

/-! ### What each check does (R27, R31) -/

section
variable (s : State) (h : RecordHead)

theorem State.rx_seen : (s.seen h).rx h.port = { s.rx h.port with watermark := serialMax (s.rx h.port).watermark h.time } :=
  s.rx_setRx_same h.port _

theorem State.admitRecord_notOpen {bad : Bool} {go : State → State} (closed : s.laneOpen h.port = false) :
    State.admitRecord h bad go s =
      s.setRx h.port { s.rx h.port with notOpen := min ((s.rx h.port).notOpen + 1) 4294967295 } := by
  rw [State.admitRecord, closed]
  rfl

theorem State.admitRecord_open {bad : Bool} {go : State → State} (isOpen : s.laneOpen h.port = true) :
    State.admitRecord h bad go s =
      if bad then (s.seen h).modRx h.port fun p => { p with malformed := raiseBy 1 p.malformed } else go (s.seen h) := by
  rw [State.admitRecord, if_pos isOpen]
  rfl

theorem State.admitRecord_malformed {go : State → State} (isOpen : s.laneOpen h.port = true) :
    State.admitRecord h true go s = (s.seen h).setRx h.port
      { (s.seen h).rx h.port with malformed := min ((s.rx h.port).malformed + 1) 4294967295 } := by
  rw [State.admitRecord_open s h isOpen, if_pos rfl, State.modRx, State.rx_seen]
  rfl

theorem State.admitRecord_wellFormed {go : State → State} (isOpen : s.laneOpen h.port = true) :
    State.admitRecord h false go s = go (s.seen h) :=
  s.admitRecord_open h isOpen

theorem State.checkTag_seen_fails {w : BitVec 16} {go : State → State} (fails : tagCheckPasses w = false) :
    State.checkTag h w go (s.seen h) = (s.seen h).setRx h.port
      { (s.seen h).rx h.port with tagCheck := min ((s.rx h.port).tagCheck + 1) 4294967295 } := by
  rw [State.checkTag, fails, State.modRx, State.rx_seen]
  rfl

theorem State.matchHistory_seen_stale {own : HistEntry → State → State} (stale : s.historyEntry h.port h.planSeq = none) :
    State.matchHistory h own (s.seen h) = (s.seen h).setRx h.port
      { (s.seen h).rx h.port with stale := min ((s.rx h.port).stale + 1) 4294967295 } := by
  have stale' : (s.seen h).historyEntry h.port h.planSeq = none := stale
  rw [State.matchHistory, stale', State.modRx, State.rx_seen]
  rfl

end

/-! ### The commands that are records -/

/-- Checks 3 and 4 of R27 for the record `c`, which goes to `own` with the history entry it matched; check 3 passes a record
without a tag. -/
def lastChecks (c : Instr) (h : RecordHead) (own : HistEntry → State → State) : State → State :=
  match c.recordTag with
  | some w => State.checkTag h w (State.matchHistory h own)
  | none => State.matchHistory h own

theorem lastChecks_tagFails {c : Instr} {w : BitVec 16} (own : HistEntry → State → State) (s : State) (h : RecordHead)
    (tag : c.recordTag = some w) (fails : tagCheckPasses w = false) :
    lastChecks c h own (s.seen h) = (s.seen h).setRx h.port
      { (s.seen h).rx h.port with tagCheck := min ((s.rx h.port).tagCheck + 1) 4294967295 } := by
  rw [lastChecks, tag]
  exact s.checkTag_seen_fails h fails

theorem lastChecks_tagPasses {c : Instr} (h : RecordHead) (own : HistEntry → State → State) (s : State)
    (passes : ∀ w, c.recordTag = some w → tagCheckPasses w = true) :
    lastChecks c h own s = State.matchHistory h own s := by
  rw [lastChecks]
  cases tag : c.recordTag with
  | none => rfl
  | some w => exact if_pos (passes w tag)

/-- Every record is admitted by checks 1 and 2. What follows is nothing for a MARK, and checks 3 and 4 for every other record
that can be well formed. -/
theorem exec_record {c : Instr} {h : RecordHead} (head : c.recordHead = some h) : ∃ go : State → State,
    (∀ s : State, s.resetPin = false → exec c s = .next (State.admitRecord h c.recordMalformed go s)) ∧
    (c = .mark h → go = id) ∧
    (c.recordMalformed = false → c ≠ .mark h → ∃ own, go = lastChecks c h own) := by
  cases c with
  | receptionUnknownKind _ k =>
    cases head
    exact ⟨id, fun s => s.unlessReset_free _, nofun, nofun⟩
  | mark =>
    cases head
    exact ⟨id, fun s => s.unlessReset_free _, fun _ => rfl, fun _ other => absurd rfl other⟩
  | bid | tally | resultTagged | resultAddressForm | noShow =>
    cases head
    exact ⟨_, fun s => s.unlessReset_free _, nofun, fun _ _ => ⟨_, rfl⟩⟩
  | _ => cases head

end Sys2Proof.Machine

open Sys2Proof Sys2Proof.Machine

/-- Settles O39: `exec_record` gives the order of the checks, and each check's lemma what its failing does. -/
theorem recordsAreCheckedInOrder : Obligations.RecordsAreCheckedInOrder := by
  intro s pin
  refine ⟨fun port n => s.unlessReset_free id pin, tagCheckPasses_iff, fun h w slot seq source n => bidMalformed_iff ..,
    fun h n c x e => tallyMalformed_iff .., fun h form w et a ep q => ⟨?_, ?_, ?_, ?_⟩, fun c h head => ?_⟩
  · rw [← measurementMalformed_iff]
    exact taggedMalformed_iff ..
  · rw [← measurementMalformed_iff]
    exact addressMalformed_iff ..
  · simp [Instr.recordMalformed, tagOfTagWord_eq]
  · simp [Instr.recordMalformed]
  · obtain ⟨go, acts, mark, last⟩ := exec_record head
    rw [acts s pin]
    refine ⟨fun closed => by rw [s.admitRecord_notOpen h closed], fun isOpen => ⟨fun bad => ?_, fun good w tag fails => ?_,
      fun good passes stale other => ?_, fun isMark len => ?_, fun k _ unknown => by rw [unknown]; rfl⟩⟩
    · rw [bad, s.admitRecord_malformed h isOpen]
    · obtain ⟨own, rfl⟩ := last good fun isMark => by rw [isMark] at tag; cases tag
      rw [good, s.admitRecord_wellFormed h isOpen, lastChecks_tagFails own s h tag fails]
    · obtain ⟨own, rfl⟩ := last good other
      rw [good, s.admitRecord_wellFormed h isOpen, lastChecks_tagPasses h own _ passes, s.matchHistory_seen_stale h stale]
    · have good : c.recordMalformed = false := by simp [isMark, Instr.recordMalformed, len]
      rw [good, s.admitRecord_wellFormed h isOpen, mark isMark]
      rfl
end

section
/-! PROOFS. The answers of the station requests and of the two reads of the tables (R45 to R50, R55, R97). -/

namespace Sys2Proof.Machine

/-! ### The tag of a request (R45) -/

theorem tagOfWord_of_outside {w : BitVec 16} (h : w = 0 ∨ 4095 < w.toNat) : tagOfWord w = none := by
  rcases h with rfl | h
  · rfl
  · exact if_pos (.inr h)

theorem tagOfWord_of_inside {w : BitVec 16} (low : 1 ≤ w.toNat) (high : w.toNat ≤ 4095) : tagOfWord w = some w.toNat :=
  if_neg (not_or.2 ⟨Nat.one_le_iff_ne_zero.1 low, Nat.not_lt.2 high⟩)

theorem one_le_toNat_of_ne_zero {n : Nat} {w : BitVec n} (h : w ≠ 0) : 1 ≤ w.toNat :=
  Nat.one_le_iff_ne_zero.2 fun e => h (BitVec.toNat_eq.2 e)

section
variable {s d : State} {w : BitVec 16} {own : Nat → State → Answer}

theorem onStation_badValue (h : w = 0 ∨ 4095 < w.toNat) : onStation w own d = refuse .badValue d := by
  rw [onStation, tagOfWord_of_outside h]

variable (low : 1 ≤ w.toNat) (high : w.toNat ≤ 4095) (checks : (d.station w.toNat).checks = true)
include low high checks

theorem onStation_unknownTag (free : (d.station w.toNat).state = .free) : onStation w own d = refuse .unknownTag d := by
  rw [onStation, tagOfWord_of_inside low high]
  simp only [d.checkStation_passes _ _ checks, free, if_true]

/-- A tag whose entry passes its check and is not FREE reaches the request's own rule. -/
theorem onStation_own (used : (d.station w.toNat).state ≠ .free) : onStation w own d = own w.toNat d := by
  rw [onStation, tagOfWord_of_inside low high]
  simp only [d.checkStation_passes _ _ checks, used, if_false]

end

/-! ### The rules' refusals -/

section
variable {d : State} {k : Nat}

theorem holdOwn_badState (h : (d.station k).state ≠ .active) : holdOwn k d = refuse .badState d := if_neg h
theorem resumeOwn_badState (h : (d.station k).state ≠ .held) : resumeOwn k d = refuse .badState d := if_neg h
theorem releaseOwn_badState (h : (d.station k).state = .releasing) : releaseOwn k d = refuse .badState d := if_pos h

theorem admitOwn_badState {m : LaneSet} {clear : Bool}
    (h : (d.station k).state ∈ [StationState.aligning, .lapsed, .quarantined, .releasing]) :
    admitOwn m clear k d = refuse .badState d := by
  simp only [List.mem_cons, List.not_mem_nil, or_false] at h
  rcases h with h | h | h | h <;> rw [admitOwn, h]

/-- A READY, ACTIVE or HELD station reaches the check of the lane set. -/
theorem admitOwn_admissible {m : LaneSet} {clear : Bool}
    (h : (d.station k).state ∈ [StationState.ready, .active, .held]) :
    admitOwn m clear k d = if m = 0 then refuse .badValue d else
      carryOut (.admission ((d.admission k m clear).1.station k).laneSet ((d.admission k m clear).1.station k).home
        ((d.admission k m clear).1.station k).state ((d.admission k m clear).1.station k).admitted
        (d.admission k m clear).2) (d.admission k m clear).1 := by
  simp only [List.mem_cons, List.not_mem_nil, or_false] at h
  rcases h with h | h | h <;> rw [admitOwn, h]

end

/-! ### Reads with a check -/

/-- Reads that pass their checks leave the state. -/
theorem State.foldl_checkStation_passes {s : State} (f : Finder) (ts : List Nat) (h : ∀ t ∈ ts, (s.station t).checks = true) :
    ts.foldl (fun s t => s.checkStation f t) s = s :=
  List.foldlRecOn (motive := fun u => u = s) ts _ rfl fun _ same t ht => by rw [same, s.checkStation_passes _ _ (h t ht)]

theorem State.foldl_checkStream_passes {s : State} (f : Finder) (is : List Nat) (h : ∀ i ∈ is, (s.stream i).checks = true) :
    is.foldl (fun s i => s.checkStream f i) s = s :=
  List.foldlRecOn (motive := fun u => u = s) is _ rfl fun _ same i hi => by rw [same, s.checkStream_passes _ _ (h i hi)]

section
variable {d : State} {first : BitVec 16} {n : Byte}

theorem readCount_outside_iff : (n = 0 ∨ 16 < n.toNat) ↔ (n.toNat = 0 ∨ Config.readEntries < n.toNat) := by
  rw [BitVec.toNat_eq]
  rfl

theorem stationReadRule_badValue (h : first = 0 ∨ 4095 < first.toNat ∨ n = 0 ∨ 16 < n.toNat) :
    stationReadRule first n d = refuse .badValue d := by
  rw [← or_assoc, readCount_outside_iff] at h
  by_cases tag : first = 0 ∨ 4095 < first.toNat
  · rw [stationReadRule, tagOfWord_of_outside tag]
  · obtain ⟨above, high⟩ := not_or.1 tag
    rw [stationReadRule, tagOfWord_of_inside (one_le_toNat_of_ne_zero above) (Nat.not_lt.1 high)]
    exact if_pos (h.resolve_left tag)

theorem streamReadRule_badValue (h : 8191 < first.toNat ∨ n = 0 ∨ 16 < n.toNat) :
    streamReadRule first n d = refuse .badValue d := by
  rw [readCount_outside_iff] at h
  exact if_pos h

variable (nonempty : n ≠ 0) (few : n.toNat ≤ 16)
include nonempty few

theorem readCount_inside : ¬(n.toNat = 0 ∨ Config.readEntries < n.toNat) :=
  readCount_outside_iff.not.1 (not_or.2 ⟨nonempty, Nat.not_lt.2 few⟩)

theorem stationReadRule_done (above : first ≠ 0) (high : first.toNat ≤ 4095)
    (checks : ∀ k ∈ readTags first.toNat n.toNat, (d.station k).checks = true) :
    stationReadRule first n d = carryOut (.stationRead d.stations.freeTags.length d.stations.joinMap.length
      ((readTags first.toNat n.toNat).map d.stationView)) d := by
  rw [stationReadRule, tagOfWord_of_inside (one_le_toNat_of_ne_zero above) high]
  simp only [readCount_inside nonempty few, if_false, State.foldl_checkStation_passes _ _ checks]

theorem streamReadRule_done (high : first.toNat ≤ 8191)
    (checks : ∀ i ∈ readIndices first.toNat n.toNat, (d.stream i).checks = true) :
    streamReadRule first n d = carryOut (.streamRead d.freeStreams d.streams.shareSums
      ((readIndices first.toNat n.toNat).map d.streamView)) d := by
  have inside : ¬(Config.streams ≤ first.toNat ∨ n.toNat = 0 ∨ Config.readEntries < n.toNat) :=
    not_or.2 ⟨Nat.not_le.2 (Nat.lt_succ_of_le high), readCount_inside nonempty few⟩
  simp only [streamReadRule, inside, if_false, State.foldl_checkStream_passes _ _ checks]

end

end Sys2Proof.Machine

open Sys2Proof Sys2Proof.Machine

/-- Settles O31: the tag is checked first, the entry's state next, and an admission's lane set last. -/
theorem stationRequestRefusals : Obligations.StationRequestRefusals := by
  intro s d req tag m f ho
  refine ⟨fun h outside => ⟨?_, ?_, ?_⟩, fun h above high checks => ?_, fun h => ⟨fun outside => ?_, fun above high checks => ?_⟩⟩
  · exact State.request_refused h ho (onStation_badValue outside)
  · exact State.request_refused h ho (onStation_badValue outside)
  · exact State.request_refused h ho (onStation_badValue outside)
  · have low := one_le_toNat_of_ne_zero above
    have own {o : Nat → State → Answer} := onStation_own (own := o) low high checks
    refine ⟨fun free => ⟨?_, ?_, ?_⟩, fun used other => ?_, fun used other => ?_, fun releasing => ?_⟩
    · exact State.request_refused h ho (onStation_unknownTag low high checks free)
    · exact State.request_refused h ho (onStation_unknownTag low high checks free)
    · exact State.request_refused h ho (onStation_unknownTag low high checks free)
    · exact State.request_refused h ho ((own used).trans (holdOwn_badState other))
    · exact State.request_refused h ho ((own used).trans (resumeOwn_badState other))
    · have used : (d.station tag.toNat).state ≠ .free := by rw [releasing]; nofun
      exact State.request_refused h ho ((own used).trans (releaseOwn_badState releasing))
  · exact State.request_refused h ho (onStation_badValue outside)
  · have low := one_le_toNat_of_ne_zero above
    have own {o : Nat → State → Answer} := onStation_own (own := o) low high checks
    refine ⟨fun free => ?_, fun state => ?_, fun state empty => ?_⟩
    · exact State.request_refused h ho (onStation_unknownTag low high checks free)
    · have used : (d.station tag.toNat).state ≠ .free := fun free => by simp [free] at state
      exact State.request_refused h ho ((own used).trans (admitOwn_badState state))
    · have used : (d.station tag.toNat).state ≠ .free := fun free => by simp [free] at state
      exact State.request_refused h ho ((own used).trans ((admitOwn_admissible state).trans (if_pos empty)))

/-- Settles O35: within their ranges the reads pass the checks of all they return, and so leave the state. -/
theorem readsReturnTheEntriesUnchanged : Obligations.ReadsReturnTheEntriesUnchanged := by
  intro s d req first n h ho
  refine ⟨fun outside => ?_, fun outside => ?_, fun tags above high some few list checks => ?_,
    fun is high some few list checks => ?_⟩
  · exact State.request_refused h ho (stationReadRule_badValue outside)
  · exact State.request_refused h ho (streamReadRule_badValue outside)
  · subst list
    exact State.request_done h ho (stationReadRule_done some few above high checks)
  · subst list
    exact State.request_done h ho (streamReadRule_done some few high checks)
end

section
/-! PROOFS. A station's streams (R75), and what an operation over some of them leaves as it was. -/

namespace Sys2Proof.Machine

/-! ### The streams of a station -/

section
variable {s t : State} {k i : Nat}

theorem State.leads_iff {slot : Fin 8} : s.leads k slot i = true ↔
    i < Config.streams ∧ ((s.stream i).state = .inUse ∨ (s.stream i).state = .quarantined) ∧
      (s.stream i).owner = some (k, slot) := by
  simp [State.leads, and_assoc]

theorem State.slotStream_eq_some {slot : Fin 8} :
    s.slotStream k slot = some i ↔ (s.station k).refs[slot] = some i ∧ s.leads k slot i = true :=
  Option.filter_eq_some_iff

theorem State.mem_streamsOf : i ∈ s.streamsOf k ↔ ∃ slot, s.slotStream k slot = some i := by
  have every : ∀ slot : Fin 8, slot ∈ allSlots := by decide
  simp [State.streamsOf, every]

/-- A stream of the station records it as its owner, in the slot that leads to it. -/
theorem State.owner_of_slotStream {slot : Fin 8} (h : s.slotStream k slot = some i) : (s.stream i).owner = some (k, slot) :=
  (State.leads_iff.1 (State.slotStream_eq_some.1 h).2).2.2

/-- The stream's recorded owner is the station. -/
def StreamEntry.ownedBy (e : StreamEntry) (k : Nat) : Prop := ∃ slot, e.owner = some (k, slot)

theorem State.ownedBy_of_mem_streamsOf (h : i ∈ s.streamsOf k) : (s.stream i).ownedBy k :=
  (State.mem_streamsOf.1 h).imp fun _ => State.owner_of_slotStream

theorem State.streamsOf_nodup : (s.streamsOf k).Nodup := by
  refine List.Nodup.filterMap (fun a b i ha hb => ?_) (by decide)
  have same := (State.owner_of_slotStream ha).symm.trans (State.owner_of_slotStream hb)
  simpa using same

/-- What a slot leads to depends on the station's references and on the states and owners of the streams. -/
theorem State.slotStream_congr (refs : (t.station k).refs = (s.station k).refs)
    (streams : ∀ i, (t.stream i).state = (s.stream i).state ∧ (t.stream i).owner = (s.stream i).owner) (slot : Fin 8) :
    t.slotStream k slot = s.slotStream k slot := by
  have leads : t.leads k slot = s.leads k slot := funext fun i => by rw [State.leads, State.leads, (streams i).1, (streams i).2]
  rw [State.slotStream, State.slotStream, refs, leads]

theorem State.streamsOf_congr (refs : (t.station k).refs = (s.station k).refs)
    (streams : ∀ i, (t.stream i).state = (s.stream i).state ∧ (t.stream i).owner = (s.stream i).owner) :
    t.streamsOf k = s.streamsOf k := by
  rw [State.streamsOf, State.streamsOf, funext (State.slotStream_congr refs streams)]

end

/-! ### The service lists -/

theorem State.onLane_eq_false_iff {s : State} {l : LaneId} {i : Nat} : s.onLane l i = false ↔ ∀ c, i ∉ s.list l c := by
  simp [State.onLane, mem_allClasses]

theorem mem_lanesOf {m : LaneSet} {l : LaneId} : l ∈ lanesOf m ↔ inSet m l = true := by
  simp [lanesOf, mem_allLanes]

theorem inSet_and (m n : LaneSet) (l : LaneId) : inSet (m &&& n) l = (inSet m l && inSet n l) := BitVec.getLsbD_and

theorem inSet_not (m : LaneSet) (l : LaneId) : inSet (~~~m) l = !inSet m l := by
  simp [inSet]

theorem State.mem_joinList {s : State} {l m : LaneId} {c q : Fin 4} {i j : Nat} :
    j ∈ (s.joinList m q i).list l c ↔ j ∈ s.list l c ∨ (j = i ∧ l = m ∧ c = q) := by
  unfold State.joinList
  split
  · rename_i on
    constructor
    · exact .inl
    · rintro (h | ⟨rfl, rfl, rfl⟩)
      exacts [h, on]
  · have written : ((s.setList m q (s.list m q ++ [i])).setJoined m (addName i (s.joinedOf m))).list l c =
        (s.setList m q (s.list m q ++ [i])).list l c := rfl
    rw [written, State.list_setList]
    split
    · rename_i same
      obtain ⟨rfl, rfl⟩ := same
      simp
    · tauto

/-- A stream that joins its lists stands on its class list on every lane of its set, and the others stand where they stood. -/
theorem State.mem_joinLists {s : State} {l : LaneId} {c : Fin 4} {i j : Nat} :
    j ∈ (s.joinLists i).list l c ↔
      j ∈ s.list l c ∨ (j = i ∧ inSet (s.stream i).laneSet l = true ∧ c = (s.stream i).cls) := by
  have walk : ∀ (ls : List LaneId) (q : Fin 4) (s : State), j ∈ (ls.foldl (fun s m => s.joinList m q i) s).list l c ↔
      j ∈ s.list l c ∨ (j = i ∧ l ∈ ls ∧ c = q) := by
    intro ls q
    induction ls with
    | nil => simp
    | cons m rest ih =>
      intro s
      rw [List.foldl_cons, ih, State.mem_joinList, List.mem_cons]
      tauto
  rw [State.joinLists, walk, mem_lanesOf]

/-- A stream that leaves the lists of some lanes. -/
theorem State.mem_leaveLanes {ls : List LaneId} {s : State} {l : LaneId} {c : Fin 4} {i j : Nat} :
    j ∈ (ls.foldl (State.leaveLane · i ·) s).list l c ↔ j ∈ s.list l c ∧ (l ∈ ls → j ≠ i) := by
  induction ls generalizing s with
  | nil => simp
  | cons m rest ih =>
    rw [List.foldl_cons, ih, State.mem_leaveLane, List.mem_cons]
    tauto

/-! ### Operations that write the service lists alone -/

/-- The states agree but for the service lists and the note of the joins. -/
def State.Relisted (s t : State) : Prop :=
  t = { s with streams := { s.streams with service := t.streams.service, joined := t.streams.joined } }

namespace State.Relisted

variable {s t u : State}

theorem refl (s : State) : s.Relisted s := rfl

theorem trans (h : s.Relisted t) (k : t.Relisted u) : s.Relisted u := by
  unfold State.Relisted at *
  rw [k, h]

theorem foldl {α : Type} {f : State → α → State} (step : ∀ (s : State) (a : α), s.Relisted (f s a)) (l : List α) (s : State) :
    s.Relisted (l.foldl f s) :=
  List.foldlRecOn l f (refl s) fun _ h a _ => h.trans (step _ a)

theorem setList (s : State) (l : LaneId) (c : Fin 4) (v : List Nat) : s.Relisted (s.setList l c v) := rfl

theorem joinList (s : State) (l : LaneId) (c : Fin 4) (i : Nat) : s.Relisted (s.joinList l c i) := by
  unfold State.joinList
  split
  · exact refl s
  · rfl

theorem joinLists (s : State) (i : Nat) : s.Relisted (s.joinLists i) := foldl (fun s l => joinList s l _ i) _ s

theorem leaveLane (s : State) (i : Nat) (l : LaneId) : s.Relisted (s.leaveLane i l) :=
  foldl (fun s c => setList s l c _) _ s

theorem leaveLanes (s : State) (i : Nat) (ls : List LaneId) : s.Relisted (ls.foldl (State.leaveLane · i ·) s) :=
  foldl (fun s l => leaveLane s i l) ls s

theorem leaveLists (s : State) (i : Nat) : s.Relisted (s.leaveLists i) := leaveLanes s i allLanes

theorem stream (h : s.Relisted t) (i : Nat) : t.stream i = s.stream i := by rw [h]; rfl
theorem reservedOf (h : s.Relisted t) (i : Nat) : t.reservedOf i = s.reservedOf i := by rw [h]; rfl
theorem stations (h : s.Relisted t) : t.stations = s.stations := by rw [h]
theorem station (h : s.Relisted t) (k : Nat) : t.station k = s.station k := by rw [h]; rfl

theorem streamsOf (h : s.Relisted t) (k : Nat) : t.streamsOf k = s.streamsOf k :=
  State.streamsOf_congr (by rw [h.station]) fun i => by rw [h.stream]; exact ⟨rfl, rfl⟩

end State.Relisted

/-! ### Work on a station's streams -/

/-- The stream is as it was: its entry, its reserved share, and its places on the service lists. -/
structure State.SameStream (s t : State) (i : Nat) : Prop where
  entry : t.stream i = s.stream i
  reserved : t.reservedOf i = s.reservedOf i
  lists : ∀ l c, i ∈ t.list l c ↔ i ∈ s.list l c

theorem State.SameStream.refl (s : State) (i : Nat) : s.SameStream s i := ⟨rfl, rfl, fun _ _ => .rfl⟩

theorem State.SameStream.trans {s t u : State} {i : Nat} (h : s.SameStream t i) (h' : t.SameStream u i) : s.SameStream u i :=
  ⟨h'.entry.trans h.entry, h'.reserved.trans h.reserved, fun l c => (h'.lists l c).trans (h.lists l c)⟩

/-- What work on the streams `is` of station `k` leaves: it writes the stream table, and of the station entries the references of
`k` alone; every stream not among `is` is as it was. -/
structure State.StreamWork (k : Nat) (is : List Nat) (s t : State) : Prop where
  frame : t = { s with stations := { s.stations with entries := t.stations.entries }, streams := t.streams }
  canonical : t.tablesCanonical
  entry : t.station k = { s.station k with refs := (t.station k).refs, parity := (t.station k).parity }
  station : ∀ j, j ≠ k → t.station j = s.station j
  stream : ∀ i, i ∉ is → s.SameStream t i

namespace State.StreamWork

variable {k i : Nat} {is js : List Nat} {s t u : State}

theorem refl (k : Nat) (is : List Nat) (hs : s.tablesCanonical) : State.StreamWork k is s s :=
  ⟨rfl, hs, rfl, fun _ _ => rfl, fun i _ => .refl s i⟩

theorem trans (h : State.StreamWork k is s t) (h' : State.StreamWork k is t u) : State.StreamWork k is s u where
  frame := by rw [h'.frame, h.frame]
  canonical := h'.canonical
  entry := by rw [h'.entry, h.entry]
  station j hj := (h'.station j hj).trans (h.station j hj)
  stream i hi := (h.stream i hi).trans (h'.stream i hi)

theorem mono (h : State.StreamWork k is s t) (sub : is ⊆ js) : State.StreamWork k js s t :=
  ⟨h.frame, h.canonical, h.entry, h.station, fun i hi => h.stream i fun hi' => hi (sub hi')⟩

theorem lanes (h : State.StreamWork k is s t) : t.lanes = s.lanes := by rw [h.frame]
theorem claims (h : State.StreamWork k is s t) : t.claims = s.claims := by rw [h.frame]
theorem align (h : State.StreamWork k is s t) : t.align = s.align := by rw [h.frame]
theorem refs (h : State.StreamWork k is s t) : t.refs = s.refs := by rw [h.frame]
theorem builder (h : State.StreamWork k is s t) : t.builder = s.builder := by rw [h.frame]
theorem link (h : State.StreamWork k is s t) : t.link = s.link := by rw [h.frame]
theorem port (h : State.StreamWork k is s t) : t.port = s.port := by rw [h.frame]
theorem now (h : State.StreamWork k is s t) : t.now = s.now := by rw [h.frame]
theorem freeTags (h : State.StreamWork k is s t) : t.stations.freeTags = s.stations.freeTags := by rw [h.frame]
theorem joinMap (h : State.StreamWork k is s t) : t.stations.joinMap = s.stations.joinMap := by rw [h.frame]

/-- An operation that writes the service lists alone. -/
theorem of_relisted (hs : s.tablesCanonical) (h : s.Relisted t)
    (lists : ∀ i, i ∉ is → ∀ l c, i ∈ t.list l c ↔ i ∈ s.list l c) : State.StreamWork k is s t where
  frame := by rw [h]
  canonical := by
    rw [h]
    exact hs
  entry := by rw [h.station]
  station j _ := h.station j
  stream i hi := ⟨h.stream i, h.reservedOf i, lists i hi⟩

theorem modStream (hs : s.tablesCanonical) (k i : Nat) (f : StreamEntry → StreamEntry) :
    State.StreamWork k [i] s (s.modStream i f) where
  frame := rfl
  canonical := ⟨hs.1, s.putStream_wf i _ hs.2.1, hs.2.2⟩
  entry := rfl
  station _ _ := rfl
  stream j hj := ⟨(s.stream_modStream i j f hs.2.1).trans (if_neg fun e => hj (by simp [e])), rfl, fun _ _ => .rfl⟩

/-- A write of the station's references alone. -/
theorem modRefs (hs : s.tablesCanonical) (k : Nat) (is : List Nat) {f : StationEntry → StationEntry}
    (only : ∀ e, f e = { e with refs := (f e).refs }) : State.StreamWork k is s (s.modStation k f) where
  frame := rfl
  canonical := ⟨s.putStation_wf k _ hs.1, hs.2⟩
  entry := by
    rw [s.station_modStation k k f hs.1, if_pos rfl, StationEntry.seal, only (s.station k)]
  station j hj := (s.station_modStation k j f hs.1).trans (if_neg hj)
  stream i _ := ⟨rfl, rfl, fun _ _ => .rfl⟩

theorem leaveLists (hs : s.tablesCanonical) (k i : Nat) : State.StreamWork k [i] s (s.leaveLists i) :=
  of_relisted hs (.leaveLists s i) fun j hj l c => by
    rw [State.mem_leaveLists]
    exact and_iff_left fun e => hj (by simp [e])

theorem clearDemand (hs : s.tablesCanonical) (k i : Nat) : State.StreamWork k [i] s (s.clearDemand i) :=
  have wrote := modStream hs k i fun e => { e with D := e.G, credit := 0 }
  wrote.trans (leaveLists wrote.canonical k i)

theorem dropShare (hs : s.tablesCanonical) (k i : Nat) : State.StreamWork k [i] s (s.dropShare i) where
  frame := rfl
  canonical := ⟨hs.1, hs.2.1, Table.set_wf _ _ _ _ hs.2.2.1, hs.2.2.2⟩
  entry := rfl
  station _ _ := rfl
  stream j hj := ⟨rfl, Table.get_set_other _ i j _ _ hs.2.2.1 fun e => hj (by simp [e]), fun _ _ => .rfl⟩

theorem settleStream (hs : s.tablesCanonical) (k i : Nat) : State.StreamWork k [i] s (s.settleStream i) := by
  unfold State.settleStream
  split
  · have left := leaveLists hs k i
    exact left.trans (modStream left.canonical k i fun _ => StreamEntry.free)
  · exact refl k [i] hs

/-! A walk over streams of the station, no stream taken twice. `Q` is what a step asks of its stream's entry. -/

section
variable {f : State → Nat → State} {Q : StreamEntry → Prop}
  (step : ∀ (s : State) (i : Nat), s.tablesCanonical → Q (s.stream i) → State.StreamWork k [i] s (f s i))
include step

theorem foldl (nodup : is.Nodup) (hs : s.tablesCanonical) (hQ : ∀ i ∈ is, Q (s.stream i)) :
    State.StreamWork k is s (is.foldl f s) := by
  induction is generalizing s with
  | nil => exact refl k [] hs
  | cons i rest ih =>
    obtain ⟨notMem, nodup'⟩ := List.nodup_cons.1 nodup
    have first := step s i hs (hQ i List.mem_cons_self)
    have others : ∀ j ∈ rest, Q ((f s i).stream j) := fun j hj => by
      rw [(first.stream j fun e => notMem (List.mem_singleton.1 e ▸ hj)).entry]
      exact hQ j (List.mem_cons_of_mem _ hj)
    exact (first.mono (by simp)).trans ((ih nodup' first.canonical others).mono (List.subset_cons_self _ _))

/-- The walk's step on one stream finds the stream as the walk found it, and what the step leaves of it is left of it. -/
theorem foldl_at (nodup : is.Nodup) (hs : s.tablesCanonical) (hQ : ∀ i ∈ is, Q (s.stream i)) (hi : i ∈ is) :
    ∃ u, u.tablesCanonical ∧ s.SameStream u i ∧ (f u i).SameStream (is.foldl f s) i := by
  obtain ⟨before, after, rfl⟩ := List.append_of_mem hi
  have apart := List.nodup_append.1 nodup
  obtain ⟨notAfter, nodupAfter⟩ := List.nodup_cons.1 apart.2.1
  have notBefore : i ∉ before := fun h => apart.2.2 i h i List.mem_cons_self rfl
  have first := foldl step apart.1 hs fun j hj => hQ j (List.mem_append_left _ hj)
  have same := first.stream i notBefore
  have mid := step _ i first.canonical (by rw [same.entry]; exact hQ i hi)
  have last := foldl step nodupAfter mid.canonical fun j hj => by
    have notBefore' : j ∉ before := fun h => apart.2.2 j h j (List.mem_cons_of_mem _ hj) rfl
    rw [(mid.stream j fun e => notAfter (List.mem_singleton.1 e ▸ hj)).entry, (first.stream j notBefore').entry]
    exact hQ j (List.mem_append_right _ (List.mem_cons_of_mem _ hj))
  refine ⟨_, first.canonical, same, ?_⟩
  rw [List.foldl_append, List.foldl_cons]
  exact last.stream i notAfter

end

end State.StreamWork

end Sys2Proof.Machine
end

section
/-! PROOFS. The shared steps over a station's streams: references tidied (R75), demand cleared (R87), streams off and onto their
lists (R48, R49), and a stream's removal (R81). -/

namespace Sys2Proof.Machine

/-! ### What single writes leave of the stream table -/

section
variable (s : State) (i j : Nat) (l : LaneId) (c : Fin 4)

theorem State.list_putStream (e : StreamEntry) : (s.putStream i e).list l c = s.list l c := rfl
theorem State.list_modStream (f : StreamEntry → StreamEntry) : (s.modStream i f).list l c = s.list l c := rfl
theorem State.list_dropShare : (s.dropShare i).list l c = s.list l c := rfl
theorem State.reservedOf_putStream (e : StreamEntry) : (s.putStream i e).reservedOf j = s.reservedOf j := rfl
theorem State.reservedOf_modStream (f : StreamEntry → StreamEntry) : (s.modStream i f).reservedOf j = s.reservedOf j := rfl

theorem State.reservedOf_dropShare {s : State} (hs : s.tablesCanonical) (i : Nat) :
    (s.dropShare i).reservedOf i = Reserved.none :=
  (Table.get_set _ i i _ _ hs.2.2.1).trans (if_pos rfl)

theorem State.dropShare_stations : (s.dropShare i).stations = s.stations := rfl

theorem State.leaveLists_stations : (s.leaveLists i).stations = s.stations := by rw [State.leaveLists_service]

theorem State.clearDemand_stations : (s.clearDemand i).stations = s.stations :=
  (State.leaveLists_stations _ i).trans (s.modStream_stations i _)

end

section
variable {s : State} (hs : s.tablesCanonical) (k : Nat)
include hs

/-! ### References tidied (R75) -/

/-- A slot that leads nowhere is written absent: every slot leads where it led. -/
theorem State.slotStream_tidySlot (slot q : Fin 8) :
    (s.modStation k fun e => { e with refs := e.refs.set slot (s.slotStream k slot) }).slotStream k q = s.slotStream k q := by
  have leads : (s.modStation k fun e => { e with refs := e.refs.set slot (s.slotStream k slot) }).leads k q = s.leads k q := rfl
  have entry := s.station_modStation k k (fun e => { e with refs := e.refs.set slot (s.slotStream k slot) }) hs.1
  rw [if_pos rfl] at entry
  rw [State.slotStream, leads, entry]
  by_cases same : q = slot
  · subst same
    simp [StationEntry.seal, State.slotStream]
  · have other : (slot : Nat) ≠ q := fun e => same (Fin.ext e.symm)
    simp [StationEntry.seal, State.slotStream, other]

theorem State.tidyRefs_spec :
    State.StreamWork k [] s (s.tidyRefs k) ∧ (s.tidyRefs k).streams = s.streams ∧
      ∀ slot, (s.tidyRefs k).slotStream k slot = s.slotStream k slot := by
  refine List.foldlRecOn (motive := fun t : State => State.StreamWork k [] s t ∧ t.streams = s.streams ∧
    ∀ slot, t.slotStream k slot = s.slotStream k slot) allSlots _ ⟨.refl k [] hs, rfl, fun _ => rfl⟩ ?_
  rintro t ⟨work, streams, slots⟩ slot -
  exact ⟨work.trans (.modRefs work.canonical k [] fun _ => rfl), streams,
    fun q => (State.slotStream_tidySlot work.canonical k slot q).trans (slots q)⟩

theorem State.streamsOf_tidyRefs : (s.tidyRefs k).streamsOf k = s.streamsOf k := by
  rw [State.streamsOf, funext (s.tidyRefs_spec hs k).2.2, State.streamsOf]

/-! ### Demand cleared (R87) -/

/-- The entry of a stream whose demand is cleared. -/
def StreamEntry.cleared (e : StreamEntry) : StreamEntry := { e with D := e.G, credit := 0 }

theorem State.stream_clearDemand (i : Nat) : (s.clearDemand i).stream i = (s.stream i).cleared.seal := by
  rw [State.clearDemand, State.leaveLists_stream, s.stream_modStream i i _ hs.2.1, if_pos rfl]
  rfl

theorem State.clearStreams_work : State.StreamWork k (s.streamsOf k) s (s.clearStreams k) :=
  .foldl (Q := fun _ => True) (fun _ i hu _ => .clearDemand hu k i) State.streamsOf_nodup hs fun _ _ => trivial

/-- Each stream of the station has its demand cleared, keeps its share, and stands on no list. -/
theorem State.clearStreams_at {i : Nat} (hi : i ∈ s.streamsOf k) :
    (s.clearStreams k).stream i = (s.stream i).cleared.seal ∧ (s.clearStreams k).reservedOf i = s.reservedOf i ∧
      ∀ l c, i ∉ (s.clearStreams k).list l c := by
  obtain ⟨u, hu, before, after⟩ := State.StreamWork.foldl_at (Q := fun _ => True) (k := k)
    (fun _ i hu _ => .clearDemand hu k i) State.streamsOf_nodup hs (fun _ _ => trivial) hi
  refine ⟨?_, ?_, fun l c => ?_⟩
  · rw [State.clearStreams, after.entry, State.stream_clearDemand hu, before.entry]
  · rw [State.clearStreams, after.reserved, ← before.reserved, State.clearDemand,
      (State.Relisted.leaveLists _ i).reservedOf, State.reservedOf_modStream]
  · rw [State.clearStreams, after.lists, State.clearDemand, State.mem_leaveLists]
    simp

/-- The states and owners of the streams, and so what the station's slots lead to, are as they were. -/
theorem State.streamsOf_clearStreams : (s.clearStreams k).streamsOf k = s.streamsOf k := by
  have kept : ∀ i, ((s.clearStreams k).stream i).state = (s.stream i).state ∧
      ((s.clearStreams k).stream i).owner = (s.stream i).owner := fun i => by
    by_cases hi : i ∈ s.streamsOf k
    · rw [(s.clearStreams_at hs k hi).1]
      exact ⟨rfl, rfl⟩
    · rw [((s.clearStreams_work hs k).stream i hi).entry]
      exact ⟨rfl, rfl⟩
  have station : (s.clearStreams k).stations = s.stations :=
    List.foldlRecOn (motive := fun t : State => t.stations = s.stations) _ _ rfl fun t same i _ =>
      (t.clearDemand_stations i).trans same
  exact State.streamsOf_congr (by rw [State.station_of_stations station]) kept

end

/-! ### Streams off and onto their lists (R48, R49) -/

/-- A station's streams leave every list, the note of the joins as it was; the other streams stand where they stood. -/
theorem State.unlistStreams_spec (s : State) (k : Nat) :
    s.Relisted (s.unlistStreams k) ∧ (s.unlistStreams k).streams.joined = s.streams.joined ∧
      ∀ j l c, j ∈ (s.unlistStreams k).list l c ↔ j ∈ s.list l c ∧ j ∉ s.streamsOf k := by
  have walk : ∀ (is : List Nat) (s : State), s.Relisted (is.foldl State.leaveLists s) ∧
      (is.foldl State.leaveLists s).streams.joined = s.streams.joined ∧
      ∀ j l c, j ∈ (is.foldl State.leaveLists s).list l c ↔ j ∈ s.list l c ∧ j ∉ is := by
    intro is
    induction is with
    | nil => exact fun s => ⟨.refl s, rfl, by simp⟩
    | cons i rest ih =>
      intro s
      obtain ⟨relisted, joined, lists⟩ := ih (s.leaveLists i)
      rw [List.foldl_cons]
      refine ⟨(State.Relisted.leaveLists s i).trans relisted, joined.trans (by rw [State.leaveLists_service]), fun j l c => ?_⟩
      rw [lists, State.mem_leaveLists, List.mem_cons]
      tauto
  exact walk _ s

/-- The entry is one that R49 puts on its lists: IN_USE and bidding, with available demand. -/
def StreamEntry.listed (e : StreamEntry) : Prop := e.state = .inUse ∧ e.kind = .bidding ∧ 0 < e.avail

/-- A station's streams with available demand join the class list on every lane of their set; the other streams stand where they
stood. -/
theorem State.relistStreams_spec (s : State) (k : Nat) :
    s.Relisted (s.relistStreams k) ∧
      ∀ j l c, j ∈ (s.relistStreams k).list l c ↔ j ∈ s.list l c ∨
        (j ∈ s.streamsOf k ∧ (s.stream j).listed ∧ inSet (s.stream j).laneSet l = true ∧ c = (s.stream j).cls) := by
  have walk : ∀ (is : List Nat) (s t : State), s.Relisted t → s.Relisted (is.foldl (fun s i =>
        if (s.stream i).state = .inUse ∧ (s.stream i).kind = .bidding ∧ 0 < (s.stream i).avail then s.joinLists i else s) t) ∧
      ∀ j l c, j ∈ (is.foldl (fun s i =>
        if (s.stream i).state = .inUse ∧ (s.stream i).kind = .bidding ∧ 0 < (s.stream i).avail then s.joinLists i else s) t).list
          l c ↔ j ∈ t.list l c ∨
        (j ∈ is ∧ (s.stream j).listed ∧ inSet (s.stream j).laneSet l = true ∧ c = (s.stream j).cls) := by
    intro is s
    induction is with
    | nil => exact fun t ht => ⟨ht, by simp⟩
    | cons i rest ih =>
      intro t ht
      rw [List.foldl_cons, ht.stream i]
      split
      · rename_i listed
        obtain ⟨relisted, lists⟩ := ih _ (ht.trans (.joinLists t i))
        refine ⟨relisted, fun j l c => ?_⟩
        rw [lists, State.mem_joinLists, ht.stream i, List.mem_cons]
        constructor
        · rintro ((h | ⟨rfl, h⟩) | ⟨h, h'⟩)
          exacts [.inl h, .inr ⟨.inl rfl, listed, h⟩, .inr ⟨.inr h, h'⟩]
        · rintro (h | ⟨rfl | h, h', h''⟩)
          exacts [.inl (.inl h), .inl (.inr ⟨rfl, h''⟩), .inr ⟨h, h', h''⟩]
      · rename_i unlisted
        obtain ⟨relisted, lists⟩ := ih _ ht
        refine ⟨relisted, fun j l c => ?_⟩
        rw [lists, List.mem_cons]
        constructor
        · rintro (h | ⟨h, h'⟩)
          exacts [.inl h, .inr ⟨.inr h, h'⟩]
        · rintro (h | ⟨rfl | h, h', h''⟩)
          exacts [.inl h, absurd h' unlisted, .inr ⟨h, h', h''⟩]
  exact walk _ s s (.refl s)

/-! ### The removal of a stream (R81) -/

section
variable {s : State} {k i : Nat}

/-- The steps of a removal behind the reference: lists, demand and share. -/
def State.stripStream (s : State) (i : Nat) : State :=
  (((s.leaveLists i).clearDemand i).modStream i fun e => { e with credit := 0, relist := false }).dropShare i

/-- The last step of a removal: RETIRING, and FREE when nothing holds the index. -/
def State.retireStream (s : State) (i : Nat) : State := (s.modStream i fun e => { e with state := .retiring }).settleStream i

theorem State.removeStream_eq (s : State) (i : Nat) :
    s.removeStream i = ((s.dropReference i).stripStream i).retireStream i := rfl

theorem State.stripStream_work (hs : s.tablesCanonical) (k i : Nat) : State.StreamWork k [i] s (s.stripStream i) := by
  have left := State.StreamWork.leaveLists hs k i
  have cleared := State.StreamWork.clearDemand left.canonical k i
  have flagged := State.StreamWork.modStream cleared.canonical k i fun e => { e with credit := 0, relist := false }
  exact left.trans (cleared.trans (flagged.trans (.dropShare flagged.canonical k i)))

theorem State.stripStream_at (hs : s.tablesCanonical) (i : Nat) :
    (s.stripStream i).reservedOf i = Reserved.none ∧ ∀ l c, i ∉ (s.stripStream i).list l c := by
  have left := State.StreamWork.leaveLists hs 0 i
  have cleared := State.StreamWork.clearDemand left.canonical 0 i
  have flagged := State.StreamWork.modStream cleared.canonical 0 i fun e => { e with credit := 0, relist := false }
  refine ⟨State.reservedOf_dropShare flagged.canonical i, fun l c => ?_⟩
  rw [State.stripStream, State.list_dropShare, State.list_modStream, State.clearDemand, State.mem_leaveLists]
  simp

/-- A stream made RETIRING stays so or becomes FREE. -/
theorem State.retireStream_at (hs : s.tablesCanonical) (i : Nat) :
    (((s.retireStream i).stream i).state = .retiring ∨ ((s.retireStream i).stream i).state = .free) ∧
      (s.retireStream i).reservedOf i = s.reservedOf i ∧ ∀ l c, i ∈ (s.retireStream i).list l c → i ∈ s.list l c := by
  have retired := State.StreamWork.modStream hs 0 i fun e => { e with state := .retiring }
  have entry := s.stream_modStream i i (fun e => { e with state := .retiring }) hs.2.1
  unfold State.retireStream State.settleStream
  split
  · have left := State.StreamWork.leaveLists retired.canonical 0 i
    rw [State.freeStream, State.reservedOf_putStream, (State.Relisted.leaveLists _ i).reservedOf, State.reservedOf_modStream,
      State.stream_putStream _ i i _ left.canonical.2.1, if_pos rfl]
    refine ⟨.inr rfl, rfl, fun l c h => ?_⟩
    rw [State.list_putStream, State.mem_leaveLists, State.list_modStream] at h
    exact h.1
  · rw [entry, if_pos rfl, State.reservedOf_modStream]
    exact ⟨.inl rfl, rfl, fun _ _ h => h⟩

theorem State.settleStream_stations (s : State) (i : Nat) : (s.settleStream i).stations = s.stations := by
  unfold State.settleStream
  split
  · rw [State.freeStream, State.putStream_stations, State.leaveLists_stations]
  · rfl

theorem State.stripStream_stations (s : State) (i : Nat) : (s.stripStream i).stations = s.stations := by
  rw [State.stripStream, State.dropShare_stations, State.modStream_stations, State.clearDemand_stations,
    State.leaveLists_stations]

theorem State.removeStream_stations (s : State) (i : Nat) : (s.removeStream i).stations = (s.dropReference i).stations := by
  rw [State.removeStream_eq, State.retireStream, State.settleStream_stations, State.modStream_stations, State.stripStream_stations]

/-- The reference given up is the owner's. -/
theorem State.dropReference_work (hs : s.tablesCanonical) (owned : (s.stream i).ownedBy k) :
    State.StreamWork k [i] s (s.dropReference i) := by
  obtain ⟨slot, owner⟩ := owned
  have of_owner : ∀ o, s.ownerOf i = some o → o.1 = k := fun o h => by
    have owns := (Option.filter_eq_some_iff.1 h).1
    rw [owner] at owns
    exact (congrArg Prod.fst (Option.some.inj owns)).symm
  unfold State.dropReference
  split
  · rename_i t q h
    obtain rfl : t = k := of_owner _ h
    exact .modRefs hs t [i] fun _ => rfl
  · exact .refl k [i] hs

theorem State.removeStream_work (hs : s.tablesCanonical) (owned : (s.stream i).ownedBy k) :
    State.StreamWork k [i] s (s.removeStream i) :=
  have dropped := State.dropReference_work hs owned
  have stripped := State.stripStream_work dropped.canonical k i
  have retired := State.StreamWork.modStream stripped.canonical k i fun e => { e with state := .retiring }
  dropped.trans (stripped.trans (retired.trans (.settleStream retired.canonical k i)))

/-- A removed stream is RETIRING or FREE, without a share and on no list. -/
theorem State.removeStream_at (hs : s.tablesCanonical) (owned : (s.stream i).ownedBy k) :
    (((s.removeStream i).stream i).state = .retiring ∨ ((s.removeStream i).stream i).state = .free) ∧
      (s.removeStream i).reservedOf i = Reserved.none ∧ ∀ l c, i ∉ (s.removeStream i).list l c := by
  have dropped := State.dropReference_work hs owned
  have stripped := State.stripStream_work dropped.canonical k i
  obtain ⟨share, lists⟩ := State.stripStream_at dropped.canonical i
  obtain ⟨state, reserved, on⟩ := State.retireStream_at stripped.canonical i
  rw [State.removeStream_eq]
  exact ⟨state, reserved.trans share, fun l c h => lists l c (on l c h)⟩

/-- The slot that led to the removed stream leads nowhere, and every other slot of its station where it led. -/
theorem State.slotStream_removeStream {slot : Fin 8} (hs : s.tablesCanonical) (low : 1 ≤ k) (high : k ≤ 4095)
    (leads : s.slotStream k slot = some i) (q : Fin 8) :
    (s.removeStream i).slotStream k q = (s.slotStream k q).filter (· ≠ i) := by
  have owner := State.owner_of_slotStream leads
  have work := State.removeStream_work hs ⟨slot, owner⟩
  have gone : (s.removeStream i).leads k q i = false := by
    rcases (State.removeStream_at hs ⟨slot, owner⟩).1 with h | h <;> simp [State.leads, h]
  have others : ∀ j, j ≠ i → (s.removeStream i).leads k q j = s.leads k q j := fun j hj => by
    rw [State.leads, State.leads, (work.stream j (by simpa using hj)).entry]
  have ownerOf : s.ownerOf i = some (k, slot) := by
    simp [State.ownerOf, owner, leads, low, Config.stations, high]
  have refs : ((s.removeStream i).station k).refs = (s.station k).refs.set slot none := by
    rw [State.station_of_stations (s.removeStream_stations i), State.dropReference, ownerOf,
      s.station_modStation k k _ hs.1, if_pos rfl]
    rfl
  rw [State.slotStream, refs]
  by_cases same : q = slot
  · subst same
    simp [leads, Option.filter]
  · have other : (slot : Nat) ≠ q := fun e => same (Fin.ext e.symm)
    have ref : ((s.station k).refs.set slot none)[q] = (s.station k).refs[q] := by simp [other]
    rw [ref, State.slotStream, Option.filter_filter]
    refine congrArg (Option.filter · _) (funext fun j => ?_)
    by_cases hj : j = i
    · subst hj
      simp [gone]
    · simp [others j hj, hj]

end

end Sys2Proof.Machine
end

section
/-! PROOFS. STATION_HOLD and STATION_RESUME (R48, R49). -/

namespace Sys2Proof.Machine

/-! ### Writes of station entries -/

section
variable {s : State} (hs : s.tablesCanonical) (k : Nat) (f : StationEntry → StationEntry)
include hs

theorem State.modStation_canonical : (s.modStation k f).tablesCanonical := ⟨s.putStation_wf k _ hs.1, hs.2⟩

theorem State.station_modStation_same : (s.modStation k f).station k = (f (s.station k)).seal :=
  (s.station_modStation k k f hs.1).trans (if_pos rfl)

theorem State.station_modStation_other {j : Nat} (h : j ≠ k) : (s.modStation k f).station j = s.station j :=
  (s.station_modStation k j f hs.1).trans (if_neg h)

/-- A write that leaves the references leaves the streams of the station. -/
theorem State.streamsOf_modStation (only : ∀ e, (f e).refs = e.refs) : (s.modStation k f).streamsOf k = s.streamsOf k :=
  State.streamsOf_congr (by rw [State.station_modStation_same hs]; exact only _) fun _ => ⟨rfl, rfl⟩

end

/-- The states agree but for the station entries. -/
def State.Restationed (s t : State) : Prop := t = { s with stations := { s.stations with entries := t.stations.entries } }

namespace State.Restationed

variable {s t u : State}

theorem trans (h : s.Restationed t) (k : t.Restationed u) : s.Restationed u := by
  unfold State.Restationed at *
  rw [k, h]

theorem modStation (s : State) (k : Nat) (f : StationEntry → StationEntry) : s.Restationed (s.modStation k f) := rfl

theorem of_work {k : Nat} {is : List Nat} (h : State.StreamWork k is s t) (streams : t.streams = s.streams) :
    s.Restationed t := by
  have frame := h.frame
  rw [streams] at frame
  exact frame

theorem streams (h : s.Restationed t) : t.streams = s.streams := by rw [h]

theorem relisted (h : s.Restationed t) (k : t.Relisted u) :
    u = { s with
      stations := { s.stations with entries := u.stations.entries }
      streams := { s.streams with service := u.streams.service, joined := u.streams.joined } } := by
  rw [k, h]

end State.Restationed

/-! ### The station held or resumed -/

/-- The station with its references tidied and its state given: the first steps of R48 and R49. -/
def State.tidied (s : State) (k : Nat) (st : StationState) : State :=
  (s.tidyRefs k).modStation k fun e => { e with state := st }

theorem State.tidied_spec {s : State} (hs : s.tablesCanonical) (k : Nat) (st : StationState) :
    s.Restationed (s.tidied k st) ∧ ((s.tidied k st).station k).state = st ∧
      (∀ j, j ≠ k → (s.tidied k st).station j = s.station j) ∧ (s.tidied k st).streamsOf k = s.streamsOf k := by
  obtain ⟨work, streams, -⟩ := s.tidyRefs_spec hs k
  unfold State.tidied
  refine ⟨(State.Restationed.of_work work streams).trans (.modStation _ k _), ?_, fun j hj => ?_, ?_⟩
  · rw [State.station_modStation_same work.canonical]
    rfl
  · rw [State.station_modStation_other work.canonical k _ hj, work.station j hj]
  · rw [State.streamsOf_modStation work.canonical k _ (by exact fun _ => rfl), State.streamsOf_tidyRefs hs]

section
variable {d : State} {k : Nat}

theorem holdOwn_done (h : (d.station k).state = .active) :
    holdOwn k d = carryOut .empty ((d.tidied k .held).unlistStreams k) := if_pos h

theorem resumeOwn_done (h : (d.station k).state = .held) :
    resumeOwn k d = carryOut .empty ((d.tidied k .active).relistStreams k) := if_pos h

end

end Sys2Proof.Machine

open Sys2Proof Sys2Proof.Machine

/-- Settles O33: the tidied station takes its state, and then `unlistStreams_spec` and `relistStreams_spec` say where its streams
stand. -/
theorem stationHoldAndResumeMoveItsStreams : Obligations.StationHoldAndResumeMoveItsStreams := by
  rintro s d req tag k h ho hd rfl low high checks
  have own {o : Nat → State → Answer} := onStation_own (own := o) low high checks
  refine ⟨fun active => ?_, fun held => ?_⟩
  · have used : (d.station tag.toNat).state ≠ .free := by rw [active]; nofun
    obtain ⟨restationed, state, others, streamsOf⟩ := State.tidied_spec hd tag.toNat .held
    obtain ⟨relisted, joined, lists⟩ := (d.tidied tag.toNat .held).unlistStreams_spec tag.toNat
    rw [streamsOf] at lists
    have frame := restationed.relisted relisted
    rw [joined, restationed.streams] at frame
    refine ⟨(d.tidied tag.toNat .held).unlistStreams tag.toNat, State.request_done h ho ((own used).trans (holdOwn_done active)),
      ?_, fun i hi l c on => ?_, fun i hi l c => ?_, fun i => ?_, fun j hj => ?_, frame⟩
    · rw [relisted.station, state]
    · exact ((lists i l c).1 on).2 hi
    · rw [lists, State.list, restationed.streams]
      exact and_iff_left hi
    · rw [relisted.stream, State.stream_of_streams restationed.streams]
    · rw [relisted.station, others j hj]
  · have used : (d.station tag.toNat).state ≠ .free := by rw [held]; nofun
    obtain ⟨restationed, state, others, streamsOf⟩ := State.tidied_spec hd tag.toNat .active
    obtain ⟨relisted, lists⟩ := (d.tidied tag.toNat .active).relistStreams_spec tag.toNat
    have entries := State.stream_of_streams restationed.streams
    refine ⟨(d.tidied tag.toNat .active).relistStreams tag.toNat,
      State.request_done h ho ((own used).trans (resumeOwn_done held)),
      ?_, fun i hi inUse bidding avail l on => ?_, fun i => ?_, fun j hj => ?_, restationed.relisted relisted⟩
    · rw [relisted.station, state]
    · rw [lists, streamsOf, entries]
      exact .inr ⟨hi, ⟨inUse, bidding, Nat.sub_pos_of_lt avail⟩, on, rfl⟩
    · rw [relisted.stream, entries]
    · rw [relisted.station, others j hj]
end

section
/-! PROOFS. STATION_RELEASE (R50), and the entry that becomes FREE (R54). -/

namespace Sys2Proof.Machine

/-! ### An entry becomes FREE (R54) -/

/-- The notices that name the tag are removed, and nothing else is written. -/
theorem State.dropNoticesOf_spec (s : State) (k : Nat) :
    s.dropNoticesOf k = { s with lanes := (s.dropNoticesOf k).lanes } ∧
      ∀ l, ∀ n ∈ ((s.dropNoticesOf k).lane l).notices, n.body.tag ≠ k := by
  have walk : ∀ (ls : List LaneId) (s t : State), t = ls.foldl (fun s l => s.modLane l fun v =>
        { v with notices := v.notices.filter (fun n => n.body.tag ≠ k) }) s →
      t = { s with lanes := t.lanes } ∧ ∀ l, ∀ n ∈ (t.lane l).notices, n ∈ (s.lane l).notices ∧ (l ∈ ls → n.body.tag ≠ k) := by
    intro ls
    induction ls with
    | nil => rintro s _ rfl; exact ⟨rfl, fun l n hn => ⟨hn, by simp⟩⟩
    | cons m rest ih =>
      rintro s t ht
      obtain ⟨frame, kept⟩ := ih _ t ht
      refine ⟨frame, fun l n hn => ?_⟩
      obtain ⟨here, there⟩ := kept l n hn
      by_cases h : l = m
      · subst h
        rw [State.lane_modLane_same] at here
        obtain ⟨here, ne⟩ := List.mem_filter.1 here
        exact ⟨here, fun _ => of_decide_eq_true ne⟩
      · rw [State.lane_modLane_other _ _ _ _ h] at here
        exact ⟨here, fun hl => there ((List.mem_cons.1 hl).resolve_left h)⟩
  obtain ⟨frame, gone⟩ := walk allLanes s _ rfl
  exact ⟨frame, fun l n hn => (gone l n hn).2 (mem_allLanes l)⟩

/-- The entry with its free values, off the due queue, its tag at the tail of the free tag list, and its notices gone. -/
theorem State.freeStation_spec (s : State) (k : Nat) :
    s.freeStation k = { s with
      stations := { (s.putStation k StationEntry.free).stations with freeTags := s.stations.freeTags ++ [k] }
      align := (s.leaveDue k).align
      lanes := (s.freeStation k).lanes } ∧
    ∀ l, ∀ n ∈ ((s.freeStation k).lane l).notices, n.body.tag ≠ k :=
  State.dropNoticesOf_spec _ k

/-- A RELEASING entry is kept while a plan or the draft names it, and otherwise becomes FREE. -/
theorem State.settleStation_named {s : State} {k : Nat} (named : 0 < s.stationRefs k ∨ s.draftNamesStation k = true) :
    s.settleStation k = s := by
  refine if_neg fun ⟨_, unreferenced, undrafted⟩ => ?_
  rcases named with h | h
  · exact h.ne' unreferenced
  · simp [h] at undrafted

theorem State.settleStation_unnamed {s : State} {k : Nat} (releasing : (s.station k).state = .releasing)
    (unreferenced : s.stationRefs k = 0) (undrafted : s.draftNamesStation k = false) :
    s.settleStation k = s.freeStation k := if_pos ⟨releasing, unreferenced, undrafted⟩

/-- What settling leaves, whether or not the entry becomes FREE. -/
theorem State.settleStation_kept {s : State} (hs : s.tablesCanonical) (k : Nat) :
    (s.settleStation k).stations.joinMap = s.stations.joinMap ∧ (s.settleStation k).streams = s.streams ∧
      (s.settleStation k).refs = s.refs ∧ (s.settleStation k).port = s.port ∧
      (k ∉ s.align.dueQueue → k ∉ (s.settleStation k).align.dueQueue) ∧
      ∀ j, j ≠ k → (s.settleStation k).station j = s.station j := by
  unfold State.settleStation
  split
  · obtain ⟨frame, -⟩ := s.freeStation_spec k
    generalize s.freeStation k = t at frame
    rw [frame]
    exact ⟨rfl, rfl, rfl, rfl, fun _ => by simp [State.leaveDue],
      fun j hj => State.station_modStation_other hs k (fun _ => StationEntry.free) hj⟩
  · exact ⟨rfl, rfl, rfl, rfl, id, fun _ _ => rfl⟩

theorem StationEntry.seal_seal (e : StationEntry) : e.seal.seal = e.seal := rfl

theorem StationEntry.seal_free : StationEntry.free.seal = StationEntry.free := by
  unfold StationEntry.free
  rw [StationEntry.seal_seal]

theorem State.freeStation_entry {s : State} (hs : s.tablesCanonical) (k : Nat) :
    (s.freeStation k).station k = StationEntry.free ∧ (s.freeStation k).stations.freeTags = s.stations.freeTags ++ [k] := by
  obtain ⟨frame, -⟩ := s.freeStation_spec k
  have entry := State.station_modStation_same hs k fun _ => StationEntry.free
  rw [StationEntry.seal_free] at entry
  generalize s.freeStation k = t at frame
  rw [frame]
  exact ⟨entry, rfl⟩

theorem State.raise_align (s : State) (b : ReportBody) : (s.raise b).align = s.align := by rw [State.raise_port]

/-! ### The steps of a release (R50) -/

/-- No address leads to the tag, nor the note of the tags quarantined. -/
def State.forgotten (s : State) (k : Nat) : State :=
  { s with stations := { s.stations with joinMap := s.stations.joinMap.filter (fun m => m.2 ≠ k) } }.forgetQuarantine k

/-- The station has no address. -/
def State.unmapped (s : State) (k : Nat) : State := (s.forgotten k).modStation k fun e => { e with addr := none }

/-- Every stream of the station is removed. -/
def State.removeStreams (s : State) (k : Nat) : State := (s.streamsOf k).foldl State.removeStream s

/-- The entry of a station that is RELEASING. -/
def StationEntry.releasing (e : StationEntry) : StationEntry :=
  { e with refs := Vector.replicate 8 none, admitted := false, paused := false, laneSet := 0, state := .releasing }

/-- A station without streams is RELEASING, and off the due queue. -/
def State.stripped (s : State) (k : Nat) : State := (s.modStation k StationEntry.releasing).leaveDue k

theorem State.stripped_spec {s : State} (hs : s.tablesCanonical) (k : Nat) :
    (s.stripped k).tablesCanonical ∧ k ∉ (s.stripped k).align.dueQueue ∧
      (s.stripped k).station k = (s.station k).releasing.seal ∧ ∀ j, j ≠ k → (s.stripped k).station j = s.station j :=
  ⟨State.modStation_canonical hs k _, by simp [State.stripped, State.leaveDue],
    State.station_modStation_same hs k StationEntry.releasing,
    fun _ hj => State.station_modStation_other hs k StationEntry.releasing hj⟩

theorem State.stripped_kept (s : State) (k : Nat) : (s.stripped k).refs = s.refs ∧ (s.stripped k).builder = s.builder ∧
    (s.stripped k).port = s.port ∧ (s.stripped k).now = s.now ∧ (s.stripped k).streams = s.streams ∧
    (s.stripped k).stations.freeTags = s.stations.freeTags ∧ (s.stripped k).stations.joinMap = s.stations.joinMap :=
  ⟨rfl, rfl, rfl, rfl, rfl, rfl, rfl⟩

/-- The steps of a release up to RELEASING. -/
def State.disowned (s : State) (k : Nat) : State := ((s.unmapped k).removeStreams k).stripped k

theorem State.release_eq (s : State) (k : Nat) (cause : Cause) :
    s.release k cause = ((s.disowned k).settleStation k).raise (.released k cause) := rfl

theorem State.removeStreams_work {s : State} (hs : s.tablesCanonical) (k : Nat) :
    State.StreamWork k (s.streamsOf k) s (s.removeStreams k) :=
  .foldl (Q := (·.ownedBy k)) (fun _ _ hu => State.removeStream_work hu) State.streamsOf_nodup hs
    fun _ => State.ownedBy_of_mem_streamsOf

theorem State.removeStreams_at {s : State} (hs : s.tablesCanonical) (k : Nat) {i : Nat} (hi : i ∈ s.streamsOf k) :
    ((s.removeStreams k).stream i).state = .retiring ∨ ((s.removeStreams k).stream i).state = .free := by
  obtain ⟨u, hu, before, after⟩ := State.StreamWork.foldl_at (k := k) (Q := (·.ownedBy k))
    (fun _ _ hu => State.removeStream_work hu) State.streamsOf_nodup hs (fun _ => State.ownedBy_of_mem_streamsOf) hi
  rw [State.removeStreams, after.entry]
  exact (State.removeStream_at hu (by rw [before.entry]; exact State.ownedBy_of_mem_streamsOf hi)).1

section
variable {s : State} (hs : s.tablesCanonical) (k : Nat)
include hs

theorem State.unmapped_spec : (s.unmapped k).tablesCanonical ∧ (∀ a, (a, k) ∉ (s.unmapped k).stations.joinMap) ∧
    ((s.unmapped k).station k).addr = none ∧
    (∀ j, j ≠ k → (s.unmapped k).station j = s.station j) ∧ (s.unmapped k).streamsOf k = s.streamsOf k := by
  have hf : (s.forgotten k).tablesCanonical := hs
  have entry : (s.unmapped k).station k = { s.station k with addr := none }.seal :=
    State.station_modStation_same hf k fun e => { e with addr := none }
  have joinMap : (s.unmapped k).stations.joinMap = s.stations.joinMap.filter (fun m => m.2 ≠ k) := rfl
  refine ⟨State.modStation_canonical hf k _, fun a => ?_, by rw [entry]; rfl,
    fun j hj => State.station_modStation_other hf k (fun e => { e with addr := none }) hj,
    State.streamsOf_congr (by rw [entry]; rfl) fun _ => ⟨rfl, rfl⟩⟩
  rw [joinMap]
  simp

/-- The station RELEASING: what it holds no more, and what is as it was. -/
theorem State.disowned_spec :
    (s.disowned k).tablesCanonical ∧ (∀ a, (a, k) ∉ (s.disowned k).stations.joinMap) ∧ k ∉ (s.disowned k).align.dueQueue ∧
      (∀ i ∈ s.streamsOf k, ((s.disowned k).stream i).state = .retiring ∨ ((s.disowned k).stream i).state = .free) ∧
      (((s.disowned k).station k).state = .releasing ∧ ((s.disowned k).station k).addr = none ∧
        ((s.disowned k).station k).admitted = false ∧ ((s.disowned k).station k).paused = false ∧
        ((s.disowned k).station k).laneSet = 0) ∧
      ∀ j, j ≠ k → (s.disowned k).station j = s.station j := by
  obtain ⟨canonical, unmapped, addr, others, streamsOf⟩ := s.unmapped_spec hs k
  have work := State.removeStreams_work canonical k
  obtain ⟨canonical', undue, entry, others'⟩ := State.stripped_spec work.canonical k
  obtain ⟨-, -, -, -, streams, -, joinMap⟩ := ((s.unmapped k).removeStreams k).stripped_kept k
  unfold State.disowned
  rw [joinMap, work.joinMap, entry]
  refine ⟨canonical', unmapped, undue, fun i hi => ?_, ⟨rfl, ?_, rfl, rfl, rfl⟩, fun j hj => ?_⟩
  · rw [← streamsOf] at hi
    rw [State.stream_of_streams streams]
    exact State.removeStreams_at canonical k hi
  · rw [work.entry, ← addr]
    rfl
  · rw [others' j hj, work.station j hj, others j hj]

theorem State.disowned_kept : (s.disowned k).refs = s.refs ∧ (s.disowned k).builder = s.builder ∧
    (s.disowned k).port = s.port ∧ (s.disowned k).now = s.now ∧ (s.disowned k).stations.freeTags = s.stations.freeTags := by
  obtain ⟨canonical, -⟩ := s.unmapped_spec hs k
  have work := State.removeStreams_work canonical k
  obtain ⟨refs, builder, port, now, -, freeTags, -⟩ := ((s.unmapped k).removeStreams k).stripped_kept k
  unfold State.disowned
  rw [refs, builder, port, now, freeTags, work.refs, work.builder, work.port, work.now, work.freeTags]
  exact ⟨rfl, rfl, rfl, rfl, rfl⟩

end

section
variable {d : State} {k : Nat}

theorem releaseOwn_done (h : (d.station k).state ≠ .releasing) :
    releaseOwn k d = carryOut (.release ((d.release k .request).station k).state) (d.release k .request) := if_neg h

end

end Sys2Proof.Machine

open Sys2Proof Sys2Proof.Machine

/-- Settles O34: `disowned_spec` gives the station RELEASING, and then it is settled: kept while it is named, else FREE. -/
theorem stationReleaseFreesOrKeepsTheTag : Obligations.StationReleaseFreesOrKeepsTheTag := by
  rintro s d req tag k h ho hd rfl low high checks used notReleasing
  refine ⟨d.release tag.toNat .request,
    State.request_done h ho ((onStation_own low high checks used).trans (releaseOwn_done notReleasing)), ?_⟩
  obtain ⟨canonical, unmapped, undue, removed, entry, others⟩ := d.disowned_spec hd tag.toNat
  obtain ⟨refs, builder, port, now, freeTags⟩ := d.disowned_kept hd tag.toNat
  obtain ⟨joinMap, streams, refs', port', due, others'⟩ := State.settleStation_kept canonical tag.toNat
  have keeps := d.keeps_release tag.toNat .request
  have room : (d.port.reports.length < 64 →
    (d.release tag.toNat .request).port.reports = d.port.reports ++ [⟨d.now, .released tag.toNat .request⟩]) := fun few => by
    have now' := (State.keeps_settleStation (d.disowned tag.toNat) tag.toNat).now
    rw [State.release_eq, State.raise_room _ _ (by rw [port', port]; exact few), port', port, now', now]
  refine ⟨fun a => ?_, ?_, fun i hi => ?_, fun named => ?_, fun unreferenced undrafted => ?_, fun j hj => ?_, ?_,
    keeps.link, keeps.builder, keeps.claims, room⟩
  · rw [State.release_eq, State.raise_stations, joinMap]
    exact unmapped a
  · rw [State.release_eq, State.raise_align]
    exact due undue
  · rw [State.release_eq, State.stream_of_streams (State.raise_streams _ _), State.stream_of_streams streams]
    exact removed i hi
  · have named' : 0 < (d.disowned tag.toNat).stationRefs tag.toNat ∨ (d.disowned tag.toNat).draftNamesStation tag.toNat = true := by
      rwa [State.stationRefs, refs, State.draftNamesStation, builder]
    rw [State.release_eq, State.settleStation_named named', State.station_of_stations (State.raise_stations _ _),
      State.raise_stations]
    obtain ⟨state, addr, admitted, paused, laneSet⟩ := entry
    exact ⟨state, addr, admitted, paused, laneSet, freeTags⟩
  · have freed := State.settleStation_unnamed entry.1 (by rwa [State.stationRefs, refs]) (by rwa [State.draftNamesStation, builder])
    obtain ⟨free, tags⟩ := State.freeStation_entry canonical tag.toNat
    rw [State.release_eq, freed, State.station_of_stations (State.raise_stations _ _), State.raise_stations, free, tags, freeTags]
    refine ⟨rfl, rfl, fun l => ?_⟩
    rw [State.raise_lane]
    exact ((d.disowned tag.toNat).freeStation_spec tag.toNat).2 l
  · rw [State.release_eq, State.station_of_stations (State.raise_stations _ _), others' j hj, others j hj]
  · rw [State.release_eq, State.raise_refs, refs', refs]
end

section
/-! PROOFS. An open-window RESULT: refused or discarded, a new join or a rejoin (R40 to R43). -/

namespace Sys2Proof.Machine

/-! ### The first correction (R62) -/

theorem clampI_eq {lo hi : Int} (x : Int) (h : lo ≤ hi) : clampI lo hi x = max lo (min x hi) := by
  unfold clampI
  split_ifs <;> omega

theorem firstOffset_eq {u : LaneSetup} {et : Int} {O : Nat} (h : (O : Int) = max 0 (min (u.Od + et) 1048575)) :
    firstOffset u et = O := by
  rw [firstOffset, clampI_eq _ (by decide), Config.offsetMax, ← h, Int.toNat_natCast]

theorem firstPower_eq {u : LaneSetup} {ep : Int} {P : Nat} (order : u.Pmin ≤ u.Pmax)
    (h : (P : Int) = max (u.Pmin : Int) (min ((((u.Pmin + u.Pmax) / 2 : Nat) : Int) - ep) u.Pmax)) : firstPower u ep = P := by
  rw [firstPower, clampI_eq _ (by exact_mod_cast order), ← h, Int.toNat_natCast]

/-! ### The steps that a new join and a rejoin share -/

/-- The station is due now, its notice joins the lane's queue, and the join is counted. -/
def State.welcomed (s : State) (l : LaneId) (q : PlanSeq) (t : Nat) (b : NoticeBody) : State :=
  ((s.setDueNow t).pushNotice l b).countJoin l q

section
variable (s : State) (l : LaneId) (q : PlanSeq) (t : Nat) (b : NoticeBody)

theorem State.welcomed_stations :
    (s.welcomed l q t b).stations = (s.modStation t fun e => { e with due := s.now }).stations := by
  simp [State.welcomed, State.countJoin, State.modHistory, State.setDueNow]

theorem State.welcomed_kept : (s.welcomed l q t b).ports = s.ports ∧ (s.welcomed l q t b).builder = s.builder ∧
    (s.welcomed l q t b).link = s.link ∧ (s.welcomed l q t b).refs = s.refs ∧ (s.welcomed l q t b).streams = s.streams ∧
    (s.welcomed l q t b).port = s.port ∧ (s.welcomed l q t b).now = s.now ∧
    (s.welcomed l q t b).stations.freeTags = s.stations.freeTags ∧
    (s.welcomed l q t b).stations.joinMap = s.stations.joinMap := by
  rw [State.welcomed_stations]
  simp [State.welcomed, State.countJoin, State.modHistory, State.setDueNow, State.modStation, State.putStation]

theorem State.welcomed_lane : (s.welcomed l q t b).lane l = { s.lane l with
    notices := (s.lane l).notices ++ [⟨b, none, false⟩]
    history := (s.lane l).history.map fun g => if g.seq = q then { g with joins := g.joins + 1 } else g } := by
  rw [State.welcomed, State.countJoin, State.modHistory, State.lane_modLane_same, State.pushNotice, State.lane_modLane_same]
  rfl

theorem State.welcomed_due : t ∈ (s.welcomed l q t b).align.dueQueue :=
  (State.mem_joinDue _ t t).2 (.inl rfl)

theorem State.welcomed_station {s : State} (hs : s.tablesCanonical) :
    (s.welcomed l q t b).station t = { s.station t with due := s.now }.seal ∧
      ∀ j, j ≠ t → (s.welcomed l q t b).station j = s.station j := by
  have stations := State.station_of_stations (s.welcomed_stations l q t b)
  refine ⟨?_, fun j hj => ?_⟩
  · rw [stations, State.station_modStation_same hs]
  · rw [stations, State.station_modStation_other hs t _ hj]

end

/-! ### The two joins -/

/-- The entry of a station that has joined by an open window. -/
def StationEntry.joined (a : HwAddr) (l : LaneId) (O Pw : Nat) : StationEntry :=
  { StationEntry.free with state := .aligning, addr := some a, laneSet := laneBit l, home := l, O := O, Pw := Pw }

/-- A field written over a sealed entry is sealed with the others. -/
theorem StationEntry.seal_due (e : StationEntry) (now : Time) :
    StationEntry.seal { e.seal with due := now } = StationEntry.seal { e with due := now } := rfl

/-- The tag at the head of the free tag list taken for the address. -/
def State.tagged (s : State) (a : HwAddr) (t : Nat) : State :=
  { s with stations := { s.stations with freeTags := s.stations.freeTags.tail, joinMap := s.stations.joinMap ++ [(a, t)] } }

theorem State.newJoin_eq (s : State) (l : LaneId) (h : HistEntry) (a : HwAddr) (t : Nat) (et ep : Int) :
    s.newJoin l h a t et ep =
      ((((s.tagged a t).putStation t (.joined a l (firstOffset (s.setupOf l) et) (firstPower (s.setupOf l) ep))).welcomed l h.seq t
        (.join a t (firstOffset (s.setupOf l) et) (firstPower (s.setupOf l) ep))).raise (.joined l t a)) := rfl

/-- The entry of a station that has rejoined by an open window. -/
def StationEntry.rejoined (l : LaneId) (O Pw : Nat) (e : StationEntry) : StationEntry :=
  { e with state := .aligning, attempts := 0, misses := 0, laneSet := addLane e.laneSet l, home := l, paused := false,
           O := O, Pw := Pw }

/-- The station rejoined, its streams' demand cleared. -/
def State.rejoined (s : State) (t : Nat) (l : LaneId) (O Pw : Nat) : State :=
  ((s.modStation t (.rejoined l O Pw)).tidyRefs t).clearStreams t

theorem State.rejoin_eq (s : State) (l : LaneId) (h : HistEntry) (a : HwAddr) (t : Nat) (et ep : Int) :
    s.rejoin l h a t et ep =
      ((s.rejoined t l (firstOffset (s.setupOf l) et) (firstPower (s.setupOf l) ep)).welcomed l h.seq t
        (.join a t (firstOffset (s.setupOf l) et) (firstPower (s.setupOf l) ep))).raise (.rejoined l t a (s.station t).state) := rfl

section
variable {s : State} (hs : s.tablesCanonical) (t : Nat)
include hs

/-- Clearing the streams of a station with tidied references: its streams are the station's own. -/
theorem State.tidyClear_spec :
    State.StreamWork t (s.streamsOf t) s ((s.tidyRefs t).clearStreams t) ∧
      ∀ i ∈ s.streamsOf t, ((s.tidyRefs t).clearStreams t).stream i = (s.stream i).cleared.seal ∧
        ((s.tidyRefs t).clearStreams t).reservedOf i = s.reservedOf i ∧
        ∀ l c, i ∉ ((s.tidyRefs t).clearStreams t).list l c := by
  obtain ⟨work, streams, -⟩ := s.tidyRefs_spec hs t
  have cleared := State.clearStreams_work work.canonical t
  have at_ := fun i => State.clearStreams_at work.canonical t (i := i)
  rw [State.streamsOf_tidyRefs hs] at cleared at_
  refine ⟨(work.mono (List.nil_subset _)).trans cleared, fun i hi => ?_⟩
  have same := State.stream_of_streams streams i
  obtain ⟨entry, reserved, lists⟩ := at_ i hi
  exact ⟨by rw [entry, same], by rw [reserved, State.reservedOf, streams, State.reservedOf], lists⟩

end

/-! ### The branches of R40 and R41 -/

section
variable {s : State} {l : LaneId} {h : HistEntry} {a : HwAddr} {et ep : Int} {q : Nat}

theorem State.joinRecord_discards (closed : ¬(h.openWindow = true ∧ h.joins < 8 ∧ s.align.settings.qMin ≤ q)) :
    s.joinRecord l h a et ep q = s.discardResult l := by
  refine if_pos ?_
  rwa [not_and_or, not_and_or, Bool.not_eq_true, Nat.not_lt, Nat.not_le] at closed

variable (allowed : h.openWindow = true ∧ h.joins < 8 ∧ s.align.settings.qMin ≤ q)
include allowed

/-- A result that R40 admits goes on by its address. -/
theorem joinGuard_passes : ¬(h.openWindow = false ∨ Config.joins ≤ h.joins ∨ q < s.align.settings.qMin) := by
  rwa [not_or, not_or, Bool.not_eq_false, Nat.not_le, Nat.not_lt]

theorem State.joinRecord_new_notLive (fresh : s.mapped a = none) (live : (s.lane l).state ≠ .live) :
    s.joinRecord l h a et ep q = s.refuseJoin l a .busy := by
  simp only [State.joinRecord, if_neg (joinGuard_passes allowed), fresh, State.isLive, live, decide_false, if_true]

theorem State.joinRecord_new_full (fresh : s.mapped a = none) (live : (s.lane l).state = .live) (full : s.stations.freeTags = []) :
    s.joinRecord l h a et ep q = s.refuseJoin l a .full := by
  simp only [State.joinRecord, if_neg (joinGuard_passes allowed), fresh, State.isLive, live, full, decide_true,
    Bool.true_eq_false, if_false]

theorem State.joinRecord_new {t : Nat} {rest : List Nat} (fresh : s.mapped a = none) (live : (s.lane l).state = .live)
    (tags : s.stations.freeTags = t :: rest) : s.joinRecord l h a et ep q =
      if Config.notices ≤ (s.lane l).notices.length then s.refuseJoin l a .busy else s.newJoin l h a t et ep := by
  simp only [State.joinRecord, if_neg (joinGuard_passes allowed), fresh, State.isLive, live, tags, decide_true,
    Bool.true_eq_false, if_false, decide_eq_true_eq]

variable {t : Nat} (mapped : s.mapped a = some t) (checks : (s.station t).checks = true)
include mapped checks

theorem State.joinRecord_quarantined (state : (s.station t).state = .quarantined) :
    s.joinRecord l h a et ep q = s.refuseJoin l a .quarantined := by
  simp only [State.joinRecord, if_neg (joinGuard_passes allowed), mapped, s.checkStation_passes _ _ checks, state, if_true]

theorem State.joinRecord_known (state : (s.station t).state ≠ .quarantined) : s.joinRecord l h a et ep q =
    if (s.lane l).state ≠ .live ∨ Config.notices ≤ (s.lane l).notices.length then s.refuseJoin l a .busy
    else s.rejoin l h a t et ep := by
  simp only [State.joinRecord, if_neg (joinGuard_passes allowed), mapped, s.checkStation_passes _ _ checks, state, if_false,
    State.isLive, decide_eq_false_iff_not, decide_eq_true_eq, ne_eq]

end

/-! ### What a new join and a rejoin leave -/

section
variable {s b : State} (l : LaneId) (q : PlanSeq) (t : Nat) (n : NoticeBody) (report : ReportBody)
  (frame : b = { s with stations := b.stations, streams := b.streams }) (hb : b.tablesCanonical)
  (others : ∀ j, j ≠ t → b.station j = s.station j)
include frame hb others

/-- From a state `b` that differs from `s` in the station and its streams, the last steps of a join leave the rest of `s` as it was,
but for the notice and the count of joins. -/
theorem State.welcomed_raised : let r := (b.welcomed l q t n).raise report
    (r.lane l = { s.lane l with
      notices := (s.lane l).notices ++ [⟨n, none, false⟩]
      history := (s.lane l).history.map fun g => if g.seq = q then { g with joins := g.joins + 1 } else g } ∧
    (∀ j, j ≠ t → r.station j = s.station j) ∧ t ∈ r.align.dueQueue ∧ r.ports = s.ports ∧
      r.builder = s.builder ∧ r.link = s.link ∧ r.refs = s.refs) ∧
    r.stations.freeTags = b.stations.freeTags ∧ r.stations.joinMap = b.stations.joinMap ∧ r.streams = b.streams ∧
    r.station t = { b.station t with due := s.now }.seal ∧
    (s.port.reports.length < 64 → r.port.reports = s.port.reports ++ [⟨s.now, report⟩]) := by
  obtain ⟨ports, builder, link, refs, streams, port, now, freeTags, joinMap⟩ := b.welcomed_kept l q t n
  obtain ⟨entry, others'⟩ := State.welcomed_station l q t n hb
  have lane : b.lane l = s.lane l := by rw [State.lane, frame, State.lane]
  have keptNow : b.now = s.now := by rw [frame]
  have keptPort : b.port = s.port := by rw [frame]
  refine ⟨⟨?_, fun j hj => ?_, ?_, ?_, ?_, ?_, ?_⟩, ?_, ?_, ?_, ?_, fun room => ?_⟩
  · rw [State.raise_lane, State.welcomed_lane, lane]
  · rw [State.station_of_stations (State.raise_stations _ _), others' j hj, others j hj]
  · rw [State.raise_align]
    exact b.welcomed_due l q t n
  · rw [State.raise_ports, ports, frame]
  · rw [State.raise_builder, builder, frame]
  · rw [State.raise_link, link, frame]
  · rw [State.raise_refs, refs, frame]
  · rw [State.raise_stations, freeTags]
  · rw [State.raise_stations, joinMap]
  · rw [State.raise_streams, streams]
  · rw [State.station_of_stations (State.raise_stations _ _), entry, keptNow]
  · rw [State.raise_room _ _ (by rw [port, keptPort]; exact room), port, now, keptPort, keptNow]

end

section
variable {s : State} (hs : s.tablesCanonical) (t : Nat) (l : LaneId) (O Pw : Nat)
include hs

/-- The station rejoined: its entry but for the references, its streams, and the rest as it was. -/
theorem State.rejoined_spec : (s.rejoined t l O Pw).tablesCanonical ∧
    (s.rejoined t l O Pw) = { s with stations := (s.rejoined t l O Pw).stations, streams := (s.rejoined t l O Pw).streams } ∧
    (s.rejoined t l O Pw).stations.freeTags = s.stations.freeTags ∧
    (s.rejoined t l O Pw).stations.joinMap = s.stations.joinMap ∧
    (∀ j, j ≠ t → (s.rejoined t l O Pw).station j = s.station j) ∧
    (s.rejoined t l O Pw).station t = { (s.station t).rejoined l O Pw with
      refs := ((s.rejoined t l O Pw).station t).refs, parity := ((s.rejoined t l O Pw).station t).parity } ∧
    ∀ i ∈ s.streamsOf t, (s.rejoined t l O Pw).stream i = (s.stream i).cleared.seal ∧
      ∀ l' c, i ∉ (s.rejoined t l O Pw).list l' c := by
  have hm := State.modStation_canonical hs t (.rejoined l O Pw)
  have entry := State.station_modStation_same hs t (.rejoined l O Pw)
  have others := fun j hj => State.station_modStation_other hs t (.rejoined l O Pw) (j := j) hj
  have streamsOf := State.streamsOf_modStation hs t (.rejoined l O Pw) fun _ => rfl
  obtain ⟨work, cleared⟩ := State.tidyClear_spec hm t
  rw [streamsOf] at cleared
  unfold State.rejoined
  generalize ((s.modStation t (.rejoined l O Pw)).tidyRefs t).clearStreams t = b at *
  refine ⟨work.canonical, ?_, work.freeTags, work.joinMap, fun j hj => (work.station j hj).trans (others j hj), ?_, fun i hi => ?_⟩
  · rw [work.frame]
    rfl
  · have own := work.entry
    rw [entry] at own
    exact own
  · obtain ⟨stream, -, lists⟩ := cleared i hi
    exact ⟨stream, lists⟩

/-- A new station: its entry, its tag taken, its address mapped, and the rest as it was. -/
theorem State.entered_spec (a : HwAddr) : ((s.tagged a t).putStation t (.joined a l O Pw)).tablesCanonical ∧
    (∀ j, j ≠ t → ((s.tagged a t).putStation t (.joined a l O Pw)).station j = s.station j) ∧
    ((s.tagged a t).putStation t (.joined a l O Pw)).station t = (StationEntry.joined a l O Pw).seal := by
  have hg : (s.tagged a t).tablesCanonical := hs
  exact ⟨State.modStation_canonical hg t fun _ => .joined a l O Pw,
    fun j hj => State.station_modStation_other hg t (fun _ => .joined a l O Pw) hj,
    State.station_modStation_same hg t fun _ => .joined a l O Pw⟩

end

/-! ### The record -/

/-- An address-form RESULT that passes the checks of R27 is taken by the lane's open window. -/
theorem exec_resultAddressForm {s : State} {h : RecordHead} {a : HwAddr} {et : BitVec 16} {ep q : Byte} {E : HistEntry}
    (pin : s.resetPin = false) (isOpen : s.laneOpen h.port = true)
    (wellFormed : (Instr.resultAddressForm h a et ep q).recordMalformed = false)
    (matched : s.historyEntry h.port h.planSeq = some E) :
    exec (.resultAddressForm h a et ep q) s =
      .next ((s.seen h).joinRecord h.port E a et.toInt ep.toInt q.toNat) := by
  have run : exec (.resultAddressForm h a et ep q) s = .next (State.admitRecord h (addressMalformed h a et ep q)
      (State.matchHistory h fun e s => s.joinRecord h.port e a et.toInt ep.toInt q.toNat) s) := s.unlessReset_free _ pin
  have bad : addressMalformed h a et ep q = false := wellFormed
  have seen : (s.seen h).historyEntry h.port h.planSeq = some E := matched
  rw [run, bad, s.admitRecord_wellFormed h isOpen, State.matchHistory, seen]

/-- A matched entry is the one of the plan sequence. -/
theorem State.seq_of_historyEntry {s : State} {l : LaneId} {q : PlanSeq} {E : HistEntry} (h : s.historyEntry l q = some E) :
    E.seq = q := by
  simpa using List.find?_some h

end Sys2Proof.Machine

open Sys2Proof Sys2Proof.Machine

/-- Settles O43: the branches of `joinRecord` in their order, and `welcomed_raised` for what the two joins leave. -/
theorem openWindowResultJoins : Obligations.OpenWindowResultJoins := by
  intro s h a et ep q E u O' P' pin hs isOpen wellFormed matched setup order hO hP discarded refused allowed live joined
  have onward : ∀ {t : State}, (s.seen h).joinRecord h.port E a et.toInt ep.toInt q.toNat = t →
      exec (.resultAddressForm h a et ep q) s = .next t := fun {t} e => by
    rw [exec_resultAddressForm pin isOpen wellFormed matched, e]
  have seq := State.seq_of_historyEntry matched
  have hr : (s.seen h).tablesCanonical := hs
  have setup' : (s.seen h).setupOf h.port = u := setup
  have offset : firstOffset ((s.seen h).setupOf h.port) et.toInt = O' := setup' ▸ firstOffset_eq hO
  have power : firstPower ((s.seen h).setupOf h.port) ep.toInt = P' := setup' ▸ firstPower_eq order hP
  refine ⟨fun closed => ?_, fun ok fresh => ⟨fun idle => ?_, fun isLive full => ?_, fun t rest isLive tags =>
    ⟨fun full => ?_, fun room => ?_⟩⟩, fun t ok mapped checks => ⟨fun quarantined => ?_, fun other barred => ?_,
      fun other isLive room => ?_⟩⟩
  · exact onward (State.joinRecord_discards (s := s.seen h) closed)
  · exact onward (State.joinRecord_new_notLive (s := s.seen h) ok fresh idle)
  · exact onward (State.joinRecord_new_full (s := s.seen h) ok fresh isLive full)
  · exact onward ((State.joinRecord_new (s := s.seen h) ok fresh isLive tags).trans (if_pos full))
  · refine ⟨_, onward ((State.joinRecord_new (s := s.seen h) ok fresh isLive tags).trans (if_neg (Nat.not_le.2 room))), ?_⟩
    rw [State.newJoin_eq, offset, power, seq]
    obtain ⟨canonical, others, entry⟩ := State.entered_spec hr t h.port O' P' a
    obtain ⟨same, freeTags, joinMap, streams, entry', reports⟩ :=
      State.welcomed_raised h.port h.planSeq t (.join a t O' P') (.joined h.port t a) rfl canonical others
    have taken : s.stations.freeTags.tail = rest := by rw [tags, List.tail_cons]
    refine ⟨same, freeTags.trans taken, joinMap, streams, ?_, reports⟩
    rw [entry', entry, StationEntry.seal_due, StationEntry.joined]
    generalize StationEntry.free = e
    rfl
  · exact onward (State.joinRecord_quarantined (s := s.seen h) ok mapped checks quarantined)
  · exact onward ((State.joinRecord_known (s := s.seen h) ok mapped checks other).trans (if_pos barred))
  · have unbarred : ¬((s.lane h.port).state ≠ .live ∨ Config.notices ≤ (s.lane h.port).notices.length) :=
      not_or.2 ⟨not_not.2 isLive, Nat.not_le.2 room⟩
    refine ⟨_, onward ((State.joinRecord_known (s := s.seen h) ok mapped checks other).trans (if_neg unbarred)), ?_⟩
    rw [State.rejoin_eq, offset, power, seq]
    obtain ⟨canonical, frame, freeTags, joinMap, others, entry, cleared⟩ := State.rejoined_spec hr t h.port O' P'
    obtain ⟨same, freeTags', joinMap', streams, entry', reports⟩ :=
      State.welcomed_raised h.port h.planSeq t (.join a t O' P') (.rejoined h.port t a ((s.seen h).station t).state) frame
        canonical others
    refine ⟨same, freeTags'.trans freeTags, joinMap'.trans joinMap, ?_⟩
    rw [entry', entry]
    refine ⟨rfl, rfl, rfl, rfl, rfl, rfl, rfl, rfl, rfl, rfl, rfl, rfl, fun i hi => ?_, reports⟩
    obtain ⟨stream, lists⟩ := cleared i hi
    rw [State.stream_of_streams streams, stream]
    refine ⟨rfl, fun l c => ?_⟩
    rw [State.list, streams]
    exact lists l c
end

section
/-! PROOFS. STATION_ADMIT: the streams fitted to the new lane set (R47). -/

namespace Sys2Proof.Machine

theorem filter_const_true {α : Type} (o : Option α) : (o.filter fun _ => true) = o := by
  cases o <;> rfl

/-- The stream shares a lane with the set, or is cadenced on a lane of it. -/
def StreamEntry.fits (m : LaneSet) (e : StreamEntry) : Bool :=
  match e.kind with
  | .bidding => decide (e.laneSet &&& m ≠ 0)
  | .cadenced => inSet m e.lane

/-- The entry of a stream that fits the set. -/
def StreamEntry.fitted (m : LaneSet) (e : StreamEntry) : StreamEntry :=
  if e.kind = .bidding then StreamEntry.seal { e with laneSet := e.laneSet &&& m } else e

section
variable {s : State} {m : LaneSet} {k i : Nat}

theorem State.fitStream_removes (unfit : (s.stream i).fits m = false) : State.fitStream m s i = s.removeStream i := by
  unfold StreamEntry.fits at unfit
  unfold State.fitStream
  cases kind : (s.stream i).kind with
  | bidding =>
    simp only [kind, decide_eq_false_iff_not, not_not] at unfit
    simp only [kind, unfit, if_true]
  | cadenced =>
    simp only [kind] at unfit
    simp only [kind, unfit, Bool.false_eq_true, if_false]

/-- The lanes taken away, whose lists a bidding stream leaves. -/
def State.leaveTaken (s : State) (m : LaneSet) (i : Nat) (set : LaneSet) : State :=
  (lanesOf (set &&& ~~~m)).foldl (State.leaveLane · i ·) s

theorem State.fitStream_bidding (fits : (s.stream i).fits m = true) (kind : (s.stream i).kind = .bidding) :
    State.fitStream m s i =
      (s.modStream i fun e => { e with laneSet := (s.stream i).laneSet &&& m }).leaveTaken m i (s.stream i).laneSet := by
  unfold StreamEntry.fits at fits
  simp only [kind, decide_eq_true_eq] at fits
  simp only [State.fitStream, kind, fits, if_false, State.leaveTaken]

theorem State.fitStream_cadenced (fits : (s.stream i).fits m = true) (kind : (s.stream i).kind = .cadenced) :
    State.fitStream m s i = s := by
  unfold StreamEntry.fits at fits
  simp only [kind] at fits
  simp only [State.fitStream, kind, fits, if_true]

theorem State.relisted_leaveTaken (s : State) (m : LaneSet) (i : Nat) (set : LaneSet) : s.Relisted (s.leaveTaken m i set) :=
  State.Relisted.leaveLanes s i _

theorem State.mem_leaveTaken {set : LaneSet} {j : Nat} {l : LaneId} {c : Fin 4} :
    j ∈ (s.leaveTaken m i set).list l c ↔ j ∈ s.list l c ∧ (inSet set l = true → inSet m l = false → j ≠ i) := by
  rw [State.leaveTaken, State.mem_leaveLanes, mem_lanesOf, inSet_and, inSet_not]
  simp

theorem State.fitStream_work (hs : s.tablesCanonical) (owned : (s.stream i).ownedBy k) :
    State.StreamWork k [i] s (State.fitStream m s i) := by
  cases fits : (s.stream i).fits m with
  | false =>
    rw [State.fitStream_removes fits]
    exact State.removeStream_work hs owned
  | true =>
    cases kind : (s.stream i).kind with
    | cadenced =>
      rw [State.fitStream_cadenced fits kind]
      exact .refl k [i] hs
    | bidding =>
      rw [State.fitStream_bidding fits kind]
      have wrote := State.StreamWork.modStream hs k i fun e => { e with laneSet := (s.stream i).laneSet &&& m }
      refine wrote.trans (.of_relisted wrote.canonical (State.relisted_leaveTaken _ m i _) fun j hj l c => ?_)
      rw [State.mem_leaveTaken]
      exact and_iff_left fun _ _ e => hj (by simp [e])

theorem State.fitStream_stations (fits : (s.stream i).fits m = true) : (State.fitStream m s i).stations = s.stations := by
  cases kind : (s.stream i).kind with
  | cadenced => rw [State.fitStream_cadenced fits kind]
  | bidding =>
    rw [State.fitStream_bidding fits kind, (State.relisted_leaveTaken _ m i _).stations, State.modStream_stations]

/-- A stream that fits keeps the lanes it shares with the set, and leaves the lists of the others. -/
theorem State.fitStream_at (hs : s.tablesCanonical) (fits : (s.stream i).fits m = true) :
    (State.fitStream m s i).stream i = (s.stream i).fitted m ∧ (State.fitStream m s i).reservedOf i = s.reservedOf i ∧
      (∀ l c, i ∈ (State.fitStream m s i).list l c → i ∈ s.list l c) ∧
      ((s.stream i).kind = .bidding → ∀ l c, inSet (s.stream i).laneSet l = true → inSet m l = false →
        i ∉ (State.fitStream m s i).list l c) := by
  cases kind : (s.stream i).kind with
  | cadenced =>
    rw [State.fitStream_cadenced fits kind, StreamEntry.fitted, if_neg (by rw [kind]; nofun)]
    exact ⟨rfl, rfl, fun _ _ h => h, nofun⟩
  | bidding =>
    rw [State.fitStream_bidding fits kind, StreamEntry.fitted, if_pos kind]
    have relisted := State.relisted_leaveTaken (s.modStream i fun e => { e with laneSet := (s.stream i).laneSet &&& m }) m i
      (s.stream i).laneSet
    have entry := s.stream_modStream i i (fun e => { e with laneSet := (s.stream i).laneSet &&& m }) hs.2.1
    rw [if_pos rfl] at entry
    refine ⟨by rw [relisted.stream, entry], by rw [relisted.reservedOf, State.reservedOf_modStream], fun l c h => ?_,
      fun _ l c on off h => ?_⟩
    · exact (State.mem_leaveTaken.1 h).1
    · exact (State.mem_leaveTaken.1 h).2 on off rfl

/-- The slots of the station lead where they led, but for the one of a stream that does not fit. -/
theorem State.slotStream_fitStream (hs : s.tablesCanonical) (low : 1 ≤ k) (high : k ≤ 4095) (hi : i ∈ s.streamsOf k)
    (q : Fin 8) :
    (State.fitStream m s i).slotStream k q = (s.slotStream k q).filter fun j => j ≠ i ∨ (s.stream j).fits m = true := by
  obtain ⟨slot, leads⟩ := State.mem_streamsOf.1 hi
  cases fits : (s.stream i).fits m with
  | false =>
    rw [State.fitStream_removes fits, State.slotStream_removeStream hs low high leads]
    refine congrArg (Option.filter · _) (funext fun j => ?_)
    by_cases same : j = i
    · subst same
      simp [fits]
    · simp [same]
  | true =>
    have every : (fun j => decide (j ≠ i ∨ (s.stream j).fits m = true)) = fun _ => true := funext fun j => by
      by_cases same : j = i
      · subst same
        simp [fits]
      · simp [same]
    rw [every, filter_const_true]
    have work := State.fitStream_work (m := m) hs (State.ownedBy_of_mem_streamsOf hi)
    refine State.slotStream_congr ?_ (fun j => ?_) q
    · rw [State.station_of_stations (State.fitStream_stations fits)]
    · by_cases same : j = i
      · subst same
        rw [(State.fitStream_at hs fits).1, StreamEntry.fitted]
        split <;> exact ⟨rfl, rfl⟩
      · rw [(work.stream j (by simpa using same)).entry]
        exact ⟨rfl, rfl⟩

end

/-! ### All the station's streams -/

/-- Every stream of the station is fitted to the set. -/
def State.fitAll (s : State) (k : Nat) (m : LaneSet) : State := (s.streamsOf k).foldl (State.fitStream m) s

section
variable {s : State} (hs : s.tablesCanonical) (m : LaneSet) (k : Nat)
include hs

theorem State.fitAll_work : State.StreamWork k (s.streamsOf k) s (s.fitAll k m) :=
  .foldl (Q := (·.ownedBy k)) (fun _ _ hu => State.fitStream_work hu) State.streamsOf_nodup hs
    fun _ => State.ownedBy_of_mem_streamsOf

/-- The walk's step on one stream finds its entry, share and lists as the walk found them, and leaves them as the walk does. -/
theorem State.fitAll_step {i : Nat} (hi : i ∈ s.streamsOf k) : ∃ u : State, u.tablesCanonical ∧ s.SameStream u i ∧
    (State.fitStream m u i).SameStream (s.fitAll k m) i :=
  State.StreamWork.foldl_at (k := k) (Q := (·.ownedBy k)) (fun _ _ hu => State.fitStream_work hu) State.streamsOf_nodup hs
    (fun _ => State.ownedBy_of_mem_streamsOf) hi

theorem State.fitAll_fits {i : Nat} (hi : i ∈ s.streamsOf k) (fits : (s.stream i).fits m = true) :
    (s.fitAll k m).stream i = (s.stream i).fitted m ∧ (s.fitAll k m).reservedOf i = s.reservedOf i ∧
      (∀ l c, i ∈ (s.fitAll k m).list l c → i ∈ s.list l c) ∧
      ((s.stream i).kind = .bidding → ∀ l c, inSet (s.stream i).laneSet l = true → inSet m l = false →
        i ∉ (s.fitAll k m).list l c) := by
  obtain ⟨u, hu, before, after⟩ := s.fitAll_step hs m k hi
  rw [← before.entry] at fits ⊢
  obtain ⟨entry, reserved, lists, taken⟩ := State.fitStream_at hu fits
  refine ⟨by rw [after.entry, entry], by rw [after.reserved, reserved, before.reserved], fun l c h => ?_,
    fun kind l c on off h => ?_⟩
  · exact (before.lists l c).1 (lists l c ((after.lists l c).1 h))
  · exact taken kind l c on off ((after.lists l c).1 h)

theorem State.fitAll_unfit {i : Nat} (hi : i ∈ s.streamsOf k) (unfit : (s.stream i).fits m = false) :
    (((s.fitAll k m).stream i).state = .retiring ∨ ((s.fitAll k m).stream i).state = .free) ∧
      (s.fitAll k m).reservedOf i = Reserved.none ∧ ∀ l c, i ∉ (s.fitAll k m).list l c := by
  obtain ⟨u, hu, before, after⟩ := s.fitAll_step hs m k hi
  have owned := State.ownedBy_of_mem_streamsOf hi
  rw [← before.entry] at unfit owned
  obtain ⟨state, reserved, lists⟩ := State.removeStream_at hu owned
  rw [State.fitStream_removes unfit] at after
  exact ⟨by rw [after.entry]; exact state, by rw [after.reserved, reserved], fun l c h => lists l c ((after.lists l c).1 h)⟩

variable {k}

theorem State.slotStream_foldl_fitStream (low : 1 ≤ k) (high : k ≤ 4095) (is : List Nat) (nodup : is.Nodup)
    (own : is ⊆ s.streamsOf k) (q : Fin 8) : (is.foldl (State.fitStream m) s).slotStream k q =
      (s.slotStream k q).filter fun j => j ∉ is ∨ (s.stream j).fits m = true := by
  induction is generalizing s with
  | nil =>
    simp only [List.foldl_nil, List.not_mem_nil, not_false_eq_true, true_or, decide_true, filter_const_true]
  | cons i rest ih =>
    obtain ⟨notMem, nodup'⟩ := List.nodup_cons.1 nodup
    have hi := own List.mem_cons_self
    have work := State.fitStream_work (m := m) hs (State.ownedBy_of_mem_streamsOf hi)
    have slots := State.slotStream_fitStream (m := m) hs low high hi
    have others : ∀ j, j ≠ i → (State.fitStream m s i).stream j = s.stream j := fun j hj =>
      (work.stream j (by simpa using hj)).entry
    have own' : rest ⊆ (State.fitStream m s i).streamsOf k := fun j hj => by
      have ne : j ≠ i := fun e => notMem (e ▸ hj)
      obtain ⟨slot, leads⟩ := State.mem_streamsOf.1 (own (List.mem_cons_of_mem _ hj))
      exact State.mem_streamsOf.2 ⟨slot, by rw [slots, leads]; simp [Option.filter, ne]⟩
    rw [List.foldl_cons, ih work.canonical nodup' own', slots, Option.filter_filter]
    refine congrArg (Option.filter · _) (funext fun j => ?_)
    by_cases same : j = i
    · subst same
      simp [notMem]
    · simp [others j same, same]

/-- The station's streams are those of before that fit. -/
theorem State.streamsOf_fitAll (low : 1 ≤ k) (high : k ≤ 4095) :
    (s.fitAll k m).streamsOf k = (s.streamsOf k).filter fun i => (s.stream i).fits m := by
  have slots : (s.fitAll k m).slotStream k = fun q => (s.slotStream k q).filter fun j => (s.stream j).fits m := funext fun q => by
    rw [State.fitAll, State.slotStream_foldl_fitStream hs m low high _ State.streamsOf_nodup (List.Subset.refl _)]
    cases leads : s.slotStream k q with
    | none => rfl
    | some j =>
      have mem : j ∈ s.streamsOf k := State.mem_streamsOf.2 ⟨q, leads⟩
      simp [Option.filter, mem]
  rw [State.streamsOf, slots, State.streamsOf, List.filter_filterMap]

end

/-! ### Demand cleared on request (R46) -/

/-- The station with its references tidied, and its streams' demand cleared if the request says so. -/
def State.prepared (s : State) (k : Nat) (clear : Bool) : State :=
  if clear then (s.tidyRefs k).clearStreams k else s.tidyRefs k

/-- The stream's entry after that. -/
def StreamEntry.prepared (clear : Bool) (e : StreamEntry) : StreamEntry := if clear then e.cleared.seal else e

theorem StreamEntry.prepared_kept (clear : Bool) (e : StreamEntry) : (e.prepared clear).state = e.state ∧
    (e.prepared clear).owner = e.owner ∧ (e.prepared clear).kind = e.kind ∧ (e.prepared clear).laneSet = e.laneSet ∧
    (e.prepared clear).lane = e.lane ∧ (e.prepared clear).cls = e.cls := by
  unfold StreamEntry.prepared
  split <;> exact ⟨rfl, rfl, rfl, rfl, rfl, rfl⟩

theorem StreamEntry.fits_prepared (m : LaneSet) (clear : Bool) (e : StreamEntry) : (e.prepared clear).fits m = e.fits m := by
  unfold StreamEntry.prepared
  split <;> rfl

section
variable {s : State} (hs : s.tablesCanonical) (k : Nat) (clear : Bool)
include hs

theorem State.prepared_work : State.StreamWork k (s.streamsOf k) s (s.prepared k clear) := by
  unfold State.prepared
  split
  · exact (s.tidyClear_spec hs k).1
  · exact (s.tidyRefs_spec hs k).1.mono (List.nil_subset _)

theorem State.prepared_at {i : Nat} (hi : i ∈ s.streamsOf k) :
    (s.prepared k clear).stream i = (s.stream i).prepared clear ∧ (s.prepared k clear).reservedOf i = s.reservedOf i ∧
      (clear = true → ∀ l c, i ∉ (s.prepared k clear).list l c) := by
  cases clear with
  | true =>
    obtain ⟨entry, reserved, lists⟩ := (s.tidyClear_spec hs k).2 i hi
    exact ⟨entry, reserved, fun _ => lists⟩
  | false =>
    have streams : (s.prepared k false).streams = s.streams := (s.tidyRefs_spec hs k).2.1
    exact ⟨State.stream_of_streams streams i, by rw [State.reservedOf, streams, State.reservedOf], nofun⟩

theorem State.streamsOf_prepared : (s.prepared k clear).streamsOf k = s.streamsOf k := by
  have tidied := State.streamsOf_tidyRefs hs k
  unfold State.prepared
  split
  · rw [State.streamsOf_clearStreams (s.tidyRefs_spec hs k).1.canonical, tidied]
  · exact tidied

end

end Sys2Proof.Machine
end

section
/-! PROOFS. STATION_ADMIT: the home lane and paused maintenance (R46, R52). -/

namespace Sys2Proof.Machine

/-! ### The home lane of an entry -/

section
variable (m : LaneSet) (live : LaneSet → Option LaneId) (isLive : LaneId → Bool) (now : Time) (e : StationEntry)

/-- The entry with the set's lowest lane for its home. -/
def StationEntry.lowered : StationEntry := { e with home := (lanesOf m).head?.getD e.home }

/-- The entry with its home lane in the set: kept, or the set's lowest lane, and that replaced by R52 where it is not LIVE. -/
def StationEntry.placed : StationEntry :=
  if inSet m e.home then e
  else if isLive (e.lowered m).home ∨ e.paused then e.lowered m
  else (e.lowered m).rehomed live

/-- The entry so placed, resumed where it is paused and the set holds a LIVE lane. -/
def StationEntry.housed : StationEntry :=
  match (e.placed m live isLive).paused, live m with
  | true, some l => (e.placed m live isLive).resumed l now
  | _, _ => e.placed m live isLive

theorem StationEntry.placed_kept : e.placed m live isLive =
    { e with home := (e.placed m live isLive).home, paused := (e.placed m live isLive).paused } := by
  unfold StationEntry.placed StationEntry.lowered
  split
  · rfl
  · split
    · rfl
    · unfold StationEntry.rehomed
      split <;> rfl

theorem StationEntry.housed_kept : e.housed m live isLive now =
    { e with home := (e.housed m live isLive now).home, paused := (e.housed m live isLive now).paused
             due := (e.housed m live isLive now).due } := by
  have placed := e.placed_kept m live isLive
  unfold StationEntry.housed
  split
  · rw [placed]
    rfl
  · rw [placed]

theorem StationEntry.rehomed_seal : e.seal.rehomed live = { e.rehomed live with parity := e.parityOf } := by
  have laneSet : e.seal.laneSet = e.laneSet := rfl
  unfold StationEntry.rehomed
  rw [laneSet]
  split <;> rfl

variable {m live isLive now e}

theorem StationEntry.placed_inSet (home : inSet m e.home = true) : e.placed m live isLive = e := if_pos home

theorem StationEntry.placed_live {l : LaneId} (home : inSet m e.home = false) (low : (lanesOf m).head? = some l)
    (liveLow : isLive l = true) : e.placed m live isLive = { e with home := l } := by
  simp [StationEntry.placed, StationEntry.lowered, home, low, liveLow]

/-! An entry that is not paused: it is not resumed, since R52 pauses it only where the set holds no LIVE lane. -/

section
variable (paused : e.paused = false)
include paused

theorem StationEntry.placed_paused (laneSet : e.laneSet = m) (h : (e.placed m live isLive).paused = true) : live m = none := by
  unfold StationEntry.placed StationEntry.lowered at h
  split at h
  · simp [paused] at h
  · split at h
    · simp [paused] at h
    · unfold StationEntry.rehomed at h
      split at h
      · simp [paused] at h
      · rename_i absent
        rwa [laneSet] at absent

theorem StationEntry.housed_unpaused (laneSet : e.laneSet = m) : e.housed m live isLive now = e.placed m live isLive := by
  unfold StationEntry.housed
  split
  · rename_i l was found
    rw [StationEntry.placed_paused paused laneSet was] at found
    cases found
  · rfl

variable {l : LaneId} (home : inSet m e.home = false) (low : (lanesOf m).head? = some l)
include home low

theorem StationEntry.placed_moved (deadLow : isLive l = false) :
    e.placed m live isLive = ({ e with home := l } : StationEntry).rehomed live := by
  simp [StationEntry.placed, StationEntry.lowered, home, low, deadLow, paused]

end

/-! A paused entry. -/

section
variable (paused : e.paused = true)
include paused

theorem StationEntry.placed_stays_paused : (e.placed m live isLive).paused = true := by
  unfold StationEntry.placed StationEntry.lowered
  split
  · exact paused
  · rw [if_pos (.inr paused)]
    exact paused

theorem StationEntry.housed_resumed {l : LaneId} (found : live m = some l) :
    e.housed m live isLive now = (e.placed m live isLive).resumed l now := by
  simp only [StationEntry.housed, StationEntry.placed_stays_paused paused, found]

theorem StationEntry.housed_stays (absent : live m = none) : e.housed m live isLive now = e.placed m live isLive := by
  simp only [StationEntry.housed, StationEntry.placed_stays_paused paused, absent]

theorem StationEntry.placed_paused_home {l : LaneId} (home : inSet m e.home = false) (low : (lanesOf m).head? = some l) :
    (e.placed m live isLive).home = l := by
  simp [StationEntry.placed, StationEntry.lowered, home, low, paused]

end

end

/-! ### The station -/

/-- The states agree but for the tables of stations and streams and the due queue. -/
def State.SameBlocks (s t : State) : Prop := t = { s with stations := t.stations, streams := t.streams, align := t.align }

theorem State.SameBlocks.trans {s t u : State} (h : s.SameBlocks t) (k : t.SameBlocks u) : s.SameBlocks u := by
  unfold State.SameBlocks at *
  rw [k, h]

theorem State.StreamWork.sameBlocks {k : Nat} {is : List Nat} {s t : State} (h : State.StreamWork k is s t) : s.SameBlocks t := by
  unfold State.SameBlocks
  rw [h.frame]

theorem State.Restationed.sameBlocks {s t : State} (h : s.Restationed t) : s.SameBlocks t := by
  unfold State.SameBlocks
  rw [h]

section
variable {s : State} (hs : s.tablesCanonical) (k : Nat)

/-- The home lane's part of the admission, before paused maintenance resumes. -/
def State.placeHome (s : State) (k : Nat) (m : LaneSet) : State :=
  if inSet m (s.station k).home then s
  else
    let s' := s.modStation k (StationEntry.lowered m)
    if s'.isLive ((s.station k).lowered m).home ∨ (s.station k).paused then s' else s'.rehome k

include hs

theorem State.placeHome_spec (m : LaneSet) : s.Restationed (s.placeHome k m) ∧ (s.placeHome k m).tablesCanonical ∧
    (∀ j, j ≠ k → (s.placeHome k m).station j = s.station j) ∧
    (s.placeHome k m).station k = { (s.station k).placed m s.lowestLive s.isLive with
      parity := ((s.placeHome k m).station k).parity } := by
  have hm := State.modStation_canonical hs k (StationEntry.lowered m)
  have entry := State.station_modStation_same hs k (StationEntry.lowered m)
  have others := fun j (hj : j ≠ k) => State.station_modStation_other hs k (StationEntry.lowered m) hj
  have isLive : (s.modStation k (StationEntry.lowered m)).isLive = s.isLive := rfl
  have lowestLive : (s.modStation k (StationEntry.lowered m)).lowestLive = s.lowestLive := rfl
  simp only [State.placeHome, StationEntry.placed, isLive]
  split
  · exact ⟨rfl, hs, fun _ _ => rfl, rfl⟩
  · split
    · refine ⟨.modStation s k _, hm, others, ?_⟩
      rw [entry]
      rfl
    · rw [State.rehome_eq, lowestLive]
      refine ⟨(State.Restationed.modStation s k _).trans (.modStation _ k _), State.modStation_canonical hm k _,
        fun j hj => (State.station_modStation_other hm k _ hj).trans (others j hj), ?_⟩
      rw [State.station_modStation_same hm, entry, StationEntry.rehomed_seal]
      rfl

theorem State.resumeOn_spec (l : LaneId) : s.SameBlocks (s.resumeOn k l) ∧ (s.resumeOn k l).tablesCanonical ∧
    (s.resumeOn k l).streams = s.streams ∧ k ∈ (s.resumeOn k l).align.dueQueue ∧
    (∀ j, j ≠ k → (s.resumeOn k l).station j = s.station j) ∧
    (s.resumeOn k l).station k = ((s.station k).resumed l s.now).seal := by
  have hm := State.modStation_canonical hs k fun e => { e with paused := false, home := l }
  have entry := State.station_modStation_same hs k fun e => { e with paused := false, home := l }
  have others := fun j (hj : j ≠ k) =>
    State.station_modStation_other hs k (fun e => { e with paused := false, home := l }) hj
  have stations : (s.resumeOn k l).stations =
      ((s.modStation k fun e => { e with paused := false, home := l }).modStation k fun e => { e with due := s.now }).stations := rfl
  refine ⟨rfl, State.modStation_canonical hm k fun e => { e with due := s.now }, rfl, (State.mem_joinDue _ k k).2 (.inl rfl),
    fun j hj => ?_, ?_⟩
  · rw [State.station_of_stations stations, State.station_modStation_other hm k _ hj, others j hj]
  · rw [State.station_of_stations stations, State.station_modStation_same hm, entry]
    rfl

/-- The admission's home lane: the entry is housed, the station joins the due queue if it resumes, and the rest is as it was. -/
theorem State.admitHome_spec (m : LaneSet) : s.SameBlocks (s.admitHome k m) ∧ (s.admitHome k m).tablesCanonical ∧
    (s.admitHome k m).streams = s.streams ∧ (∀ j, j ≠ k → (s.admitHome k m).station j = s.station j) ∧
    (s.admitHome k m).station k = { (s.station k).housed m s.lowestLive s.isLive s.now with
      parity := ((s.admitHome k m).station k).parity } ∧
    (((s.station k).placed m s.lowestLive s.isLive).paused = true → (s.lowestLive m).isSome = true →
      k ∈ (s.admitHome k m).align.dueQueue) ∧
    (¬(((s.station k).placed m s.lowestLive s.isLive).paused = true ∧ (s.lowestLive m).isSome = true) →
      (s.admitHome k m).align = s.align) := by
  obtain ⟨restationed, canonical, others, entry⟩ := State.placeHome_spec hs k m
  have lanes : (s.placeHome k m).lanes = s.lanes := by rw [restationed]
  have now : (s.placeHome k m).now = s.now := by rw [restationed]
  have align : (s.placeHome k m).align = s.align := by rw [restationed]
  have paused : ((s.placeHome k m).station k).paused = ((s.station k).placed m s.lowestLive s.isLive).paused := by rw [entry]
  have resumes : s.admitHome k m =
      match ((s.station k).placed m s.lowestLive s.isLive).paused, s.lowestLive m with
      | true, some l => (s.placeHome k m).resumeOn k l
      | _, _ => s.placeHome k m := by
    rw [← paused, ← State.lowestLive_of_lanes lanes]
    rfl
  unfold StationEntry.housed
  rw [resumes]
  split
  · rename_i l was found
    obtain ⟨same, canonical', streams, due, others', entry'⟩ := State.resumeOn_spec canonical k l
    refine ⟨restationed.sameBlocks.trans same, canonical', streams.trans restationed.streams,
      fun j hj => (others' j hj).trans (others j hj), ?_, fun _ _ => due, fun h => absurd ⟨was, by rw [found]; rfl⟩ h⟩
    rw [entry', entry, now]
    rfl
  · rename_i out
    refine ⟨restationed.sameBlocks, canonical, restationed.streams, others, entry, fun h h' => ?_, fun _ => align⟩
    obtain ⟨l, found⟩ := Option.isSome_iff_exists.1 h'
    exact absurd found (out l h)

end

end Sys2Proof.Machine
end

section
/-! PROOFS. STATION_ADMIT as a whole (R46). -/

namespace Sys2Proof.Machine

/-! ### The lane set in force, and the streams fitted to it -/

theorem State.SameStream.of_streams {s t : State} (h : t.streams = s.streams) (i : Nat) : s.SameStream t i :=
  ⟨State.stream_of_streams h i, by rw [State.reservedOf, h, State.reservedOf], fun l c => by rw [State.list, h, State.list]⟩

/-- The station prepared, and its lane set put in force. -/
def State.relaned (s : State) (k : Nat) (m : LaneSet) (clear : Bool) : State :=
  (s.prepared k clear).modStation k fun e => { e with laneSet := m }

/-- The station with its lane set in force and its streams fitted to it. -/
def State.refitted (s : State) (k : Nat) (m : LaneSet) (clear : Bool) : State := (s.relaned k m clear).fitAll k m

section
variable {s : State} (hs : s.tablesCanonical) (k : Nat) (m : LaneSet) (clear : Bool)
include hs

theorem State.relaned_spec : s.SameBlocks (s.relaned k m clear) ∧ (s.relaned k m clear).tablesCanonical ∧
    (s.relaned k m clear).align = s.align ∧ (∀ j, j ≠ k → (s.relaned k m clear).station j = s.station j) ∧
    (s.relaned k m clear).station k = { s.station k with
      laneSet := m, refs := ((s.relaned k m clear).station k).refs, parity := ((s.relaned k m clear).station k).parity } ∧
    (s.relaned k m clear).streamsOf k = s.streamsOf k ∧ (s.relaned k m clear).streams = (s.prepared k clear).streams := by
  have work := State.prepared_work hs k clear
  have entry := State.station_modStation_same work.canonical k fun e => { e with laneSet := m }
  have streamsOf := State.streamsOf_modStation work.canonical k (fun e => { e with laneSet := m }) fun _ => rfl
  have wrote := State.Restationed.modStation (s.prepared k clear) k fun e => { e with laneSet := m }
  unfold State.relaned
  refine ⟨work.sameBlocks.trans wrote.sameBlocks, State.modStation_canonical work.canonical k _, work.align, fun j hj => ?_, ?_,
    streamsOf.trans (State.streamsOf_prepared hs k clear), rfl⟩
  · rw [State.station_modStation_other work.canonical k _ hj, work.station j hj]
  · rw [entry, work.entry]
    rfl

theorem State.refitted_spec : s.SameBlocks (s.refitted k m clear) ∧ (s.refitted k m clear).tablesCanonical ∧
    (s.refitted k m clear).align = s.align ∧ (∀ j, j ≠ k → (s.refitted k m clear).station j = s.station j) ∧
    (s.refitted k m clear).station k = { s.station k with
      laneSet := m, refs := ((s.refitted k m clear).station k).refs, parity := ((s.refitted k m clear).station k).parity } ∧
    ∀ i, i ∉ s.streamsOf k → s.SameStream (s.refitted k m clear) i := by
  obtain ⟨same, canonical, align, others, entry, streamsOf, streams⟩ := State.relaned_spec hs k m clear
  have work := State.fitAll_work canonical m k
  rw [streamsOf] at work
  unfold State.refitted
  refine ⟨same.trans work.sameBlocks, work.canonical, work.align.trans align,
    fun j hj => (work.station j hj).trans (others j hj), ?_, fun i hi => ?_⟩
  · have own := work.entry
    rw [entry] at own
    exact own
  · exact ((State.prepared_work hs k clear).stream i hi).trans ((State.SameStream.of_streams streams i).trans (work.stream i hi))

/-- A stream before it is fitted. -/
theorem State.relaned_stream {i : Nat} (hi : i ∈ s.streamsOf k) :
    (s.relaned k m clear).stream i = (s.stream i).prepared clear ∧ (s.relaned k m clear).reservedOf i = s.reservedOf i ∧
      (clear = true → ∀ l c, i ∉ (s.relaned k m clear).list l c) := by
  obtain ⟨-, -, -, -, -, -, streams⟩ := State.relaned_spec hs k m clear
  obtain ⟨entry, reserved, lists⟩ := State.prepared_at hs k clear hi
  have same := State.SameStream.of_streams streams i
  exact ⟨same.entry.trans entry, same.reserved.trans reserved, fun h l c on => lists h l c ((same.lists l c).1 on)⟩

theorem State.refitted_fits {i : Nat} (hi : i ∈ s.streamsOf k) (fits : (s.stream i).fits m = true) :
    (s.refitted k m clear).stream i = ((s.stream i).prepared clear).fitted m ∧
      (s.refitted k m clear).reservedOf i = s.reservedOf i ∧
      (clear = true → ∀ l c, i ∉ (s.refitted k m clear).list l c) ∧
      ((s.stream i).kind = .bidding → ∀ l c, inSet (s.stream i).laneSet l = true → inSet m l = false →
        i ∉ (s.refitted k m clear).list l c) := by
  obtain ⟨-, canonical, -, -, -, streamsOf, -⟩ := State.relaned_spec hs k m clear
  obtain ⟨entry, reserved, unlisted⟩ := State.relaned_stream hs k m clear hi
  obtain ⟨-, -, kind, laneSet, -, -⟩ := (s.stream i).prepared_kept clear
  rw [← streamsOf] at hi
  obtain ⟨entry', reserved', lists, taken⟩ :=
    State.fitAll_fits canonical m k hi (by rw [entry, StreamEntry.fits_prepared, fits])
  rw [entry] at entry' taken
  rw [kind, laneSet] at taken
  exact ⟨entry', reserved'.trans reserved, fun h l c on => unlisted h l c (lists l c on), taken⟩

theorem State.refitted_unfit {i : Nat} (hi : i ∈ s.streamsOf k) (unfit : (s.stream i).fits m = false) :
    (((s.refitted k m clear).stream i).state = .retiring ∨ ((s.refitted k m clear).stream i).state = .free) ∧
      (s.refitted k m clear).reservedOf i = Reserved.none ∧ ∀ l c, i ∉ (s.refitted k m clear).list l c := by
  obtain ⟨-, canonical, -, -, -, streamsOf, -⟩ := State.relaned_spec hs k m clear
  obtain ⟨entry, -, -⟩ := State.relaned_stream hs k m clear hi
  rw [← streamsOf] at hi
  exact State.fitAll_unfit canonical m k hi (by rw [entry, StreamEntry.fits_prepared, unfit])

theorem State.streamsOf_refitted (low : 1 ≤ k) (high : k ≤ 4095) :
    (s.refitted k m clear).streamsOf k = (s.streamsOf k).filter fun i => (s.stream i).fits m := by
  obtain ⟨-, canonical, -, -, -, streamsOf, -⟩ := State.relaned_spec hs k m clear
  rw [State.refitted, State.streamsOf_fitAll canonical m low high, streamsOf]
  refine List.filter_congr fun i hi => ?_
  rw [(State.relaned_stream hs k m clear hi).1, StreamEntry.fits_prepared]

end

/-! ### The home lane and the admitted flag -/

/-- The station at its home lane, admitted. -/
def State.seated (s : State) (k : Nat) (m : LaneSet) : State :=
  (s.admitHome k m).modStation k fun e => { e with admitted := true }

/-- The entry so seated, but for its parity. -/
def State.seatedEntry (s : State) (k : Nat) (m : LaneSet) : StationEntry :=
  { (s.station k).housed m s.lowestLive s.isLive s.now with admitted := true }

theorem State.seated_spec {s : State} (hs : s.tablesCanonical) (k : Nat) (m : LaneSet) : s.SameBlocks (s.seated k m) ∧
    (s.seated k m).tablesCanonical ∧ (s.seated k m).streams = s.streams ∧ (s.seated k m).streamsOf k = s.streamsOf k ∧
    (∀ j, j ≠ k → (s.seated k m).station j = s.station j) ∧
    (s.seated k m).station k = { s.seatedEntry k m with parity := ((s.seated k m).station k).parity } ∧
    (((s.station k).placed m s.lowestLive s.isLive).paused = true → (s.lowestLive m).isSome = true →
      k ∈ (s.seated k m).align.dueQueue) ∧
    (¬(((s.station k).placed m s.lowestLive s.isLive).paused = true ∧ (s.lowestLive m).isSome = true) →
      (s.seated k m).align = s.align) := by
  obtain ⟨same, canonical, streams, others, entry, due, align⟩ := State.admitHome_spec hs k m
  have kept := StationEntry.housed_kept m s.lowestLive s.isLive s.now (s.station k)
  have refs : ((s.admitHome k m).station k).refs = (s.station k).refs := by rw [entry, kept]
  have streamsOf : (s.admitHome k m).streamsOf k = s.streamsOf k :=
    State.streamsOf_congr refs fun i => by rw [State.stream_of_streams streams]; exact ⟨rfl, rfl⟩
  have flag := State.station_modStation_same canonical k fun e => { e with admitted := true }
  have wrote := State.Restationed.modStation (s.admitHome k m) k fun e => { e with admitted := true }
  unfold State.seated
  refine ⟨same.trans wrote.sameBlocks, State.modStation_canonical canonical k _, wrote.streams.trans streams,
    (State.streamsOf_modStation canonical k (fun e => { e with admitted := true }) fun _ => rfl).trans streamsOf,
    fun j hj => ?_, ?_, due, align⟩
  · rw [State.station_modStation_other canonical k _ hj, others j hj]
  · rw [flag, entry]
    rfl

/-! ### READY made ACTIVE -/

/-- A READY station becomes ACTIVE, and its streams with available demand join their lists. -/
def State.activated (s : State) (k : Nat) : State :=
  if (s.station k).state = .ready then (s.modStation k fun e => { e with state := .active }).relistStreams k else s

/-- The state of an admitted station. -/
def StationState.activated (st : StationState) : StationState := if st = .ready then .active else st

theorem State.activated_spec {s : State} (hs : s.tablesCanonical) (k : Nat) : s.SameBlocks (s.activated k) ∧
    (s.activated k).align = s.align ∧ (∀ j, j ≠ k → (s.activated k).station j = s.station j) ∧
    (s.activated k).station k = { s.station k with
      state := (s.station k).state.activated, parity := ((s.activated k).station k).parity } ∧
    (∀ i, (s.activated k).stream i = s.stream i ∧ (s.activated k).reservedOf i = s.reservedOf i) ∧
    (s.activated k).streamsOf k = s.streamsOf k ∧
    ∀ i l c, i ∈ (s.activated k).list l c ↔ i ∈ s.list l c ∨ ((s.station k).state = .ready ∧
      i ∈ s.streamsOf k ∧ (s.stream i).listed ∧ inSet (s.stream i).laneSet l = true ∧ c = (s.stream i).cls) := by
  have entry := State.station_modStation_same hs k fun e => { e with state := .active }
  have others := fun j (hj : j ≠ k) => State.station_modStation_other hs k (fun e => { e with state := .active }) hj
  have streamsOf := State.streamsOf_modStation hs k (fun e => { e with state := .active }) fun _ => rfl
  have streams := s.modStation_streams k fun e => { e with state := .active }
  have restationed := State.Restationed.modStation s k fun e => { e with state := .active }
  unfold State.activated StationState.activated
  split
  · rename_i ready
    generalize s.modStation k (fun e => { e with state := .active }) = t at *
    obtain ⟨relisted, lists⟩ := t.relistStreams_spec k
    have same := State.SameStream.of_streams streams
    generalize t.relistStreams k = u at *
    refine ⟨restationed.sameBlocks.trans ?_, ?_, fun j hj => ?_, ?_, fun i => ⟨?_, ?_⟩, ?_, fun i l c => ?_⟩
    · unfold State.SameBlocks
      rw [relisted]
    · rw [relisted, restationed]
    · rw [relisted.station, others j hj]
    · rw [relisted.station, entry]
      rfl
    · rw [relisted.stream, (same i).entry]
    · rw [relisted.reservedOf, (same i).reserved]
    · rw [relisted.streamsOf, streamsOf]
    · rw [lists, (same i).lists, (same i).entry, streamsOf]
      tauto
  · rename_i other
    exact ⟨rfl, rfl, fun _ _ => rfl, rfl, fun _ => ⟨rfl, rfl⟩, rfl, fun i l c => by tauto⟩

/-! ### The admission -/

/-- The state that an admission leaves. -/
def State.admitted (s : State) (k : Nat) (m : LaneSet) (clear : Bool) : State :=
  ((s.refitted k m clear).seated k m).activated k

theorem State.admission_eq (s : State) (k : Nat) (m : LaneSet) (clear : Bool) : s.admission k m clear =
    (s.admitted k m clear, ((s.prepared k clear).streamsOf k).length - ((s.refitted k m clear).streamsOf k).length) := by
  unfold State.admitted State.activated
  split
  · exact if_pos ‹_›
  · exact if_neg ‹_›

section
variable {s : State} (hs : s.tablesCanonical) (k : Nat) (m : LaneSet) (clear : Bool)
include hs

/-- The number of streams removed is the number of those that do not fit. -/
theorem State.admission_removed (low : 1 ≤ k) (high : k ≤ 4095) :
    ((s.prepared k clear).streamsOf k).length - ((s.refitted k m clear).streamsOf k).length =
      ((s.streamsOf k).filter fun i => !(s.stream i).fits m).length := by
  rw [State.streamsOf_prepared hs, State.streamsOf_refitted hs k m clear low high,
    List.length_eq_length_filter_add (l := s.streamsOf k) fun i => (s.stream i).fits m]
  exact Nat.add_sub_cancel_left _ _

theorem State.refitted_ready : ((s.refitted k m clear).seatedEntry k m).state = (s.station k).state := by
  obtain ⟨-, -, -, -, entry, -⟩ := State.refitted_spec hs k m clear
  rw [State.seatedEntry, StationEntry.housed_kept, entry]

/-- What the steps behind the fitting leave of the streams. -/
theorem State.admitted_streams : (s.admitted k m clear).streamsOf k = (s.refitted k m clear).streamsOf k ∧
    ∀ i, (s.admitted k m clear).stream i = (s.refitted k m clear).stream i ∧
      (s.admitted k m clear).reservedOf i = (s.refitted k m clear).reservedOf i ∧
      ∀ l c, i ∈ (s.admitted k m clear).list l c ↔ i ∈ (s.refitted k m clear).list l c ∨
        ((s.station k).state = .ready ∧ i ∈ (s.refitted k m clear).streamsOf k ∧ ((s.refitted k m clear).stream i).listed ∧
          inSet ((s.refitted k m clear).stream i).laneSet l = true ∧ c = ((s.refitted k m clear).stream i).cls) := by
  obtain ⟨-, canonical, -⟩ := State.refitted_spec hs k m clear
  obtain ⟨-, canonical', streams, streamsOf, -, entry, -⟩ := State.seated_spec canonical k m
  obtain ⟨-, -, -, -, stream, streamsOf', lists⟩ := State.activated_spec canonical' k
  have state : (((s.refitted k m clear).seated k m).station k).state = (s.station k).state := by
    rw [entry, ← State.refitted_ready hs k m clear]
  have same := State.SameStream.of_streams streams
  unfold State.admitted
  refine ⟨streamsOf'.trans streamsOf, fun i => ⟨(stream i).1.trans (same i).entry, (stream i).2.trans (same i).reserved,
    fun l c => ?_⟩⟩
  rw [lists, state, streamsOf, (same i).entry, (same i).lists]

/-- The station, the other stations, and the blocks beside the tables. -/
theorem State.admitted_spec : s.SameBlocks (s.admitted k m clear) ∧
    (∀ j, j ≠ k → (s.admitted k m clear).station j = s.station j) ∧
    (s.admitted k m clear).station k = { (s.refitted k m clear).seatedEntry k m with
      state := (s.station k).state.activated, parity := ((s.admitted k m clear).station k).parity } ∧
    (s.admitted k m clear).align = ((s.refitted k m clear).seated k m).align := by
  obtain ⟨same, canonical, -, others, -⟩ := State.refitted_spec hs k m clear
  obtain ⟨same', canonical', -, -, others', entry', -⟩ := State.seated_spec canonical k m
  obtain ⟨same'', align, others'', entry'', -⟩ := State.activated_spec canonical' k
  unfold State.admitted
  refine ⟨same.trans (same'.trans same''), fun j hj => by rw [others'' j hj, others' j hj, others j hj], ?_, align⟩
  rw [entry'', entry', ← State.refitted_ready hs k m clear]

theorem State.admitted_entry : let f := (s.admitted k m clear).station k
    f.laneSet = m ∧ f.admitted = true ∧ f.state = (s.station k).state.activated ∧ f.O = (s.station k).O ∧
      f.Pw = (s.station k).Pw := by
  obtain ⟨-, -, -, -, entry, -⟩ := State.refitted_spec hs k m clear
  obtain ⟨-, -, entry', -⟩ := State.admitted_spec hs k m clear
  rw [entry', State.seatedEntry, StationEntry.housed_kept, entry]
  exact ⟨rfl, rfl, rfl, rfl, rfl⟩

/-! The home lane, from the entry as it stands when its streams have been fitted. -/

/-- The entry of the station when its streams have been fitted is, for its home lane, the one that was, with the lane set given. -/
theorem State.refitted_entry : let e := (s.refitted k m clear).station k
    e.laneSet = m ∧ e.home = (s.station k).home ∧ e.paused = (s.station k).paused ∧ e.due = (s.station k).due := by
  obtain ⟨-, -, -, -, entry, -⟩ := State.refitted_spec hs k m clear
  rw [entry]
  exact ⟨rfl, rfl, rfl, rfl⟩

theorem State.refitted_blocks : (s.refitted k m clear).lowestLive = s.lowestLive ∧ (s.refitted k m clear).isLive = s.isLive ∧
    (s.refitted k m clear).now = s.now ∧ (s.refitted k m clear).align = s.align := by
  obtain ⟨same, -, align, -⟩ := State.refitted_spec hs k m clear
  have lanes : (s.refitted k m clear).lanes = s.lanes := by rw [same]
  refine ⟨State.lowestLive_of_lanes lanes, ?_, by rw [same], align⟩
  unfold State.isLive State.lane
  rw [lanes]

/-- A station that is not paused is placed, and nothing of its schedule changes. -/
theorem State.admitted_unpaused (paused : (s.station k).paused = false) :
    let f := ((s.refitted k m clear).station k).placed m s.lowestLive s.isLive
    ((s.admitted k m clear).station k).home = f.home ∧ ((s.admitted k m clear).station k).paused = f.paused ∧
      ((s.admitted k m clear).station k).due = (s.station k).due ∧ (s.admitted k m clear).align = s.align := by
  obtain ⟨lowestLive, isLive, now, align⟩ := State.refitted_blocks hs k m clear
  obtain ⟨laneSet, -, paused', due⟩ := State.refitted_entry hs k m clear
  obtain ⟨-, canonical, -⟩ := State.refitted_spec hs k m clear
  obtain ⟨-, -, -, -, -, -, -, seated⟩ := State.seated_spec canonical k m
  obtain ⟨-, -, entry, admitted⟩ := State.admitted_spec hs k m clear
  rw [paused] at paused'
  have resting : ¬((((s.refitted k m clear).station k).placed m s.lowestLive s.isLive).paused = true ∧
      (s.lowestLive m).isSome = true) := by
    rintro ⟨was, found⟩
    rw [StationEntry.placed_paused paused' laneSet was] at found
    cases found
  rw [lowestLive, isLive] at seated
  have housed := StationEntry.housed_unpaused (live := s.lowestLive) (isLive := s.isLive) (now := s.now) paused' laneSet
  rw [entry, State.seatedEntry, lowestLive, isLive, now, housed, admitted, seated resting, align, ← due]
  refine ⟨rfl, rfl, ?_, rfl⟩
  rw [StationEntry.placed_kept]

/-- A paused station resumes on the lowest LIVE lane of the set, due now. -/
theorem State.admitted_resumed (paused : (s.station k).paused = true) {l : LaneId} (live : s.lowestLive m = some l) :
    ((s.admitted k m clear).station k).home = l ∧ ((s.admitted k m clear).station k).paused = false ∧
      ((s.admitted k m clear).station k).due = s.now ∧ k ∈ (s.admitted k m clear).align.dueQueue := by
  obtain ⟨lowestLive, isLive, now, align⟩ := State.refitted_blocks hs k m clear
  obtain ⟨-, -, paused', -⟩ := State.refitted_entry hs k m clear
  obtain ⟨-, canonical, -⟩ := State.refitted_spec hs k m clear
  obtain ⟨-, -, -, -, -, -, due, -⟩ := State.seated_spec canonical k m
  obtain ⟨-, -, entry, admitted⟩ := State.admitted_spec hs k m clear
  rw [paused] at paused'
  rw [lowestLive] at due
  rw [entry, State.seatedEntry, lowestLive, isLive, now, StationEntry.housed_resumed paused' live, admitted]
  exact ⟨rfl, rfl, rfl, due (StationEntry.placed_stays_paused paused') (by rw [live]; rfl)⟩

/-- A paused station whose set holds no LIVE lane stays so. -/
theorem State.admitted_stays (paused : (s.station k).paused = true) (live : s.lowestLive m = none) :
    ((s.admitted k m clear).station k).home = (((s.refitted k m clear).station k).placed m s.lowestLive s.isLive).home ∧
      ((s.admitted k m clear).station k).paused = true ∧ ((s.admitted k m clear).station k).due = (s.station k).due := by
  obtain ⟨lowestLive, isLive, now, align⟩ := State.refitted_blocks hs k m clear
  obtain ⟨-, -, paused', due⟩ := State.refitted_entry hs k m clear
  obtain ⟨-, -, entry, -⟩ := State.admitted_spec hs k m clear
  rw [paused] at paused'
  rw [entry, State.seatedEntry, lowestLive, isLive, now, StationEntry.housed_stays paused' live, ← due]
  refine ⟨rfl, StationEntry.placed_stays_paused paused', ?_⟩
  rw [StationEntry.placed_kept]

end

/-! ### The entry of a stream that fits -/

section
variable (m : LaneSet) (clear : Bool) (e : StreamEntry)

theorem StreamEntry.seal_of_checks (h : e.checks = true) : e.seal = e := by
  have parity : e.parity = e.parityOf := by simpa [StreamEntry.checks] using h
  rw [StreamEntry.seal, ← parity]

theorem StreamEntry.fitted_kept : (e.fitted m).state = e.state ∧ (e.fitted m).kind = e.kind ∧ (e.fitted m).cls = e.cls ∧
    (e.fitted m).avail = e.avail := by
  unfold StreamEntry.fitted
  split <;> exact ⟨rfl, rfl, rfl, rfl⟩

theorem StreamEntry.fitted_laneSet (kind : e.kind = .bidding) : (e.fitted m).laneSet = e.laneSet &&& m := by
  rw [StreamEntry.fitted, if_pos kind]
  rfl

/-- A stream whose demand is cleared has none available. -/
theorem StreamEntry.not_listed_cleared : ¬((e.prepared true).fitted m).listed := by
  obtain ⟨-, -, -, avail⟩ := (e.prepared true).fitted_kept m
  have absent : (e.prepared true).avail = 0 := Nat.sub_self e.G
  rintro ⟨-, -, found⟩
  rw [avail, absent] at found
  exact absurd found (lt_irrefl 0)

theorem StreamEntry.fitted_prepared (h : e.checks = true ∨ e.kind = .bidding ∨ clear = true) :
    (e.prepared clear).fitted m = StreamEntry.seal { e with
      laneSet := if e.kind = .bidding then e.laneSet &&& m else e.laneSet
      D := if clear then e.G else e.D
      credit := if clear then 0 else e.credit } := by
  obtain ⟨-, -, kind, -⟩ := e.prepared_kept clear
  unfold StreamEntry.fitted
  rw [kind]
  by_cases bidding : e.kind = .bidding
  · cases clear <;> simp only [bidding, if_true] <;> rfl
  · cases clear with
    | true =>
      simp only [bidding, if_false]
      rfl
    | false =>
      have checks : e.checks = true := by simpa [bidding] using h
      simp only [bidding, if_false]
      exact (e.seal_of_checks checks).symm

end

/-! ### The streams of an admitted station -/

section
variable {s : State} (hs : s.tablesCanonical) (k : Nat) (m : LaneSet) (clear : Bool) {i : Nat}
include hs

theorem State.admitted_outside (hi : i ∉ s.streamsOf k) : (s.admitted k m clear).stream i = s.stream i ∧
    (s.admitted k m clear).reservedOf i = s.reservedOf i := by
  obtain ⟨-, -, -, -, -, outside⟩ := State.refitted_spec hs k m clear
  obtain ⟨-, stream⟩ := State.admitted_streams hs k m clear
  exact ⟨(stream i).1.trans (outside i hi).entry, (stream i).2.1.trans (outside i hi).reserved⟩

variable (low : 1 ≤ k) (high : k ≤ 4095) (hi : i ∈ s.streamsOf k)
include low high hi

theorem State.admitted_unfit (unfit : (s.stream i).fits m = false) :
    (((s.admitted k m clear).stream i).state = .retiring ∨ ((s.admitted k m clear).stream i).state = .free) ∧
      ((s.admitted k m clear).reservedOf i).amount = 0 ∧ i ∉ (s.admitted k m clear).streamsOf k ∧
      ∀ l, (s.admitted k m clear).onLane l i = false := by
  obtain ⟨streamsOf, stream⟩ := State.admitted_streams hs k m clear
  obtain ⟨entry, reserved, lists⟩ := stream i
  obtain ⟨gone, share, unlisted⟩ := State.refitted_unfit hs k m clear hi unfit
  have left : i ∉ (s.refitted k m clear).streamsOf k := by
    rw [State.streamsOf_refitted hs k m clear low high]
    exact fun h => by simp [unfit] at h
  refine ⟨by rw [entry]; exact gone, by rw [reserved, share]; rfl, by rwa [streamsOf],
    fun l => State.onLane_eq_false_iff.2 fun c on => ?_⟩
  rcases (lists l c).1 on with on | ⟨-, own, -⟩
  · exact unlisted l c on
  · exact left own

/-- A stream that fits: its entry, and the lists on which it can and must stand. -/
theorem State.admitted_fits (fits : (s.stream i).fits m = true) :
    i ∈ (s.admitted k m clear).streamsOf k ∧ (s.admitted k m clear).stream i = ((s.stream i).prepared clear).fitted m ∧
      (s.admitted k m clear).reservedOf i = s.reservedOf i ∧
      (clear = true → ∀ l, (s.admitted k m clear).onLane l i = false) ∧
      ((s.stream i).kind = .bidding → ∀ l, inSet (s.stream i).laneSet l = true → inSet m l = false →
        (s.admitted k m clear).onLane l i = false) ∧
      ((s.stream i).kind = .bidding → (s.station k).state = .ready → (s.stream i).state = .inUse → clear = false →
        (s.stream i).G < (s.stream i).D → ∀ l, inSet (s.stream i).laneSet l = true → inSet m l = true →
          i ∈ (s.admitted k m clear).list l (s.stream i).cls) := by
  obtain ⟨streamsOf, stream⟩ := State.admitted_streams hs k m clear
  obtain ⟨entry, reserved, lists⟩ := stream i
  obtain ⟨entry', reserved', unlisted, taken⟩ := State.refitted_fits hs k m clear hi fits
  obtain ⟨state, -, kind, laneSet, -, cls⟩ := (s.stream i).prepared_kept clear
  obtain ⟨state', kind', cls', avail'⟩ := ((s.stream i).prepared clear).fitted_kept m
  have own : i ∈ (s.refitted k m clear).streamsOf k := by
    rw [State.streamsOf_refitted hs k m clear low high]
    exact List.mem_filter.2 ⟨hi, fits⟩
  rw [entry'] at entry lists
  refine ⟨by rwa [streamsOf], entry, reserved.trans reserved', fun clears l => State.onLane_eq_false_iff.2 fun c on => ?_,
    fun bidding l on off => State.onLane_eq_false_iff.2 fun c h => ?_, fun bidding ready inUse uncleared avail l on on' => ?_⟩
  · subst clear
    rcases (lists l c).1 on with on | ⟨-, -, listed, -⟩
    · exact unlisted rfl l c on
    · exact (s.stream i).not_listed_cleared m listed
  · rcases (lists l c).1 h with h | ⟨-, -, -, h, -⟩
    · exact taken bidding l c on off h
    · rw [StreamEntry.fitted_laneSet _ _ (kind.trans bidding), inSet_and, off, Bool.and_false] at h
      cases h
  · subst clear
    refine (lists l _).2 (.inr ⟨ready, own, ⟨state'.trans (state.trans inUse), kind'.trans (kind.trans bidding), ?_⟩, ?_, ?_⟩)
    · rw [avail']
      exact Nat.sub_pos_of_lt avail
    · rw [StreamEntry.fitted_laneSet _ _ (kind.trans bidding), laneSet, inSet_and, on, on']
      rfl
    · rw [cls', cls]

end

/-! ### The lanes of a set -/

theorem head?_lanesOf (m : LaneSet) : (lanesOf m).head? = allLanes.find? (inSet m) := List.head?_filter ..

theorem State.lowestLive_eq (s : State) (m : LaneSet) :
    s.lowestLive m = allLanes.find? fun l => inSet m l && decide ((s.lane l).state = .live) := by
  rw [State.lowestLive, lanesOf, List.find?_filter]
  refine congrArg (List.find? · _) (funext fun l => ?_)
  rw [Bool.eq_iff_iff]
  simp [State.isLive]

/-! ### The request -/

theorem exec_stationAdmit {s d : State} {req : Req} {b : AdmitBody} {k : Nat} (h : s.atStep3 (8 + req.extra) d) (ho : d.open_)
    (hd : d.tablesCanonical) (tag : b.tag.toNat = k) (low : 1 ≤ k) (high : k ≤ 4095) (checks : (d.station k).checks = true)
    (nonempty : b.laneSet ≠ 0) (state : (d.station k).state ∈ [StationState.ready, .active, .held]) :
    exec (.stationAdmit req b) s = .next ((d.admitted k b.laneSet (flagOf b.clearStreams)).replied 7 req.reference .done
      (.admission b.laneSet ((d.admitted k b.laneSet (flagOf b.clearStreams)).station k).home
        ((d.admitted k b.laneSet (flagOf b.clearStreams)).station k).state true
        ((d.streamsOf k).filter fun i => !(d.stream i).fits b.laneSet).length)) := by
  subst tag
  have used : (d.station b.tag.toNat).state ≠ .free := fun free => by simp [free] at state
  have answer := (onStation_own low high checks used).trans
    ((admitOwn_admissible (m := b.laneSet) (clear := flagOf b.clearStreams) state).trans (if_neg nonempty))
  obtain ⟨laneSet, admitted, -⟩ := State.admitted_entry hd b.tag.toNat b.laneSet (flagOf b.clearStreams)
  rw [State.admission_eq, State.admission_removed hd _ _ _ low high, laneSet, admitted] at answer
  exact State.request_done h ho answer

end Sys2Proof.Machine

open Sys2Proof Sys2Proof.Machine

/-- Settles O32: `admitted_unpaused`, `admitted_resumed` and `admitted_stays` say what becomes of the home lane, and
`admitted_fits` and `admitted_unfit` what becomes of the streams. -/
theorem stationAdmitPutsTheLaneSetInForce : Obligations.StationAdmitPutsTheLaneSetInForce := by
  intro s d req b k h ho hd tag low high checks nonempty state e fits lowest live
  have answer := exec_stationAdmit h ho hd tag low high checks nonempty state
  have cleared : flagOf b.clearStreams = true ↔ b.clearStreams ≠ 0 := by simp [flagOf]
  have lowest_eq : (lanesOf b.laneSet).head? = lowest := head?_lanesOf b.laneSet
  have live_eq : d.lowestLive b.laneSet = live := d.lowestLive_eq b.laneSet
  generalize flagOf b.clearStreams = clear at answer cleared
  obtain ⟨blocks, others, -, -⟩ := State.admitted_spec hd k b.laneSet clear
  obtain ⟨laneSet, admitted, state', O, Pw⟩ := State.admitted_entry hd k b.laneSet clear
  obtain ⟨laneSet', home, paused, -⟩ := State.refitted_entry hd k b.laneSet clear
  have kept : b.clearStreams = 0 → clear = false := fun zero => by simpa [zero] using cleared
  have unpaused := State.admitted_unpaused hd k b.laneSet clear
  refine ⟨d.admitted k b.laneSet clear, ((d.streamsOf k).filter fun i => !fits i).length, answer, rfl, laneSet, admitted, state', O, Pw,
    others, by rw [blocks], by rw [blocks], by rw [blocks], by rw [blocks], by rw [blocks], by rw [blocks],
    fun inside resting => ?_, fun l out resting first isLive => ?_, fun l out resting first dead => ?_,
    fun resting => (unpaused resting).2.2.1, fun l was found => ?_, fun was absent => ?_, fun i hi => ?_, fun i hi unfit => ?_,
    fun i hi fit => ?_⟩
  · obtain ⟨home', paused', -, align⟩ := unpaused resting
    rw [StationEntry.placed_inSet (by rw [home]; exact inside)] at home' paused'
    exact ⟨home'.trans home, paused'.trans (paused.trans resting), align⟩
  · obtain ⟨home', paused', -, align⟩ := unpaused resting
    rw [StationEntry.placed_live (l := l) (by rw [home]; exact out) (lowest_eq.trans first) (decide_eq_true isLive)] at home' paused'
    exact ⟨home', paused'.trans (paused.trans resting), align⟩
  · obtain ⟨home', paused', -, align⟩ := unpaused resting
    rw [StationEntry.placed_moved (l := l) (paused.trans resting) (by rw [home]; exact out) (lowest_eq.trans first)
      (decide_eq_false dead)] at home' paused'
    refine ⟨fun l' found => ?_, fun absent => ?_, align⟩
    · rw [StationEntry.rehomed_some (m := l') (by rw [laneSet', live_eq, found])] at home' paused'
      exact ⟨home', paused'.trans (paused.trans resting)⟩
    · rw [StationEntry.rehomed_none (by rw [laneSet', live_eq, absent])] at home' paused'
      exact ⟨home', paused'⟩
  · exact State.admitted_resumed hd k b.laneSet clear was (live_eq.trans found)
  · obtain ⟨home', paused', due⟩ := State.admitted_stays hd k b.laneSet clear was (live_eq.trans absent)
    refine ⟨paused', due, fun inside => ?_, fun l out first => ?_⟩
    · rw [home', StationEntry.placed_inSet (by rw [home]; exact inside), home]
    · rw [home', StationEntry.placed_paused_home (paused.trans was) (by rw [home]; exact out) (lowest_eq.trans first)]
  · exact State.admitted_outside hd k b.laneSet clear hi
  · exact State.admitted_unfit hd k b.laneSet clear low high hi unfit
  · obtain ⟨own, entry, reserved, unlisted, taken, joined⟩ := State.admitted_fits hd k b.laneSet clear low high hi fit
    refine ⟨own, fun sealed => ?_, reserved, fun clears => unlisted (cleared.2 clears), fun bidding =>
      ⟨taken bidding, fun ready inUse zero avail l on => ?_⟩⟩
    · rw [entry, (d.stream i).fitted_prepared b.laneSet clear (sealed.imp_right (Or.imp_right cleared.2))]
      by_cases zero : b.clearStreams = 0
      · simp only [kept zero, Bool.false_eq_true, if_false, if_pos zero]
      · simp only [cleared.2 zero, if_true, if_neg zero]
    · rw [inSet_and, Bool.and_eq_true] at on
      exact joined bidding ready inUse (kept zero) avail l on.1 on.2
end

section
/-! PROOFS. PART_SETUP: the clamps of R56, and the counts above a lowered A_max (R57, R166). -/

namespace Sys2Proof.Machine

theorem partClamp_eq (b : PartSetupBody) : partClamp b =
    { tolT := b.tolT.toNat, tolP := min b.tolP.toNat 31, aMax := max 3 (min b.aMax.toNat 6), qMin := min b.qMin.toNat 63,
      miTu := max 100 (min b.miMs.toNat 30000) * 16000, creditUnit := max 64 (min b.creditUnit.toNat 4096) } := by
  simp [partClamp, clampN_eq, Config.tuPerMs]

/-- The entry with its two counts no more than `n`. -/
def StationEntry.capped (n : Nat) (e : StationEntry) : StationEntry :=
  { e with attempts := min e.attempts n, misses := min e.misses n }

theorem StationEntry.capped_capped (n : Nat) (e : StationEntry) : ((e.capped n).seal.capped n).seal = (e.capped n).seal := by
  simp [StationEntry.capped, StationEntry.seal, StationEntry.parityOf]

/-- Capping the counts of some stations writes their entries alone, whether or not a station is named twice. -/
theorem State.foldl_capCounts_spec (n : Nat) (ts : List Nat) {s : State} (hs : s.tablesCanonical) :
    s.Restationed (ts.foldl (State.capCounts n) s) ∧
      ∀ k, (ts.foldl (State.capCounts n) s).station k = if k ∈ ts then ((s.station k).capped n).seal else s.station k := by
  induction ts generalizing s with
  | nil => exact ⟨rfl, fun k => by simp⟩
  | cons t rest ih =>
    obtain ⟨frame, entries⟩ := ih (State.modStation_canonical hs t (.capped n))
    refine ⟨(State.Restationed.modStation s t _).trans frame, fun k => (entries k).trans ?_⟩
    rw [State.station_modStation s t k _ hs.1]
    by_cases same : k = t <;> simp [same, StationEntry.capped_capped]

/-- The stations whose counts a lowered limit changes. -/
def State.overLimit (s : State) (n : Nat) : List Nat :=
  Table.indices (fun e => decide (n < e.attempts) || decide (n < e.misses)) s.stations.entries

theorem State.mem_overLimit {s : State} (hs : s.tablesCanonical) (n k : Nat) :
    k ∈ s.overLimit n ↔ n < (s.station k).attempts ∨ n < (s.station k).misses := by
  rw [State.overLimit, Table.mem_indices (d := StationEntry.free) (by simp [StationEntry.free, StationEntry.seal]) k _ hs.1, State.station]
  simp

/-- The settings replaced, the tables as they were. -/
def State.withSettings (d : State) (p : PartSettings) : State := { d with align := { d.align with settings := p } }

section
variable {d : State} (p : PartSettings)

theorem State.setPart_unlowered (h : d.align.settings.aMax ≤ p.aMax) : d.setPart p = d.withSettings p :=
  if_neg (Nat.not_lt.2 h)

theorem State.setPart_lowered (h : p.aMax < d.align.settings.aMax) :
    d.setPart p = (d.overLimit p.aMax).foldl (State.capCounts p.aMax) (d.withSettings p) := if_pos h

variable (hd : d.tablesCanonical)
include hd

theorem State.setPart_frame : d.setPart p =
    { d with align := { d.align with settings := p }
             stations := { d.stations with entries := (d.setPart p).stations.entries } } := by
  rcases Nat.lt_or_ge p.aMax d.align.settings.aMax with lowered | kept
  · rw [State.setPart_lowered p lowered]
    exact (State.foldl_capCounts_spec p.aMax _ (s := d.withSettings p) hd).1
  · rw [State.setPart_unlowered p kept]
    rfl

/-- An entry with a count above the lowered limit has its counts capped; any other is not written. -/
theorem State.setPart_station (lowered : p.aMax < d.align.settings.aMax) (k : Nat) : (d.setPart p).station k =
    if p.aMax < (d.station k).attempts ∨ p.aMax < (d.station k).misses then ((d.station k).capped p.aMax).seal
    else d.station k := by
  rw [State.setPart_lowered p lowered]
  exact ((State.foldl_capCounts_spec p.aMax (d.overLimit p.aMax) (s := d.withSettings p) hd).2 k).trans
    (if_congr (State.mem_overLimit hd p.aMax k) rfl rfl)

end

theorem partSetupRule_refused {d : State} (b : PartSetupBody) (running : d.port.part = .running) :
    partSetupRule b d = refuse .badState d := if_pos running

theorem partSetupRule_done {d : State} (b : PartSetupBody) (config : d.port.part = .config) :
    partSetupRule b d = carryOut (.partSetup (partClamp b)) (d.setPart (partClamp b)) := if_neg (by rw [config]; nofun)

end Sys2Proof.Machine

open Sys2Proof Sys2Proof.Machine

/-- Settles O30: the clamps are those of `partClamp_eq`, and `setPart_station` says what becomes of each entry. -/
theorem partSetupSetsAndLowersCounts : Obligations.PartSetupSetsAndLowersCounts := by
  rintro s d req b p h ho hd clamped
  obtain rfl : partClamp b = p := (partClamp_eq b).trans clamped.symm
  refine ⟨fun running => State.request_refused h ho (partSetupRule_refused b running), fun config =>
    ⟨d.setPart (partClamp b), State.request_done h ho (partSetupRule_done b config), State.setPart_frame _ hd, fun kept => ?_,
      fun lowered k => ?_⟩⟩
  · rw [State.setPart_unlowered _ kept]
    rfl
  · rw [State.setPart_station _ hd lowered]
    split
    · rename_i above
      exact ⟨rfl, rfl, rfl, rfl, rfl, fun attempts misses => absurd above (not_or.2 ⟨attempts.not_gt, misses.not_gt⟩)⟩
    · rename_i within
      obtain ⟨attempts, misses⟩ := not_or.1 within
      exact ⟨(min_eq_left (Nat.not_lt.1 attempts)).symm, (min_eq_left (Nat.not_lt.1 misses)).symm, rfl, rfl, rfl, fun _ _ => rfl⟩
end

section
/-! PROOFS. The records of an alignment turn: how a NO_SHOW and a tagged RESULT reach their turn (R27, R63), and the turn resolved
with the station's mark cleared (R61). -/

namespace Sys2Proof.Machine

/-! ### Writes of one lane and of one station -/

/-- The states agree but for the lane `l`, which is `v`, and the entry of station `t`, which is `e`. -/
structure State.Turned (l : LaneId) (t : Nat) (v : Lane) (e : StationEntry) (s b : State) : Prop where
  frame : b = { s with lanes := s.lanes.set l v, stations := { s.stations with entries := b.stations.entries } }
  canonical : b.tablesCanonical
  entry : b.station t = e
  others : ∀ j, j ≠ t → b.station j = s.station j

namespace State.Turned

variable {l : LaneId} {t : Nat} {v : Lane} {e : StationEntry} {s b : State}

theorem refl (l : LaneId) (t : Nat) (hs : s.tablesCanonical) : State.Turned l t (s.lane l) (s.station t) s s where
  frame := by simp [State.lane]
  canonical := hs
  entry := rfl
  others _ _ := rfl

theorem lanes (h : State.Turned l t v e s b) : b.lanes = s.lanes.set l v := by rw [h.frame]

theorem lane (h : State.Turned l t v e s b) : b.lane l = v := by
  rw [State.lane, h.lanes]
  simp

theorem lane_other (h : State.Turned l t v e s b) {m : LaneId} (hm : m ≠ l) : b.lane m = s.lane m :=
  (congrArg (·[m]) h.lanes).trans (s.lane_setLane_other l m v hm)

theorem ports (h : State.Turned l t v e s b) : b.ports = s.ports := by rw [h.frame]
theorem claims (h : State.Turned l t v e s b) : b.claims = s.claims := by rw [h.frame]
theorem align (h : State.Turned l t v e s b) : b.align = s.align := by rw [h.frame]
theorem streams (h : State.Turned l t v e s b) : b.streams = s.streams := by rw [h.frame]
theorem refs (h : State.Turned l t v e s b) : b.refs = s.refs := by rw [h.frame]
theorem builder (h : State.Turned l t v e s b) : b.builder = s.builder := by rw [h.frame]
theorem link (h : State.Turned l t v e s b) : b.link = s.link := by rw [h.frame]
theorem port (h : State.Turned l t v e s b) : b.port = s.port := by rw [h.frame]
theorem now (h : State.Turned l t v e s b) : b.now = s.now := by rw [h.frame]

theorem streamsOf (h : State.Turned l t v e s b) (refs : e.refs = (s.station t).refs) : b.streamsOf t = s.streamsOf t :=
  State.streamsOf_congr (by rw [h.entry, refs]) fun i => by rw [State.stream_of_streams h.streams]; exact ⟨rfl, rfl⟩

theorem modStation (h : State.Turned l t v e s b) (f : StationEntry → StationEntry) :
    State.Turned l t v (f e).seal s (b.modStation t f) where
  frame := by
    have wrote : b.Restationed (b.modStation t f) := .modStation b t f
    generalize b.modStation t f = u at wrote
    rw [wrote, h.frame]
  canonical := State.modStation_canonical h.canonical t f
  entry := by rw [State.station_modStation_same h.canonical, h.entry]
  others j hj := (State.station_modStation_other h.canonical t f hj).trans (h.others j hj)

theorem modLane (h : State.Turned l t v e s b) (f : Lane → Lane) : State.Turned l t (f v) e s (b.modLane l f) where
  frame := by
    rw [State.modLane, h.lane, State.setLane, h.lanes, Vector.set_set, h.frame]
  canonical := h.canonical
  entry := h.entry
  others := h.others

end State.Turned

/-! ### The turn resolved -/

/-- The lane with the turn of the tag resolved in the history entry of the plan. -/
def Lane.resolve (q : PlanSeq) (t : Nat) (v : Lane) : Lane :=
  { v with history := v.history.map fun g => if g.seq = q then g.resolve t else g }

/-- The entry without its outstanding mark, if that names the plan. -/
def StationEntry.unmarked (l : LaneId) (q : PlanSeq) (e : StationEntry) : StationEntry :=
  if e.outstanding = some (l, q) then { e with outstanding := none }.seal else e

theorem StationEntry.unmarked_kept (l : LaneId) (q : PlanSeq) (e : StationEntry) :
    (e.unmarked l q).state = e.state ∧ (e.unmarked l q).attempts = e.attempts ∧ (e.unmarked l q).misses = e.misses ∧
      (e.unmarked l q).due = e.due ∧ (e.unmarked l q).paused = e.paused ∧ (e.unmarked l q).admitted = e.admitted ∧
      (e.unmarked l q).home = e.home ∧ (e.unmarked l q).O = e.O ∧ (e.unmarked l q).Pw = e.Pw ∧
      (e.unmarked l q).refs = e.refs := by
  unfold StationEntry.unmarked
  split <;> exact ⟨rfl, rfl, rfl, rfl, rfl, rfl, rfl, rfl, rfl, rfl⟩

theorem StationEntry.unmarked_outstanding {l : LaneId} {q : PlanSeq} {e : StationEntry} (h : e.outstanding = some (l, q)) :
    (e.unmarked l q).outstanding = none := by
  rw [StationEntry.unmarked, if_pos h]
  rfl

/-- The turn resolved, and the station's mark cleared if it names the plan. -/
def State.resolved (s : State) (l : LaneId) (q : PlanSeq) (t : Nat) : State :=
  (s.modHistory l q (HistEntry.resolve t)).clearMark l q t

theorem State.resolved_turned {s : State} (hs : s.tablesCanonical) (l : LaneId) (q : PlanSeq) (t : Nat) :
    State.Turned l t ((s.lane l).resolve q t) ((s.station t).unmarked l q) s (s.resolved l q t) := by
  have turn := (State.Turned.refl l t hs).modLane (Lane.resolve q t)
  unfold StationEntry.unmarked
  by_cases marked : (s.station t).outstanding = some (l, q)
  · have cleared : s.resolved l q t = (s.modHistory l q (HistEntry.resolve t)).modStation t fun e =>
        { e with outstanding := none } := if_pos marked
    rw [cleared, if_pos marked]
    exact turn.modStation fun e => { e with outstanding := none }
  · have same : s.resolved l q t = s.modHistory l q (HistEntry.resolve t) := if_neg marked
    rw [same, if_neg marked]
    exact turn

/-! ### From the record to its turn -/

/-- What the record of a turn does by the turn (R63). -/
theorem State.alignmentRecord_discards {s : State} {l : LaneId} {E : HistEntry} {t : Nat} (r : TurnReport)
    (h : E.turns.find? (fun a => a.tag == t) = none ∨ E.turns.find? (fun a => a.tag == t) = some ⟨t, true⟩) :
    s.alignmentRecord l E t r = s.discardResult l := by
  unfold State.alignmentRecord
  rcases h with h | h <;> rw [h]
  rfl

theorem State.alignmentRecord_unresolved {s : State} {l : LaneId} {E : HistEntry} {t : Nat} (r : TurnReport)
    (turn : E.turns.find? (fun a => a.tag == t) = some ⟨t, false⟩) (checks : (s.station t).checks = true) :
    s.alignmentRecord l E t r = if (s.station t).state.kept = true then (s.resolved l E.seq t).takeTurnReport l t r
      else (s.resolved l E.seq t).discardResult l := by
  unfold State.alignmentRecord
  rw [turn]
  dsimp only
  rw [s.checkStation_passes _ _ checks]
  rfl

section
variable {s : State} {h : RecordHead} {w : BitVec 16} {t : Nat} {E : HistEntry} (pin : s.resetPin = false)
  (isOpen : s.laneOpen h.port = true) (passes : tagCheckPasses w = true) (tag : tagOfTagWord w = t)
  (matched : s.historyEntry h.port h.planSeq = some E)
include isOpen passes matched

/-- A well-formed record with a tag that passes its checks goes to its owner. -/
theorem State.admitRecord_matched (own : HistEntry → State → State) :
    State.admitRecord h false (State.checkTag h w (State.matchHistory h own)) s = own E (s.seen h) := by
  have seen : (s.seen h).historyEntry h.port h.planSeq = some E := matched
  rw [s.admitRecord_wellFormed h isOpen, State.checkTag, if_pos passes, State.matchHistory, seen]

include pin tag

theorem exec_noShow (wellFormed : (Instr.noShow h w).recordMalformed = false) :
    exec (.noShow h w) s = .next ((s.seen h).alignmentRecord h.port E t none) := by
  have run : exec (.noShow h w) s = .next (State.admitRecord h (Instr.noShow h w).recordMalformed
      (State.checkTag h w (State.matchHistory h fun e s => s.alignmentRecord h.port e (tagOfTagWord w) none)) s) :=
    s.unlessReset_free _ pin
  rw [run, wellFormed, State.admitRecord_matched isOpen passes matched, tag]

theorem exec_resultTagged {et : BitVec 16} {ep q : Byte} (wellFormed : (Instr.resultTagged h 1 w et ep q).recordMalformed = false) :
    exec (.resultTagged h 1 w et ep q) s =
      .next ((s.seen h).alignmentRecord h.port E t (some (et.toInt, ep.toInt, q.toNat))) := by
  have run : exec (.resultTagged h 1 w et ep q) s = .next (State.admitRecord h (Instr.resultTagged h 1 w et ep q).recordMalformed
      (State.checkTag h w (State.matchHistory h fun e s =>
        s.alignmentRecord h.port e (tagOfTagWord w) (some (et.toInt, ep.toInt, q.toNat)))) s) :=
    s.unlessReset_free _ pin
  rw [run, wellFormed, State.admitRecord_matched isOpen passes matched, tag]

/-- The records of a turn, whatever they report. -/
theorem exec_turnRecord {c : Instr} (kind : c = .noShow h w ∨ ∃ et ep q, c = .resultTagged h 1 w et ep q)
    (wellFormed : c.recordMalformed = false) : ∃ r, exec c s = .next ((s.seen h).alignmentRecord h.port E t r) := by
  rcases kind with rfl | ⟨et, ep, q, rfl⟩
  · exact ⟨_, exec_noShow pin isOpen passes tag matched wellFormed⟩
  · exact ⟨_, exec_resultTagged pin isOpen passes tag matched wellFormed⟩

end

/-- A NO_SHOW for the tag of a well-formed tagged RESULT is well formed. -/
theorem noShow_wellFormed {h : RecordHead} {w et : BitVec 16} {ep q : Byte}
    (wellFormed : (Instr.resultTagged h 1 w et ep q).recordMalformed = false) :
    (Instr.noShow { h with frameLen := 12 } w).recordMalformed = false := by
  simp only [Instr.recordMalformed, taggedMalformed, Bool.or_eq_false_iff] at wellFormed ⊢
  obtain ⟨⟨-, tagged⟩, -⟩ := wellFormed
  exact ⟨rfl, tagged⟩

end Sys2Proof.Machine
end

section
/-! PROOFS. What the schedule (R58), entry into LAPSED (R70) and a release (R50) leave of a station, and of the other stations. -/

namespace Sys2Proof.Machine

/-! ### Work on one station -/

/-- What work on station `t` leaves: the other stations as they were, and an absent outstanding mark absent. -/
structure State.Confined (t : Nat) (s r : State) : Prop where
  canonical : r.tablesCanonical
  others : ∀ j, j ≠ t → r.station j = s.station j
  unmarked : (s.station t).outstanding = none → (r.station t).outstanding = none

namespace State.Confined

variable {t : Nat} {s r u : State}

theorem refl (t : Nat) (hs : s.tablesCanonical) : State.Confined t s s := ⟨hs, fun _ _ => rfl, id⟩

theorem trans (h : State.Confined t s r) (k : State.Confined t r u) : State.Confined t s u :=
  ⟨k.canonical, fun j hj => (k.others j hj).trans (h.others j hj), fun e => k.unmarked (h.unmarked e)⟩

/-- Work that writes neither station entries, nor streams, nor references. -/
theorem of_tables (hs : s.tablesCanonical) (entries : r.stations.entries = s.stations.entries) (streams : r.streams = s.streams)
    (refs : r.refs = s.refs) : State.Confined t s r where
  canonical := by
    unfold State.tablesCanonical
    rw [entries, streams, refs]
    exact hs
  others j _ := by rw [State.station, entries, State.station]
  unmarked e := by rwa [State.station, entries]

theorem modStation (hs : s.tablesCanonical) (t : Nat) (f : StationEntry → StationEntry)
    (unmarked : ∀ e, e.outstanding = none → (f e).outstanding = none) : State.Confined t s (s.modStation t f) where
  canonical := State.modStation_canonical hs t f
  others _ hj := State.station_modStation_other hs t f hj
  unmarked e := by
    rw [State.station_modStation_same hs]
    exact unmarked _ e

theorem raise (hs : s.tablesCanonical) (t : Nat) (b : ReportBody) : State.Confined t s (s.raise b) :=
  of_tables hs (congrArg (·.entries) (s.raise_stations b)) (s.raise_streams b) (s.raise_refs b)

theorem of_work {is : List Nat} (h : State.StreamWork t is s r) : State.Confined t s r where
  canonical := h.canonical
  others := h.station
  unmarked e := by rwa [h.entry]

end State.Confined

/-- Work on the station of a turn: what is as it was before the turn was resolved. -/
theorem State.Turned.onward {l : LaneId} {t : Nat} {v : Lane} {e : StationEntry} {s b r : State} (h : State.Turned l t v e s b)
    (confined : State.Confined t b r) (keeps : b.Keeps r) : (∀ j, j ≠ t → r.station j = s.station j) ∧ r.claims = s.claims ∧
      r.link = s.link ∧ r.builder = s.builder ∧ r.ports = s.ports ∧ r.align.settings = s.align.settings :=
  ⟨fun j hj => (confined.others j hj).trans (h.others j hj), keeps.claims.trans h.claims, keeps.link.trans h.link,
    keeps.builder.trans h.builder, keeps.ports.trans h.ports, keeps.settings.trans (congrArg (·.settings) h.align)⟩

/-! ### The schedule (R58) -/

section
variable {s : State} (hs : s.tablesCanonical) (t : Nat)
include hs

theorem State.confined_setDueNow : State.Confined t s (s.setDueNow t) :=
  (State.Confined.modStation hs t (fun e => { e with due := s.now }) fun _ => id).trans
    (.of_tables (State.modStation_canonical hs t _) rfl rfl rfl)

theorem State.station_setDueNow : (s.setDueNow t).station t = { s.station t with due := s.now }.seal :=
  State.station_modStation_same hs t fun e => { e with due := s.now }

theorem State.confined_setDueLater (at_ : Time) : State.Confined t s (s.setDueLater t at_) :=
  (State.Confined.modStation hs t (fun e => { e with due := at_ }) fun _ => id).trans
    (.of_tables (State.modStation_canonical hs t _) rfl rfl rfl)

theorem State.station_setDueLater (at_ : Time) : (s.setDueLater t at_).station t = { s.station t with due := at_ }.seal :=
  State.station_modStation_same hs t fun e => { e with due := at_ }

end

section
variable (s : State) (t : Nat) (at_ : Time)

theorem State.mem_setDueNow : t ∈ (s.setDueNow t).align.dueQueue := (State.mem_joinDue _ t t).2 (.inl rfl)

theorem State.setDueNow_kept : (s.setDueNow t).lanes = s.lanes ∧ (s.setDueNow t).port = s.port ∧
    (s.setDueNow t).streams = s.streams ∧ (s.setDueNow t).now = s.now := ⟨rfl, rfl, rfl, rfl⟩

theorem State.not_mem_setDueLater : t ∉ (s.setDueLater t at_).align.dueQueue := by
  simp [State.setDueLater, State.leaveDue]

theorem State.setDueLater_kept : (s.setDueLater t at_).lanes = s.lanes ∧ (s.setDueLater t at_).port = s.port ∧
    (s.setDueLater t at_).streams = s.streams ∧ (s.setDueLater t at_).now = s.now := ⟨rfl, rfl, rfl, rfl⟩

end

/-! ### Entry into LAPSED (R70) -/

/-- The entry of a station that enters LAPSED. -/
def StationEntry.lapsed (e : StationEntry) : StationEntry := { e with state := .lapsed, attempts := 0, misses := 0 }

/-- The station LAPSED, its streams' demand cleared. -/
def State.lapsed (s : State) (t : Nat) : State := ((s.modStation t .lapsed).tidyRefs t).clearStreams t

theorem State.enterLapsed_eq (s : State) (t : Nat) (cause : Cause) : s.enterLapsed t cause =
    ((s.lapsed t).setDueNow t).raise (.lapsed t (((s.lapsed t).setDueNow t).station t).home cause) := rfl

section
variable {s : State} (hs : s.tablesCanonical) (t : Nat) (cause : Cause)
include hs

theorem State.lapsed_spec : State.Confined t s (s.lapsed t) ∧
    (s.lapsed t).station t = { (s.station t).lapsed with
      refs := ((s.lapsed t).station t).refs, parity := ((s.lapsed t).station t).parity } ∧
    ((s.lapsed t).lanes = s.lanes ∧ (s.lapsed t).port = s.port ∧ (s.lapsed t).now = s.now) ∧
    ∀ i ∈ s.streamsOf t, (s.lapsed t).stream i = (s.stream i).cleared.seal ∧ ∀ l c, i ∉ (s.lapsed t).list l c := by
  have wrote := State.Confined.modStation hs t .lapsed fun _ => id
  have entry := State.station_modStation_same hs t .lapsed
  have streamsOf := State.streamsOf_modStation hs t .lapsed fun _ => rfl
  obtain ⟨work, cleared⟩ := State.tidyClear_spec wrote.canonical t
  rw [streamsOf] at cleared
  unfold State.lapsed
  generalize ((s.modStation t .lapsed).tidyRefs t).clearStreams t = r at *
  refine ⟨wrote.trans (.of_work work), ?_, ⟨work.lanes, work.port, work.now⟩, fun i hi => ?_⟩
  · have own := work.entry
    rw [entry] at own
    exact own
  · obtain ⟨stream, -, lists⟩ := cleared i hi
    exact ⟨stream, lists⟩

theorem State.confined_enterLapsed : State.Confined t s (s.enterLapsed t cause) := by
  obtain ⟨lapsed, -⟩ := s.lapsed_spec hs t
  have due := State.confined_setDueNow lapsed.canonical t
  rw [State.enterLapsed_eq]
  exact lapsed.trans (due.trans (.raise due.canonical t _))

theorem State.enterLapsed_spec :
    (s.enterLapsed t cause).station t = { (s.station t).lapsed with
      due := s.now
      refs := ((s.enterLapsed t cause).station t).refs, parity := ((s.enterLapsed t cause).station t).parity } ∧
    t ∈ (s.enterLapsed t cause).align.dueQueue ∧ (s.enterLapsed t cause).lanes = s.lanes ∧
    (∀ i ∈ s.streamsOf t, (s.enterLapsed t cause).stream i = (s.stream i).cleared.seal ∧
      ∀ l c, i ∉ (s.enterLapsed t cause).list l c) ∧
    (s.port.reports.length < 64 → (s.enterLapsed t cause).port.reports =
      s.port.reports ++ [⟨s.now, .lapsed t (s.station t).home cause⟩]) := by
  obtain ⟨lapsed, entry, ⟨lanes, port, now⟩, cleared⟩ := s.lapsed_spec hs t
  obtain ⟨lanes', port', streams, now'⟩ := (s.lapsed t).setDueNow_kept t
  have due := State.station_setDueNow lapsed.canonical t
  rw [now] at due
  have home : (((s.lapsed t).setDueNow t).station t).home = (s.station t).home := by
    rw [due, entry]
    rfl
  have queued := (s.lapsed t).mem_setDueNow t
  rw [State.enterLapsed_eq, home]
  generalize (s.lapsed t).setDueNow t = r at *
  generalize (s.lapsed t).station t = f at *
  refine ⟨?_, ?_, ?_, fun i hi => ?_, fun room => ?_⟩
  · rw [State.station_of_stations (r.raise_stations _), due, entry]
    rfl
  · rw [State.raise_align]
    exact queued
  · rw [State.raise_lanes, lanes', lanes]
  · have same := (r.raise_streams (.lapsed t (s.station t).home cause)).trans streams
    obtain ⟨stream, lists⟩ := cleared i hi
    rw [State.stream_of_streams same]
    refine ⟨stream, fun l c => ?_⟩
    rw [State.list, same]
    exact lists l c
  · rw [r.raise_room _ (by rw [port', port]; exact room), port', port, now', now]

end

/-! ### Release (R50) -/

section
variable {s : State} (hs : s.tablesCanonical) (t : Nat)
include hs

theorem State.confined_disowned : State.Confined t s (s.disowned t) := by
  obtain ⟨canonical, -, -, others, -⟩ := s.unmapped_spec hs t
  have work := State.removeStreams_work canonical t
  have unmapped : State.Confined t s (s.unmapped t) := ⟨canonical, others, fun e => by
    have forgotten : (s.forgotten t).tablesCanonical := hs
    rw [State.unmapped, State.station_modStation_same forgotten]
    exact e⟩
  have removed : State.Confined t (s.unmapped t) ((s.unmapped t).removeStreams t) := .of_work work
  have releasing := State.Confined.modStation work.canonical t .releasing fun _ => id
  exact unmapped.trans (removed.trans (releasing.trans (.of_tables releasing.canonical rfl rfl rfl)))

theorem State.confined_settleStation : State.Confined t s (s.settleStation t) := by
  unfold State.settleStation
  split
  · have wrote := State.Confined.modStation hs t (fun _ => StationEntry.free) fun _ _ => rfl
    obtain ⟨frame, -⟩ := s.freeStation_spec t
    generalize s.freeStation t = r at frame
    exact wrote.trans (.of_tables wrote.canonical (by rw [frame]; rfl) (by rw [frame]; rfl) (by rw [frame]; rfl))
  · exact .refl t hs

variable (cause : Cause)

theorem State.confined_release : State.Confined t s (s.release t cause) := by
  have disowned := State.confined_disowned hs t
  have settled := State.confined_settleStation disowned.canonical t
  rw [State.release_eq]
  exact disowned.trans (settled.trans (.raise settled.canonical t _))

/-- The steps of a release before it settles leave the lanes. -/
theorem State.disowned_lanes : (s.disowned t).lanes = s.lanes := by
  obtain ⟨canonical, -⟩ := s.unmapped_spec hs t
  have removed := (State.removeStreams_work canonical t).lanes
  rw [State.disowned, State.stripped, State.leaveDue_lanes, State.modStation_lanes, removed]
  rfl

/-- A released station is RELEASING while a plan names it, and its notices are kept; otherwise RELEASING or FREE. -/
theorem State.release_spec :
    (((s.release t cause).station t).state = .releasing ∨ ((s.release t cause).station t).state = .free) ∧
    (∀ a, (a, t) ∉ (s.release t cause).stations.joinMap) ∧ t ∉ (s.release t cause).align.dueQueue ∧
    (0 < s.stationRefs t → ((s.release t cause).station t).state = .releasing ∧ (s.release t cause).lanes = s.lanes) ∧
    (s.port.reports.length < 64 →
      (s.release t cause).port.reports = s.port.reports ++ [⟨s.now, .released t cause⟩]) := by
  obtain ⟨canonical, unmapped, undue, -, ⟨releasing, -⟩, -⟩ := s.disowned_spec hs t
  obtain ⟨refs, -, port, now, -⟩ := s.disowned_kept hs t
  obtain ⟨joinMap, -, -, port', due, -⟩ := State.settleStation_kept canonical t
  have now' := (State.keeps_settleStation (s.disowned t) t).now
  have lanes := State.disowned_lanes hs t
  have refs' : (s.disowned t).stationRefs t = s.stationRefs t := by rw [State.stationRefs, refs, State.stationRefs]
  rw [State.release_eq, State.station_of_stations (State.raise_stations _ _), State.raise_stations, State.raise_align,
    State.raise_lanes]
  refine ⟨?_, fun a => ?_, due undue, fun referenced => ?_, fun room => ?_⟩
  · by_cases named : 0 < (s.disowned t).stationRefs t ∨ (s.disowned t).draftNamesStation t = true
    · exact .inl (by rw [State.settleStation_named named, releasing])
    · obtain ⟨unreferenced, undrafted⟩ := not_or.1 named
      have freed := State.settleStation_unnamed releasing (Nat.eq_zero_of_not_pos unreferenced) (Bool.eq_false_iff.2 undrafted)
      exact .inr (by rw [freed, (State.freeStation_entry canonical t).1]; simp [StationEntry.free, StationEntry.seal])
  · rw [joinMap]
    exact unmapped a
  · rw [State.settleStation_named (.inl (by rwa [refs']))]
    exact ⟨releasing, lanes⟩
  · rw [State.raise_room _ _ (by rw [port', port]; exact room), port', port, now', now]

end

/-! ### A station whose alignment has failed (R71, R72) -/

/-- ALIGN_FAILED is reported, and the station released. -/
def State.dismiss (s : State) (l : LaneId) (t : Nat) (cause : Cause) : State :=
  (s.raise (.alignFailed t l cause)).release t .alignFailed

section
variable {s : State} (hs : s.tablesCanonical) (l : LaneId) (t : Nat) (cause : Cause)
include hs

theorem State.confined_dismiss : State.Confined t s (s.dismiss l t cause) :=
  have told := State.Confined.raise hs t (.alignFailed t l cause)
  told.trans (State.confined_release told.canonical t _)

theorem State.dismiss_spec :
    (((s.dismiss l t cause).station t).state = .releasing ∨ ((s.dismiss l t cause).station t).state = .free) ∧
    (∀ a, (a, t) ∉ (s.dismiss l t cause).stations.joinMap) ∧ t ∉ (s.dismiss l t cause).align.dueQueue ∧
    (0 < s.stationRefs t → ((s.dismiss l t cause).station t).state = .releasing ∧ (s.dismiss l t cause).lanes = s.lanes) ∧
    (s.port.reports.length < 63 → (s.dismiss l t cause).port.reports =
      s.port.reports ++ [⟨s.now, .alignFailed t l cause⟩, ⟨s.now, .released t .alignFailed⟩]) := by
  have told := State.Confined.raise hs t (.alignFailed t l cause)
  obtain ⟨state, unmapped, undue, named, reports⟩ := State.release_spec told.canonical t .alignFailed
  unfold State.dismiss
  refine ⟨state, unmapped, undue, fun referenced => ?_, fun room => ?_⟩
  · obtain ⟨releasing, lanes⟩ := named (by rwa [State.stationRefs, State.raise_refs])
    exact ⟨releasing, lanes.trans (s.raise_lanes _)⟩
  · have raised := s.raise_room (.alignFailed t l cause) (lt_trans room (by decide))
    rw [reports (by rw [raised]; simpa using Nat.succ_lt_succ room), raised]
    simp

end

end Sys2Proof.Machine
end

section
/-! PROOFS. NO_SHOW, and a tagged RESULT taken as one (R64, R70, R72, R73). -/

namespace Sys2Proof.Machine

/-! ### What a no-show does, by the station's state -/

/-- The entry with a count given. -/
def StationEntry.tried (n : Nat) (e : StationEntry) : StationEntry := { e with attempts := n }
def StationEntry.missed (n : Nat) (e : StationEntry) : StationEntry := { e with misses := n }

/-- A count that rises to no more than its limit, and what follows where it reaches it. -/
theorem ite_le_min {α : Type} (n a : Nat) (f g : Nat → α) :
    (if a ≤ min n a then f (min n a) else g (min n a)) = if a ≤ n then f a else g n := by
  rcases Nat.le_total a n with h | h
  · simp only [Nat.min_eq_right h, le_refl, if_true, if_pos h]
  · rw [Nat.min_eq_left h]
    split
    · rename_i reached
      rw [Nat.le_antisymm h reached]
    · rfl

/-- A kept state is one in which attempts count, or one in which misses do. -/
theorem StationState.mem_established {st : StationState} :
    st ∈ [StationState.ready, .active, .held] ↔ st.kept = true ∧ st ≠ .aligning ∧ st ≠ .lapsed := by
  cases st <;> decide

section
variable {s : State} {t : Nat} (l : LaneId)

theorem State.noShow_paused (paused : (s.station t).paused = true) : s.noShow l t = s := if_pos paused

variable (paused : (s.station t).paused = false)
include paused

theorem State.noShow_aligning (state : (s.station t).state = .aligning ∨ (s.station t).state = .lapsed) : s.noShow l t =
    if s.align.settings.aMax ≤ (s.station t).attempts + 1 then (s.modStation t (.tried s.align.settings.aMax)).dismiss l t .noShows
    else (s.modStation t (.tried ((s.station t).attempts + 1))).setDueNow t := by
  refine ((if_neg (by simp [paused])).trans ?_).trans (ite_le_min _ _
    (fun n => (s.modStation t (.tried n)).dismiss l t .noShows) fun n => (s.modStation t (.tried n)).setDueNow t)
  rcases state with state | state <;> rw [state] <;> rfl

theorem State.noShow_established (state : (s.station t).state ∈ [StationState.ready, .active, .held]) : s.noShow l t =
    if s.align.settings.aMax ≤ (s.station t).misses + 1 then (s.modStation t (.missed s.align.settings.aMax)).enterLapsed t .misses
    else s.modStation t (.missed ((s.station t).misses + 1)) := by
  refine ((if_neg (by simp [paused])).trans ?_).trans (ite_le_min _ _
    (fun n => (s.modStation t (.missed n)).enterLapsed t .misses) fun n => s.modStation t (.missed n))
  simp only [List.mem_cons, List.not_mem_nil, or_false] at state
  rcases state with state | state | state <;> rw [state] <;> rfl

end

/-- A no-show is the station's own affair. -/
theorem State.confined_noShow {s : State} (hs : s.tablesCanonical) (l : LaneId) (t : Nat)
    (kept : (s.station t).state.kept = true) : State.Confined t s (s.noShow l t) := by
  have tried := fun n => State.Confined.modStation hs t (.tried n) fun _ => id
  have missed := fun n => State.Confined.modStation hs t (.missed n) fun _ => id
  cases paused : (s.station t).paused with
  | true =>
    rw [State.noShow_paused l paused]
    exact .refl t hs
  | false =>
    by_cases state : (s.station t).state = .aligning ∨ (s.station t).state = .lapsed
    · rw [State.noShow_aligning l paused state]
      split
      · exact (tried _).trans (State.confined_dismiss (tried _).canonical l t .noShows)
      · exact (tried _).trans (State.confined_setDueNow (tried _).canonical t)
    · rw [State.noShow_established l paused (StationState.mem_established.2 ⟨kept, not_or.1 state⟩)]
      split
      · exact (missed _).trans (State.confined_enterLapsed (missed _).canonical t .misses)
      · exact missed _

/-! ### A record taken as a no-show -/

section
variable {s : State} {l : LaneId} {t : Nat} {et ep : Int} {q : Nat}

theorem State.takeTurnReport_poor (poor : q < s.align.settings.qMin) :
    s.takeTurnReport l t (some (et, ep, q)) = s.noShow l t := if_pos poor

variable (good : s.align.settings.qMin ≤ q)
include good

theorem State.takeTurnReport_full (full : 96 ≤ (s.lane l).notices.length) :
    s.takeTurnReport l t (some (et, ep, q)) = (s.discardResult l).noShow l t :=
  (if_neg (Nat.not_lt.2 good)).trans (if_pos full)

theorem State.takeTurnReport_measured (room : (s.lane l).notices.length < 96) :
    s.takeTurnReport l t (some (et, ep, q)) = s.measure l t et ep :=
  (if_neg (Nat.not_lt.2 good)).trans (if_neg (Nat.not_le.2 room))

end

theorem State.modLane_modLane (s : State) (l : LaneId) (f g : Lane → Lane) :
    (s.modLane l f).modLane l g = s.modLane l (g ∘ f) := by
  simp [State.modLane, State.setLane, State.lane]

/-- A discard's count and the turn's resolution are apart. -/
theorem State.resolved_discardResult (s : State) (l : LaneId) (q : PlanSeq) (t : Nat) :
    (s.discardResult l).resolved l q t = (s.resolved l q t).discardResult l := by
  have history : (s.discardResult l).modHistory l q (HistEntry.resolve t) =
      (s.modHistory l q (HistEntry.resolve t)).discardResult l := by
    rw [State.modHistory, State.discardResult, State.count, State.modLane_modLane, State.discardResult, State.count,
      State.modHistory, State.modLane_modLane]
    rfl
  have station : ((s.discardResult l).modHistory l q (HistEntry.resolve t)).station t = s.station t := rfl
  have station' : (s.modHistory l q (HistEntry.resolve t)).station t = s.station t := rfl
  rw [State.resolved, State.resolved, State.clearMark, State.clearMark, station, station', history]
  split <;> rfl

section
variable {s : State} {h : RecordHead} {w : BitVec 16} {t : Nat} {E : HistEntry} (pin : s.resetPin = false)
  (isOpen : s.laneOpen h.port = true) (passes : tagCheckPasses w = true) (tag : tagOfTagWord w = t)
  (matched : s.historyEntry h.port h.planSeq = some E) (turn : E.turns.find? (fun a => a.tag == t) = some ⟨t, false⟩)
  (checks : (s.station t).checks = true) (kept : (s.station t).state.kept = true)
include pin isOpen passes tag matched turn checks kept

/-- The records of an unresolved turn of a station that is aligned or maintained. -/
theorem exec_noShow_unresolved (wellFormed : (Instr.noShow h w).recordMalformed = false) :
    exec (.noShow h w) s = .next (((s.seen h).resolved h.port h.planSeq t).noShow h.port t) := by
  have onward := (State.alignmentRecord_unresolved (s := s.seen h) (l := h.port) none turn checks).trans (if_pos kept)
  rw [exec_noShow pin isOpen passes tag matched wellFormed, onward, State.seq_of_historyEntry matched]
  rfl

theorem exec_resultTagged_unresolved {et : BitVec 16} {ep q : Byte}
    (wellFormed : (Instr.resultTagged h 1 w et ep q).recordMalformed = false) :
    exec (.resultTagged h 1 w et ep q) s = .next (((s.seen h).resolved h.port h.planSeq t).takeTurnReport h.port t
      (some (et.toInt, ep.toInt, q.toNat))) := by
  have onward := (State.alignmentRecord_unresolved (s := s.seen h) (l := h.port) (some (et.toInt, ep.toInt, q.toNat)) turn
    checks).trans (if_pos kept)
  rw [exec_resultTagged pin isOpen passes tag matched wellFormed, onward, State.seq_of_historyEntry matched]

/-- A NO_SHOW in the record's place, where a result has been discarded first. -/
theorem exec_noShow_discarded (wellFormed : (Instr.noShow { h with frameLen := 12 } w).recordMalformed = false) :
    exec (.noShow { h with frameLen := 12 } w) (s.discardResult h.port) =
      .next ((((s.seen h).resolved h.port h.planSeq t).discardResult h.port).noShow h.port t) := by
  have lane : (s.discardResult h.port).lane h.port = { s.lane h.port with
      counters := ((s.discardResult h.port).lane h.port).counters } := by
    rw [State.discardResult, State.count, State.lane_modLane_same]
  have isOpen' : (s.discardResult h.port).laneOpen h.port = true := by
    rw [State.laneOpen, lane]
    exact isOpen
  have matched' : (s.discardResult h.port).historyEntry h.port h.planSeq = some E := by
    rw [State.historyEntry, lane]
    exact matched
  have seen : (s.discardResult h.port).seen { h with frameLen := 12 } = (s.seen h).discardResult h.port := rfl
  rw [exec_noShow_unresolved (s := s.discardResult h.port) (h := { h with frameLen := 12 }) pin isOpen' passes tag matched' turn checks kept wellFormed, seen,
    State.resolved_discardResult]

end

end Sys2Proof.Machine

open Sys2Proof Sys2Proof.Machine

/-- Settles O42: from the state with the turn resolved, `noShow_aligning` and `noShow_established` are the cases of R72 and
R73, and `dismiss_spec` and `enterLapsed_spec` say where they end at the limit. -/
theorem noShowCountsTowardsTheLimit : Obligations.NoShowCountsTowardsTheLimit := by
  rintro s h w t E e aMax pin hs isOpen passes tag matched rfl checks rfl
  have seq := State.seq_of_historyEntry matched
  have record := fun {c} => exec_turnRecord (c := c) pin isOpen passes tag matched
  have turned := State.resolved_turned (s := s.seen h) hs h.port h.planSeq t
  refine ⟨fun c kind wellFormed turn => ?_, fun c kind wellFormed turn state => ?_, fun et ep q wellFormed turn kept =>
    ⟨fun poor => ?_, fun good full => ?_⟩, fun wellFormed turn kept => ?_⟩
  · obtain ⟨r, run⟩ := record kind wellFormed
    rw [run, State.alignmentRecord_discards r turn]
    rfl
  · obtain ⟨r, run⟩ := record kind wellFormed
    have unkept : ¬(s.station t).state.kept = true := by
      simp only [List.mem_cons, List.not_mem_nil, or_false] at state
      rcases state with state | state | state <;> rw [state] <;> decide
    have discard := (State.alignmentRecord_unresolved (s := s.seen h) (l := h.port) r turn checks).trans (if_neg unkept)
    rw [seq] at discard
    have discarded := turned.modLane fun v => { v with counters :=
      { v.counters with resultsDiscarded := raiseBy 1 v.counters.resultsDiscarded } }
    exact ⟨_, run.trans (congrArg _ discard), discarded.others, discarded.entry, discarded.lane, fun m hm => discarded.lane_other hm,
      discarded.ports, discarded.align, discarded.streams, discarded.refs, discarded.claims, discarded.link, discarded.builder,
      discarded.port⟩
  · rw [exec_resultTagged_unresolved pin isOpen passes tag matched turn checks kept wellFormed,
      exec_noShow_unresolved (h := { h with frameLen := 12 }) pin isOpen passes tag matched turn checks kept
        (noShow_wellFormed wellFormed),
      State.takeTurnReport_poor (by rw [turned.align]; exact poor)]
    rfl
  · rw [exec_resultTagged_unresolved pin isOpen passes tag matched turn checks kept wellFormed,
      State.takeTurnReport_full (by rw [turned.align]; exact good) (by rw [turned.lane]; exact full)]
    exact (exec_noShow_discarded pin isOpen passes tag matched turn checks kept (noShow_wellFormed wellFormed)).symm
  · have run := exec_noShow_unresolved pin isOpen passes tag matched turn checks kept wellFormed
    generalize (s.seen h).resolved h.port h.planSeq t = b at turned run
    have settings : b.align.settings.aMax = s.align.settings.aMax := by rw [turned.align]; rfl
    have entry : b.station t = (s.station t).unmarked h.port h.planSeq := turned.entry
    have fields := (s.station t).unmarked_kept h.port h.planSeq
    rw [← entry] at fields
    obtain ⟨state', attempts', misses', due', paused', admitted', home', -, -, refs'⟩ := fields
    have keeps := b.keeps_noShow h.port t
    have confined := State.confined_noShow turned.canonical h.port t (by rw [state', kept])
    obtain ⟨others, claims, link, builder, ports, -⟩ := turned.onward confined keeps
    refine ⟨_, run, others, claims, link, builder, ports, ?_,
      fun marked => confined.unmarked (by rw [turned.entry]; exact StationEntry.unmarked_outstanding marked),
      fun paused => ?_, fun paused state below => ?_, fun paused state reached => ?_, fun paused state below => ?_,
      fun paused state reached => ?_⟩
    · rw [keeps.lane, turned.lane]
      rfl
    · rw [State.noShow_paused h.port (paused'.trans paused)]
      exact ⟨attempts', misses', state', due', turned.port, turned.streams⟩
    · have tried := turned.modStation (.tried ((s.station t).attempts + 1))
      rw [State.noShow_aligning h.port (paused'.trans paused) (by rwa [state']), attempts', settings, if_neg (Nat.not_le.2 below),
        State.station_setDueNow tried.canonical, State.station_modStation_same turned.canonical]
      exact ⟨rfl, misses', state', tried.now, State.mem_setDueNow _ t, tried.port, tried.streams⟩
    · have tried := turned.modStation (.tried s.align.settings.aMax)
      rw [State.noShow_aligning h.port (paused'.trans paused) (by rwa [state']), attempts', settings, if_pos reached]
      obtain ⟨state, unmapped, undue, -, reports⟩ := State.dismiss_spec tried.canonical h.port t .noShows
      rw [tried.port, tried.now] at reports
      exact ⟨state, unmapped, undue, reports⟩
    · have missed := turned.modStation (.missed ((s.station t).misses + 1))
      rw [State.noShow_established h.port (paused'.trans paused) (by rwa [state']), misses', settings, if_neg (Nat.not_le.2 below),
        State.station_modStation_same turned.canonical]
      exact ⟨rfl, attempts', state', due', missed.align, missed.port, missed.streams⟩
    · have missed := turned.modStation (.missed s.align.settings.aMax)
      rw [State.noShow_established h.port (paused'.trans paused) (by rwa [state']), misses', settings, if_pos reached]
      obtain ⟨entry, due, -, cleared, reports⟩ := State.enterLapsed_spec missed.canonical t .misses
      rw [missed.port, missed.now] at reports
      have same := State.station_modStation_same turned.canonical t (.missed s.align.settings.aMax)
      have streamsOf : (b.modStation t (.missed s.align.settings.aMax)).streamsOf t = s.streamsOf t :=
        missed.streamsOf ((congrArg StationEntry.refs (missed.entry.symm.trans same)).trans refs')
      rw [entry]
      refine ⟨rfl, rfl, rfl, missed.now, due, ?_, fun i hi => ?_, ?_⟩
      · exact (congrArg StationEntry.admitted same).trans admitted'
      · rw [← streamsOf] at hi
        obtain ⟨stream, lists⟩ := cleared i hi
        rw [stream, State.stream_of_streams missed.streams]
        exact ⟨rfl, lists⟩
      · rw [same] at reports
        rw [← home']
        exact reports
end

section
/-! PROOFS. The verdicts on a measurement (R68, R69, R71): what each leaves of the station, by its state. -/

namespace Sys2Proof.Machine

/-! ### What the verdicts keep -/

section
variable (s : State) (l : LaneId) (t : Nat)

theorem State.keeps_setDueLater (at_ : Time) : s.Keeps (s.setDueLater t at_) :=
  (s.keeps_modStation t _).trans (State.keeps_leaveDue _ t)

theorem State.keeps_relistStreams : s.Keeps (s.relistStreams t) :=
  .foldl (fun s i => .ite (fun _ => s.keeps_joinLists i) fun _ => .refl s) _ s

theorem State.keeps_verdictAbort : s.Keeps (s.verdictAbort l t) := by
  unfold State.verdictAbort
  split
  iterate 2
    exact (s.keeps_raise _).trans (State.keeps_release _ t _)
  iterate 3
    exact s.keeps_enterLapsed t _
  iterate 3
    exact .refl s

end

/-! ### DONE (R68) -/

/-- The state of a station whose measurement is DONE. -/
def StationState.done (admitted : Bool) : StationState → StationState
  | .aligning => if admitted then .active else .ready
  | .lapsed => .aligning
  | st => st

theorem StationState.done_established {st : StationState} {admitted : Bool} (h : st ∈ [StationState.ready, .active, .held]) :
    st.done admitted = st := by
  obtain ⟨-, notAligning, notLapsed⟩ := StationState.mem_established.1 h
  unfold StationState.done
  split
  · contradiction
  · contradiction
  · rfl

/-- The entry with its counts cleared, and with a state given. -/
def StationEntry.cleared (e : StationEntry) : StationEntry := { e with attempts := 0, misses := 0 }
def StationEntry.inState (st : StationState) (e : StationEntry) : StationEntry := { e with state := st }

/-- The entry of a station whose measurement is DONE: a LAPSED one is due now, any other at its maintenance interval. -/
def StationEntry.done (now later : Time) (e : StationEntry) : StationEntry :=
  { e with attempts := 0, misses := 0, state := e.state.done e.admitted, due := if e.state = .lapsed then now else later }

/-- A station that becomes ACTIVE has its references tidied and its streams on their lists. -/
def State.relistedIf (s : State) (st : StationState) (t : Nat) : State :=
  if st = .active then (s.tidyRefs t).relistStreams t else s

theorem State.relistedIf_work {s : State} (hs : s.tablesCanonical) (st : StationState) (t : Nat) :
    State.StreamWork t (s.streamsOf t) s (s.relistedIf st t) := by
  unfold State.relistedIf
  split
  · obtain ⟨tidied, -⟩ := s.tidyRefs_spec hs t
    obtain ⟨relisted, lists⟩ := (s.tidyRefs t).relistStreams_spec t
    refine (tidied.mono (List.nil_subset _)).trans (.of_relisted tidied.canonical relisted fun i hi l c => ?_)
    rw [lists, State.streamsOf_tidyRefs hs]
    exact or_iff_left fun on => hi on.1
  · exact .refl t _ hs

theorem State.keeps_relistedIf (s : State) (st : StationState) (t : Nat) : s.Keeps (s.relistedIf st t) :=
  .ite (fun _ => (s.keeps_tidyRefs t).trans (State.keeps_relistStreams _ t)) fun _ => .refl s

/-- The station in the state, due later. -/
def State.restedIn (s : State) (st : StationState) (t : Nat) (later : Time) : State :=
  (((s.modStation t .cleared).modStation t (.inState st)).setDueLater t later).relistedIf st t

/-- The station ALIGNING, due now. -/
def State.realigned (s : State) (t : Nat) : State :=
  ((s.modStation t .cleared).modStation t (.inState .aligning)).setDueNow t

section
variable {s : State} (l : LaneId) {t : Nat}

theorem State.verdictDone_established (state : (s.station t).state ∈ [StationState.ready, .active, .held]) :
    s.verdictDone l t = (s.modStation t .cleared).setDueLater t (s.now + tu s.align.settings.miTu) := by
  unfold State.verdictDone
  dsimp only
  simp only [List.mem_cons, List.not_mem_nil, or_false] at state
  rcases state with state | state | state <;> rw [state] <;> rfl

theorem State.verdictDone_lapsed (state : (s.station t).state = .lapsed) : s.verdictDone l t = s.realigned t := by
  unfold State.verdictDone
  dsimp only
  rw [state]
  rfl

theorem State.verdictDone_aligning (state : (s.station t).state = .aligning) : s.verdictDone l t =
    (s.restedIn (if (s.station t).admitted then .active else .ready) t (s.now + tu s.align.settings.miTu)).raise
      (.aligned t l (if (s.station t).admitted then .active else .ready) (s.station t).O (s.station t).Pw) := by
  unfold State.verdictDone
  dsimp only
  rw [state]
  rfl

theorem State.verdictAbort_established (state : (s.station t).state ∈ [StationState.ready, .active, .held]) :
    s.verdictAbort l t = s.enterLapsed t .notConverged := by
  unfold State.verdictAbort
  simp only [List.mem_cons, List.not_mem_nil, or_false] at state
  rcases state with state | state | state <;> rw [state]

theorem State.verdictAbort_aligning (state : (s.station t).state = .aligning ∨ (s.station t).state = .lapsed) :
    s.verdictAbort l t = s.dismiss l t .notConverged := by
  unfold State.verdictAbort
  rcases state with state | state <;> rw [state] <;> rfl

end

section
variable {s : State} (hs : s.tablesCanonical) (l : LaneId) (t : Nat)
include hs

theorem State.restedIn_spec (st : StationState) (later : Time) : State.Confined t s (s.restedIn st t later) ∧
    s.Keeps (s.restedIn st t later) ∧
    ((s.restedIn st t later).lanes = s.lanes ∧ (s.restedIn st t later).port = s.port ∧ (s.restedIn st t later).now = s.now) ∧
    t ∉ (s.restedIn st t later).align.dueQueue ∧
    (s.restedIn st t later).station t = { s.station t with
      attempts := 0, misses := 0, state := st, due := later
      refs := ((s.restedIn st t later).station t).refs, parity := ((s.restedIn st t later).station t).parity } := by
  have cleared := State.Confined.modStation hs t .cleared fun _ => id
  have placed := State.Confined.modStation cleared.canonical t (.inState st) fun _ => id
  have delayed := State.confined_setDueLater placed.canonical t later
  have entry := State.station_setDueLater placed.canonical t later
  rw [State.station_modStation_same cleared.canonical, State.station_modStation_same hs] at entry
  have undue := State.not_mem_setDueLater ((s.modStation t .cleared).modStation t (.inState st)) t later
  have work := State.relistedIf_work delayed.canonical st t
  have keeps := ((s.keeps_modStation t .cleared).trans (State.keeps_modStation _ t (.inState st))).trans
    ((State.keeps_setDueLater _ t later).trans (State.keeps_relistedIf _ st t))
  obtain ⟨lanes, port, -, now⟩ := ((s.modStation t .cleared).modStation t (.inState st)).setDueLater_kept t later
  have own := work.entry
  rw [entry] at own
  unfold State.restedIn
  generalize ((s.modStation t .cleared).modStation t (.inState st)).setDueLater t later = r at *
  refine ⟨cleared.trans (placed.trans (delayed.trans (.of_work work))), keeps, ⟨work.lanes.trans lanes, work.port.trans port,
    work.now.trans now⟩, ?_, own⟩
  rw [work.align]
  exact undue

/-- What a DONE verdict leaves, besides its notice. -/
theorem State.verdictDone_spec (kept : (s.station t).state.kept = true) : State.Confined t s (s.verdictDone l t) ∧
    s.Keeps (s.verdictDone l t) ∧ (s.verdictDone l t).lanes = s.lanes ∧
    (s.verdictDone l t).station t = { (s.station t).done s.now (s.now + tu s.align.settings.miTu) with
      refs := ((s.verdictDone l t).station t).refs, parity := ((s.verdictDone l t).station t).parity } ∧
    (t ∈ (s.verdictDone l t).align.dueQueue ↔ (s.station t).state = .lapsed) ∧
    ((s.station t).state ≠ .aligning → (s.verdictDone l t).port = s.port ∧ (s.verdictDone l t).streams = s.streams) ∧
    ((s.station t).state = .aligning → s.port.reports.length < 64 → (s.verdictDone l t).port.reports = s.port.reports ++
      [⟨s.now, .aligned t l (if (s.station t).admitted then .active else .ready) (s.station t).O (s.station t).Pw⟩]) := by
  have cleared := State.Confined.modStation hs t .cleared fun _ => id
  by_cases aligning : (s.station t).state = .aligning
  · rw [State.verdictDone_aligning l aligning]
    obtain ⟨confined, keeps, ⟨lanes, port, now⟩, undue, entry⟩ := State.restedIn_spec hs t
      (if (s.station t).admitted then .active else .ready) (s.now + tu s.align.settings.miTu)
    generalize s.restedIn _ t _ = r at *
    refine ⟨confined.trans (.raise confined.canonical t _), keeps.trans (State.keeps_raise _ _), (r.raise_lanes _).trans lanes, ?_, ?_,
      fun other => absurd aligning other, fun _ room => ?_⟩
    · rw [State.station_of_stations (r.raise_stations _), entry, StationEntry.done, aligning]
      rfl
    · rw [State.raise_align, aligning]
      exact iff_of_false undue nofun
    · rw [r.raise_room _ (by rw [port]; exact room), port, now]
  · by_cases lapsed : (s.station t).state = .lapsed
    · have placed := State.Confined.modStation cleared.canonical t (.inState .aligning) fun _ => id
      have entry := State.station_setDueNow placed.canonical t
      rw [State.station_modStation_same cleared.canonical, State.station_modStation_same hs] at entry
      obtain ⟨lanes, port, streams, -⟩ := ((s.modStation t .cleared).modStation t (.inState .aligning)).setDueNow_kept t
      rw [State.verdictDone_lapsed l lapsed, State.realigned, StationEntry.done, lapsed, entry]
      exact ⟨cleared.trans (placed.trans (State.confined_setDueNow placed.canonical t)),
        (s.keeps_modStation t .cleared).trans ((State.keeps_modStation _ t _).trans (State.keeps_setDueNow _ t)), lanes, rfl,
        iff_of_true (State.mem_setDueNow _ t) rfl, fun _ => ⟨port, streams⟩, nofun⟩
    · have established := StationState.mem_established.2 ⟨kept, aligning, lapsed⟩
      rw [State.verdictDone_established l established, StationEntry.done, StationState.done_established established, if_neg lapsed,
        State.station_setDueLater cleared.canonical, State.station_modStation_same hs]
      exact ⟨cleared.trans (State.confined_setDueLater cleared.canonical t _),
        (s.keeps_modStation t .cleared).trans (State.keeps_setDueLater _ t _), rfl, rfl,
        iff_of_false (State.not_mem_setDueLater _ t _) lapsed, fun _ => ⟨rfl, rfl⟩, fun other => absurd other aligning⟩

theorem State.confined_verdictAbort (kept : (s.station t).state.kept = true) : State.Confined t s (s.verdictAbort l t) := by
  by_cases state : (s.station t).state = .aligning ∨ (s.station t).state = .lapsed
  · rw [State.verdictAbort_aligning l state]
    exact State.confined_dismiss hs l t .notConverged
  · rw [State.verdictAbort_established l (StationState.mem_established.2 ⟨kept, not_or.1 state⟩)]
    exact State.confined_enterLapsed hs t .notConverged

end

end Sys2Proof.Machine
end

section
/-! PROOFS. A measurement: the corrections (R65), the judgement (R66) and the verdict told in a notice (R67 to R71). -/

namespace Sys2Proof.Machine

/-! ### The corrections (R65) -/

theorem correctedOffset_eq {O : Nat} {et : Int} {O' : Nat} (h : (O' : Int) = max 0 (min (O + et) 1048575)) :
    correctedOffset O et = O' := by
  rw [correctedOffset, clampI_eq _ (by decide), Config.offsetMax, ← h, Int.toNat_natCast]

theorem correctedPower_eq {u : LaneSetup} {Pw : Nat} {ep : Int} {P : Nat} (order : u.Pmin ≤ u.Pmax)
    (h : (P : Int) = max (u.Pmin : Int) (min (Pw - ep) u.Pmax)) : correctedPower u Pw ep = P := by
  rw [correctedPower, clampI_eq _ (by exact_mod_cast order), ← h, Int.toNat_natCast]

theorem converged_iff {p : PartSettings} {et ep : Int} :
    converged p et ep = true ↔ et.natAbs ≤ p.tolT ∧ ep.natAbs ≤ p.tolP := by
  simp [converged]

/-! ### The station judged -/

/-- The entry with its corrections, and with a verdict waiting. -/
def StationEntry.corrected (O Pw : Nat) (e : StationEntry) : StationEntry := { e with O := O, Pw := Pw }
def StationEntry.awaiting (e : StationEntry) : StationEntry := { e with verdictWaiting := true }

/-- A field written over a sealed entry is sealed with the others. -/
theorem StationEntry.seal_tried (n : Nat) (e : StationEntry) : (e.seal.tried n).seal = (e.tried n).seal := rfl
theorem StationEntry.seal_awaiting (e : StationEntry) : e.seal.awaiting.seal = e.awaiting.seal := rfl

/-- The lane with one more notice. -/
def Lane.noticed (b : NoticeBody) (v : Lane) : Lane := { v with notices := v.notices ++ [⟨b, none, false⟩] }

theorem State.Turned.giveVerdict {l : LaneId} {t : Nat} {v : Lane} {e : StationEntry} {s b : State}
    (h : State.Turned l t v e s b) (dt dp : Int) (verdict : Verdict) :
    State.Turned l t (v.noticed (.correction t dt dp verdict)) e.awaiting.seal s (b.giveVerdict l t dt dp verdict) :=
  (h.modLane (Lane.noticed (.correction t dt dp verdict))).modStation StationEntry.awaiting

/-- The station corrected, and told the verdict DONE. -/
def State.foundGood (s : State) (l : LaneId) (t O Pw : Nat) (dt dp : Int) : State :=
  (s.modStation t (.corrected O Pw)).giveVerdict l t dt dp .done

/-- The station corrected with its attempts counted, and told that it has not converged. -/
def State.foundOff (s : State) (l : LaneId) (t O Pw n : Nat) (dt dp : Int) (verdict : Verdict) : State :=
  ((s.modStation t (.corrected O Pw)).modStation t (.tried n)).giveVerdict l t dt dp verdict

/-- The entry `f` of a station measured on a turn of plan `q` of lane `l`, whatever the verdict: what has changed of `e`, and what
is as it was. -/
structure StationEntry.Measured (l : LaneId) (q : PlanSeq) (O Pw : Nat) (e f : StationEntry) : Prop where
  unmarked : e.outstanding = some (l, q) → f.outstanding = none
  offset : f.O = O
  power : f.Pw = Pw
  waiting : f.verdictWaiting = true
  state : f.state = e.state
  misses : f.misses = e.misses
  admitted : f.admitted = e.admitted
  home : f.home = e.home
  refs : f.refs = e.refs

section
variable {l : LaneId} {q : PlanSeq} {t : Nat} {v : Lane} {e : StationEntry} {s b : State} (O Pw n : Nat) (dt dp : Int) (verdict : Verdict)
  (h : State.Turned l t v (e.unmarked l q) s b)
include h

theorem State.Turned.foundGood :
    State.Turned l t (v.noticed (.correction t dt dp .done)) ((b.foundGood l t O Pw dt dp).station t) s
      (b.foundGood l t O Pw dt dp) ∧
    e.Measured l q O Pw ((b.foundGood l t O Pw dt dp).station t) := by
  have found := (h.modStation (.corrected O Pw)).giveVerdict dt dp .done
  obtain ⟨state, -, misses, -, -, admitted, home, -, -, refs⟩ := e.unmarked_kept l q
  have unmarked := StationEntry.unmarked_outstanding (l := l) (q := q) (e := e)
  generalize e.unmarked l q = f at *
  unfold State.foundGood
  rw [found.entry, StationEntry.seal_awaiting]
  exact ⟨found, unmarked, rfl, rfl, rfl, state, misses, admitted, home, refs⟩

theorem State.Turned.foundOff :
    State.Turned l t (v.noticed (.correction t dt dp verdict)) ((b.foundOff l t O Pw n dt dp verdict).station t) s
      (b.foundOff l t O Pw n dt dp verdict) ∧
    e.Measured l q O Pw ((b.foundOff l t O Pw n dt dp verdict).station t) ∧
    ((b.foundOff l t O Pw n dt dp verdict).station t).attempts = n := by
  have found := ((h.modStation (.corrected O Pw)).modStation (.tried n)).giveVerdict dt dp verdict
  obtain ⟨state, -, misses, -, -, admitted, home, -, -, refs⟩ := e.unmarked_kept l q
  have unmarked := StationEntry.unmarked_outstanding (l := l) (q := q) (e := e)
  generalize e.unmarked l q = f at *
  unfold State.foundOff
  rw [found.entry, StationEntry.seal_tried, StationEntry.seal_awaiting]
  exact ⟨found, ⟨unmarked, rfl, rfl, rfl, state, misses, admitted, home, refs⟩, rfl⟩

end

section
variable {s : State} {l : LaneId} {t : Nat} {et ep : Int} {O₀ Pw₀ O Pw n : Nat} (offset₀ : (s.station t).O = O₀)
  (power₀ : (s.station t).Pw = Pw₀) (offset : correctedOffset O₀ et = O) (power : correctedPower (s.setupOf l) Pw₀ ep = Pw)
include offset₀ power₀ offset power

theorem State.measure_done (within : converged s.align.settings et ep = true) :
    s.measure l t et ep = (s.foundGood l t O Pw ((O : Int) - O₀) ((Pw : Int) - Pw₀)).verdictDone l t := by
  subst offset₀ power₀ offset power
  exact if_pos within

/-- Not converged: the attempts at their limit end in ABORT, and below it in CONTINUE. -/
theorem State.measure_off (outside : ¬converged s.align.settings et ep = true)
    (count : n = min ((s.station t).attempts + 1) s.align.settings.aMax) : s.measure l t et ep =
      if s.align.settings.aMax ≤ n then
        (s.foundOff l t O Pw n ((O : Int) - O₀) ((Pw : Int) - Pw₀) .abort).verdictAbort l t
      else (s.foundOff l t O Pw n ((O : Int) - O₀) ((Pw : Int) - Pw₀) .cont).setDueNow t := by
  subst offset₀ power₀ offset power count
  exact if_neg outside

end

end Sys2Proof.Machine

open Sys2Proof Sys2Proof.Machine

/-- Settles O41: the judged station is the one of `foundGood` or `foundOff`, and `verdictDone_spec`, `station_setDueNow`,
`enterLapsed_spec` and `dismiss_spec` say what its verdict leaves. -/
theorem measurementCorrectsAndJudges : Obligations.MeasurementCorrectsAndJudges := by
  rintro s h w et ep q t E p u e O' P' n pin hs isOpen wellFormed passes tag matched turn rfl checks kept rfl setup order good room
    hO hP count notice lane within
  have turned : State.Turned h.port t ((s.lane h.port).resolve h.planSeq t) ((s.station t).unmarked h.port h.planSeq) (s.seen h)
    _ := State.resolved_turned (s := s.seen h) hs h.port h.planSeq t
  have run := exec_resultTagged_unresolved pin isOpen passes tag matched turn checks kept wellFormed
  generalize (s.seen h).resolved h.port h.planSeq t = b at turned run
  obtain ⟨-, attempts, -, -, -, -, -, offset₀, power₀, -⟩ := (s.station t).unmarked_kept h.port h.planSeq
  rw [← turned.entry] at attempts offset₀ power₀
  have settings : b.align.settings = s.align.settings := congrArg (·.settings) turned.align
  have setup' : b.setupOf h.port = u := by
    rw [State.setupOf, turned.lane]
    exact setup
  have offset := correctedOffset_eq hO
  have power := correctedPower_eq order hP
  rw [← setup'] at power
  rw [State.takeTurnReport_measured (by rw [settings]; exact good) (by rw [turned.lane]; exact room)] at run
  by_cases conv : within
  · rw [State.measure_done offset₀ power₀ offset power (by rw [settings]; exact converged_iff.2 conv)] at run
    obtain ⟨found, measured⟩ := turned.foundGood O' P' ((O' : Int) - (s.station t).O) ((P' : Int) - (s.station t).Pw)
    generalize b.foundGood h.port t O' P' _ _ = g at *
    obtain ⟨confined, keeps, lanes, entry, due, quiet, aligned⟩ :=
      State.verdictDone_spec found.canonical h.port t (by rw [measured.state]; exact kept)
    rw [measured.state] at due quiet aligned
    rw [StationEntry.done, measured.state, measured.admitted, found.now, found.align] at entry
    rw [measured.admitted, measured.offset, measured.power, found.port, found.now] at aligned
    obtain ⟨others, claims, link, builder, ports, settings'⟩ := found.onward confined keeps
    refine ⟨_, run, others, claims, link, builder, ports, settings', fun _ other => (quiet other).1.trans found.port,
      fun _ => ⟨(congrArg (·[h.port]) lanes).trans found.lane, ?_⟩, fun off => absurd conv off, fun off => absurd conv off,
      fun off => absurd conv off⟩
    refine ⟨?_, ?_, ?_, ?_, ?_, fun marked => confined.unmarked (measured.unmarked marked), fun lapsed => ⟨?_, ?_, due.2 lapsed⟩,
      fun other => ⟨?_, mt due.1 other⟩, fun established => ⟨?_, ?_⟩, fun state => ⟨?_, aligned state⟩⟩
    · rw [entry]; exact measured.offset
    · rw [entry]; exact measured.power
    · rw [entry]
    · rw [entry]
    · rw [entry]; exact measured.waiting
    · rw [entry, lapsed]; rfl
    · rw [entry]; exact if_pos lapsed
    · rw [entry]; exact if_neg other
    · rw [entry]; exact StationState.done_established established
    · obtain ⟨-, notAligning, -⟩ := StationState.mem_established.1 established
      exact (quiet notAligning).2.trans found.streams
    · rw [entry, state]; rfl
  · rw [State.measure_off (n := n) offset₀ power₀ offset power (by rw [settings]; exact mt converged_iff.1 conv)
      (by rw [attempts, settings]; exact count), settings] at run
    rcases Nat.lt_or_ge n s.align.settings.aMax with below | reached
    · rw [if_neg (Nat.not_le.2 below)] at run
      obtain ⟨found, measured, tried⟩ := turned.foundOff O' P' n ((O' : Int) - (s.station t).O) ((P' : Int) - (s.station t).Pw) .cont
      generalize b.foundOff h.port t O' P' n _ _ _ = g at *
      obtain ⟨others, claims, link, builder, ports, settings'⟩ :=
        found.onward (State.confined_setDueNow found.canonical t) (g.keeps_setDueNow t)
      have entry := State.station_setDueNow found.canonical t
      rw [found.now] at entry
      refine ⟨_, run, others, claims, link, builder, ports, settings', fun on => absurd on conv, fun on => absurd on conv,
        fun _ _ => ⟨found.lane, ?_⟩, fun _ limit => absurd below limit.not_gt, fun _ limit => absurd below limit.not_gt⟩
      rw [entry]
      exact ⟨measured.offset, measured.power, tried, measured.misses, measured.state, measured.waiting, rfl,
        State.mem_setDueNow g t, found.streams, found.port⟩
    · rw [if_pos reached] at run
      obtain ⟨found, measured, -⟩ := turned.foundOff O' P' n ((O' : Int) - (s.station t).O) ((P' : Int) - (s.station t).Pw) .abort
      generalize b.foundOff h.port t O' P' n _ _ _ = g at *
      obtain ⟨others, claims, link, builder, ports, settings'⟩ := found.onward
        (State.confined_verdictAbort found.canonical h.port t (by rw [measured.state]; exact kept)) (g.keeps_verdictAbort h.port t)
      refine ⟨_, run, others, claims, link, builder, ports, settings', fun on => absurd on conv, fun on => absurd on conv,
        fun _ below => absurd reached below.not_ge, fun _ _ established => ?_, fun _ _ state => ?_⟩
      · obtain ⟨entry, due, lanes, cleared, reports⟩ := State.enterLapsed_spec found.canonical t .notConverged
        rw [found.port, found.now, measured.home] at reports
        rw [found.now] at entry
        rw [found.streamsOf measured.refs] at cleared
        rw [State.verdictAbort_established h.port (by rw [measured.state]; exact established)]
        generalize g.enterLapsed t .notConverged = r at *
        refine ⟨(congrArg (·[h.port]) lanes).trans found.lane, ?_⟩
        rw [entry]
        refine ⟨rfl, measured.offset, measured.power, rfl, rfl, rfl, due, fun i hi => ?_, reports⟩
        rw [(cleared i hi).1, State.stream_of_streams found.streams]
        rfl
      · obtain ⟨ended, unmapped, -, named, reports⟩ := State.dismiss_spec found.canonical h.port t .notConverged
        rw [found.port, found.now] at reports
        rw [State.stationRefs, found.refs] at named
        rw [State.verdictAbort_aligning h.port (by rw [measured.state]; exact state)]
        refine ⟨ended, unmapped, fun referenced => ?_, reports⟩
        obtain ⟨releasing, lanes⟩ := named referenced
        exact ⟨releasing, (congrArg (·[h.port]) lanes).trans found.lane⟩
end

section
/-! PROOFS. What every operation upholds: the tables and the words of a memory test canonical, and planned bytes within demand
(R84). First the relation, and the single writes. -/

namespace Sys2Proof.Machine

/-! ### Entries of a table -/

/-- A listed entry after a write is the one written, or was listed before. -/
theorem Table.mem_set {α : Type} [DecidableEq α] {d v : α} {i : Nat} {t : Table α} {r : Nat × α}
    (h : r ∈ Table.set d i v t) : r = (i, v) ∨ r ∈ t := by
  induction t with
  | nil =>
    rw [Table.set] at h
    split at h
    · cases h
    · exact .inl (List.mem_singleton.1 h)
  | cons q rest ih =>
    simp only [Table.set] at h
    simp only [List.mem_cons]
    split_ifs at h <;> grind

/-- A read gives the default or a listed entry. -/
theorem Table.get_eq_or_mem {α : Type} (d : α) (i : Nat) (t : Table α) : Table.get d i t = d ∨ (i, Table.get d i t) ∈ t := by
  induction t with
  | nil => exact .inl rfl
  | cons q rest ih =>
    simp only [Table.get, List.mem_cons]
    split_ifs with below at_
    · exact .inl rfl
    · exact .inr (.inl (by rw [at_]))
    · exact ih.imp_right .inr

/-! ### The demand of an entry (R84) -/

/-- Planned bytes within demand, and demand within its ceiling. -/
def StreamEntry.DemandSound (e : StreamEntry) : Prop := e.G ≤ e.D ∧ e.D ≤ Config.demandMax

theorem State.demandSound.stream {s : State} (h : s.demandSound) (i : Nat) : (s.stream i).DemandSound := by
  rcases Table.get_eq_or_mem StreamEntry.free i s.streams.entries with free | listed
  · rw [State.stream, free]
    exact ⟨Nat.le_refl 0, Nat.zero_le _⟩
  · exact h _ listed

/-! ### The relation -/

/-- The step from `s` to `t` upholds the three invariants. -/
structure State.Upholds (s t : State) : Prop where
  tables : s.tablesCanonical → t.tablesCanonical
  words : s.testWordsCanonical → t.testWordsCanonical
  demand : s.demandSound → t.demandSound

/-- All that the three invariants speak of: the sparse tables and the memory test. -/
def State.sparse (s : State) : Table StationEntry × Table StreamEntry × Table Reserved × RefTable × Option MemTest :=
  (s.stations.entries, s.streams.entries, s.streams.reserved, s.refs, s.integrity.memTest)

namespace State.Upholds

theorem refl (s : State) : s.Upholds s := ⟨id, id, id⟩

theorem trans {s t u : State} (h : s.Upholds t) (k : t.Upholds u) : s.Upholds u :=
  ⟨k.tables ∘ h.tables, k.words ∘ h.words, k.demand ∘ h.demand⟩

/-- An operation that writes neither a sparse table nor the memory test. -/
theorem of_sparse {s t : State} (h : t.sparse = s.sparse) : s.Upholds t := by
  simp only [State.sparse, Prod.mk.injEq] at h
  obtain ⟨stations, streams, reserved, refs, memTest⟩ := h
  refine ⟨fun hs => ?_, fun hs => ?_, fun hs => ?_⟩
  · rwa [State.tablesCanonical, stations, streams, reserved, refs]
  · rwa [State.testWordsCanonical, memTest]
  · rwa [State.demandSound, streams]

/-- What each step of a walk upholds, the walk upholds. -/
theorem foldl {α : Type} {f : State → α → State} (step : ∀ (s : State) (a : α), s.Upholds (f s a)) (l : List α)
    (s : State) : s.Upholds (l.foldl f s) :=
  List.foldlRecOn l f (refl s) fun _ h a _ => h.trans (step _ a)

theorem ite {p : Prop} [Decidable p] {s t u : State} (ht : p → s.Upholds t) (hu : ¬p → s.Upholds u) :
    s.Upholds (if p then t else u) := by
  split
  · exact ht ‹_›
  · exact hu ‹_›

end State.Upholds

namespace State

variable (s : State)

/-! ### Single writes -/

theorem upholds_putStation (t : Nat) (e : StationEntry) : s.Upholds (s.putStation t e) where
  tables hs := ⟨s.putStation_wf t e hs.1, hs.2⟩
  words := id
  demand := id

theorem upholds_modStation (t : Nat) (f : StationEntry → StationEntry) : s.Upholds (s.modStation t f) :=
  s.upholds_putStation t _

/-- A stream entry is written with its demand in order where the one it replaces has it so; most writes leave D and G. -/
theorem upholds_putStream (i : Nat) (e : StreamEntry) (sound : (s.stream i).DemandSound → e.DemandSound := by exact id) :
    s.Upholds (s.putStream i e) where
  tables hs := ⟨hs.1, s.putStream_wf i e hs.2.1, hs.2.2⟩
  words := id
  demand hs r hr := by
    rcases Table.mem_set hr with rfl | old
    · exact sound (hs.stream i)
    · exact hs r old

theorem upholds_modStream (i : Nat) (f : StreamEntry → StreamEntry)
    (sound : (s.stream i).DemandSound → (f (s.stream i)).DemandSound := by exact id) : s.Upholds (s.modStream i f) :=
  s.upholds_putStream i _ sound

theorem upholds_setReserved (i : Nat) (r : Reserved) : s.Upholds (s.setReserved i r) where
  tables hs := ⟨hs.1, hs.2.1, s.setReserved_wf i r hs.2.2.1, hs.2.2.2⟩
  words := id
  demand := id

theorem upholds_setStationRefs (t n : Nat) : s.Upholds (s.setStationRefs t n) where
  tables hs := ⟨hs.1, hs.2.1, hs.2.2.1, s.setStationRefs_wf t n hs.2.2.2.1, hs.2.2.2.2⟩
  words := id
  demand := id

theorem upholds_setStreamRefs (i n : Nat) : s.Upholds (s.setStreamRefs i n) where
  tables hs := ⟨hs.1, hs.2.1, hs.2.2.1, hs.2.2.2.1, s.setStreamRefs_wf i n hs.2.2.2.2⟩
  words := id
  demand := id

theorem upholds_raise (b : ReportBody) : s.Upholds (s.raise b) := .ite (fun _ => .of_sparse rfl) (fun _ => .of_sparse rfl)

theorem upholds_tallyScrub (f : Finder) (g : Scrub → Scrub) : s.Upholds (s.tallyScrub f g) :=
  .ite (fun _ => .of_sparse rfl) (fun _ => .refl s)

theorem upholds_modLane (l : LaneId) (f : Lane → Lane) : s.Upholds (s.modLane l f) := .of_sparse rfl

theorem upholds_setLaneState (l : LaneId) (st : LaneState) : s.Upholds (s.setLaneState l st) := by
  rw [State.setLaneState_eq]
  exact .of_sparse rfl

theorem upholds_count (l : LaneId) (f : LaneCounters → LaneCounters) : s.Upholds (s.count l f) := .of_sparse rfl
theorem upholds_mapNotices (l : LaneId) (f : Notice → Notice) : s.Upholds (s.mapNotices l f) := .of_sparse rfl
theorem upholds_moveToTail (l : LaneId) (k : Fin 4) (i : Nat) : s.Upholds (s.moveToTail l k i) := .of_sparse rfl
theorem upholds_setShareSum (l : LaneId) (n : Nat) : s.Upholds (s.setShareSum l n) := .of_sparse rfl
theorem upholds_setFreeTags (tags : List Nat) : s.Upholds { s with stations := { s.stations with freeTags := tags } } :=
  .of_sparse rfl
theorem upholds_noteQuarantine (t : Nat) : s.Upholds (s.noteQuarantine t) := .of_sparse rfl
theorem upholds_forgetQuarantine (t : Nat) : s.Upholds (s.forgetQuarantine t) := .of_sparse rfl
theorem upholds_leaveDue (t : Nat) : s.Upholds (s.leaveDue t) := .of_sparse rfl
theorem upholds_joinDue (t : Nat) : s.Upholds (s.joinDue t) := .of_sparse rfl
theorem upholds_setDraft (d : Option Draft) : s.Upholds (s.setDraft d) := .of_sparse rfl
theorem upholds_modDraft (f : Draft → Draft) : s.Upholds (s.modDraft f) := .of_sparse rfl
theorem upholds_setRx (l : LaneId) (v : RxPort) : s.Upholds (s.setRx l v) := .of_sparse rfl
theorem upholds_setClaim (l : LaneId) (v : Claim) : s.Upholds (s.setClaim l v) := .of_sparse rfl

theorem upholds_setDueNow (t : Nat) : s.Upholds (s.setDueNow t) := (s.upholds_modStation t _).trans (upholds_joinDue _ t)

theorem upholds_setDueLater (t : Nat) (at_ : Time) : s.Upholds (s.setDueLater t at_) :=
  (s.upholds_modStation t _).trans (upholds_leaveDue _ t)

theorem upholds_dropNoticesOf (t : Nat) : s.Upholds (s.dropNoticesOf t) := .foldl (fun s l => s.upholds_modLane l _) _ _

end State

end Sys2Proof.Machine
end

section
/-! PROOFS. The shared operations uphold the invariants: stream references and service lists, stations, and reads with a check
(R153 to R155). -/

namespace Sys2Proof.Machine.State

variable (s : State)

/-! ### Streams and their lists -/

/-- An operation that writes the service lists alone. -/
theorem Relisted.upholds {s t : State} (h : s.Relisted t) : s.Upholds t := by
  rw [h]
  exact .of_sparse rfl

theorem upholds_leaveLists (i : Nat) : s.Upholds (s.leaveLists i) := (Relisted.leaveLists s i).upholds

theorem upholds_joinLists (i : Nat) : s.Upholds (s.joinLists i) := (Relisted.joinLists s i).upholds

theorem upholds_clearDemand (i : Nat) : s.Upholds (s.clearDemand i) :=
  (s.upholds_modStream i _ fun sound => ⟨Nat.le_refl _, sound.1.trans sound.2⟩).trans (upholds_leaveLists _ i)

theorem upholds_freeStream (i : Nat) : s.Upholds (s.freeStream i) :=
  (s.upholds_leaveLists i).trans (upholds_putStream _ i _ fun _ => ⟨Nat.le_refl 0, Nat.zero_le _⟩)

theorem upholds_settleStream (i : Nat) : s.Upholds (s.settleStream i) :=
  .ite (fun _ => s.upholds_freeStream i) (fun _ => .refl s)

theorem upholds_dropReference (i : Nat) : s.Upholds (s.dropReference i) := by
  unfold State.dropReference
  split
  · exact s.upholds_modStation _ _
  · exact .refl s

theorem upholds_dropShare (i : Nat) : s.Upholds (s.dropShare i) :=
  (s.upholds_setShareSum _ _).trans (upholds_setReserved _ i _)

theorem upholds_removeStream (i : Nat) : s.Upholds (s.removeStream i) :=
  (s.upholds_dropReference i).trans <| (upholds_leaveLists _ i).trans <| (upholds_clearDemand _ i).trans <|
    (upholds_modStream _ i _).trans <| (upholds_dropShare _ i).trans <|
      (upholds_modStream _ i _).trans (upholds_settleStream _ i)

/-! ### Stations -/

theorem upholds_freeStation (t : Nat) : s.Upholds (s.freeStation t) :=
  (s.upholds_putStation t _).trans <| (upholds_leaveDue _ t).trans <| (upholds_setFreeTags _ _).trans (upholds_dropNoticesOf _ t)

theorem upholds_settleStation (t : Nat) : s.Upholds (s.settleStation t) :=
  .ite (fun _ => s.upholds_freeStation t) (fun _ => .refl s)

theorem upholds_lowerStation (t : Nat) : s.Upholds (s.lowerStation t) :=
  (s.upholds_setStationRefs t _).trans (upholds_settleStation _ t)

theorem upholds_lowerStream (i : Nat) : s.Upholds (s.lowerStream i) :=
  (s.upholds_setStreamRefs i _).trans (upholds_settleStream _ i)

theorem upholds_lowerRefs (stations streams : List Nat) : s.Upholds (s.lowerRefs stations streams) :=
  (Upholds.foldl upholds_lowerStation stations s).trans (.foldl upholds_lowerStream streams _)

theorem upholds_raiseRefs (stations streams : List Nat) : s.Upholds (s.raiseRefs stations streams) :=
  (Upholds.foldl (fun s t => s.upholds_setStationRefs t _) stations s).trans
    (.foldl (fun s i => s.upholds_setStreamRefs i _) streams _)

theorem upholds_tidyRefs (t : Nat) : s.Upholds (s.tidyRefs t) := .foldl (fun s _ => s.upholds_modStation t _) _ _

theorem upholds_clearStreams (t : Nat) : s.Upholds (s.clearStreams t) := .foldl upholds_clearDemand _ _

theorem upholds_unlistStreams (t : Nat) : s.Upholds (s.unlistStreams t) := (s.unlistStreams_spec t).1.upholds

theorem upholds_relistStreams (t : Nat) : s.Upholds (s.relistStreams t) := (s.relistStreams_spec t).1.upholds

theorem upholds_release (t : Nat) (cause : Cause) : s.Upholds (s.release t cause) :=
  (Upholds.of_sparse rfl : s.Upholds
      { s with stations := { s.stations with joinMap := s.stations.joinMap.filter (fun m => m.2 ≠ t) } }).trans <|
    (upholds_forgetQuarantine _ t).trans <| (upholds_modStation _ t _).trans <|
    (Upholds.foldl upholds_removeStream _ _).trans <| (upholds_modStation _ t _).trans <| (upholds_leaveDue _ t).trans <|
    (upholds_settleStation _ t).trans (upholds_raise _ _)

theorem upholds_enterLapsed (t : Nat) (cause : Cause) : s.Upholds (s.enterLapsed t cause) :=
  (s.upholds_modStation t _).trans <| (upholds_tidyRefs _ t).trans <| (upholds_clearStreams _ t).trans <|
    (upholds_setDueNow _ t).trans (upholds_raise _ _)

/-! ### Reads with a check (R153 to R155) -/

theorem upholds_quarantineStream (f : Finder) (i : Nat) : s.Upholds (s.quarantineStream f i) :=
  (s.upholds_modStream i _).trans <| (upholds_clearDemand _ i).trans <| (upholds_raise _ _).trans (upholds_tallyScrub _ f _)

theorem upholds_checkStream (f : Finder) (i : Nat) : s.Upholds (s.checkStream f i) := by
  refine .ite (fun _ => .refl s) fun _ => .ite (fun _ => .ite (fun _ => ?_) fun _ => ?_) fun _ => .ite (fun _ => ?_) fun _ => ?_
  · exact (s.upholds_putStream i _).trans <| (upholds_leaveLists _ i).trans (upholds_tallyScrub _ f _)
  · exact (s.upholds_freeStream i).trans (upholds_tallyScrub _ f _)
  · exact (s.upholds_putStream i _).trans (upholds_leaveLists _ i)
  · exact s.upholds_quarantineStream f i

theorem upholds_strandStream (f : Finder) (i : Nat) : s.Upholds (State.strandStream f s i) :=
  (s.upholds_checkStream f i).trans (.ite (fun _ => upholds_clearDemand _ i) (fun _ => .refl _))

theorem upholds_quarantineStation (f : Finder) (t : Nat) : s.Upholds (s.quarantineStation f t) :=
  (s.upholds_modStation t _).trans <|
    ((upholds_noteQuarantine _ t).trans (upholds_leaveDue _ t)).trans <|
    (Upholds.foldl (fun s i => s.upholds_strandStream f i) _ _).trans <| (upholds_raise _ _).trans (upholds_tallyScrub _ f _)

theorem upholds_resealStation (t : Nat) : s.Upholds (s.resealStation t) :=
  (s.upholds_modStation t _).trans <|
    (upholds_leaveDue _ t).trans (.foldl upholds_leaveLists _ _)

theorem upholds_checkStation (f : Finder) (t : Nat) : s.Upholds (s.checkStation f t) := by
  refine .ite (fun _ => .refl s) fun _ => .ite (fun _ => ?_) fun _ =>
    .ite (fun _ => .ite (fun _ => ?_) fun _ => ?_) fun _ => ?_
  · exact (s.upholds_putStation t _).trans (upholds_tallyScrub _ f _)
  · exact s.upholds_resealStation t
  · exact s.upholds_quarantineStation f t
  · exact (s.upholds_putStation t _).trans <| (upholds_leaveDue _ t).trans <|
      (upholds_settleStation _ t).trans (upholds_tallyScrub _ f _)

/-! ### Reads made by a build (R116) -/

theorem upholds_buildReadStation (t : Nat) : s.Upholds (s.buildReadStation t) := by
  unfold State.buildReadStation
  split
  · exact .refl s
  · exact .ite (fun _ => .refl s) fun _ => (s.upholds_setDraft _).trans (upholds_checkStation _ .build t)

theorem upholds_buildReadStream (i : Nat) : s.Upholds (s.buildReadStream i) := by
  unfold State.buildReadStream
  split
  · exact .refl s
  · exact .ite (fun _ => .refl s) fun _ => (s.upholds_setDraft _).trans (upholds_checkStream _ .build i)

theorem upholds_buildReadOwner (i : Nat) : s.Upholds (s.buildReadOwner i) := by
  unfold State.buildReadOwner
  split
  · exact s.upholds_buildReadStation _
  · exact .refl s

end Sys2Proof.Machine.State
end

section
/-! PROOFS. The events of stations, lanes and plans uphold the invariants: alignment, notice queues and home lanes, plans
committed and given back, and the stages of a build. -/

namespace Sys2Proof.Machine.State

variable (s : State)

/-! ### Marks, no-shows and verdicts -/

theorem upholds_clearMark (l : LaneId) (q : PlanSeq) (t : Nat) : s.Upholds (s.clearMark l q t) :=
  .ite (fun _ => s.upholds_modStation t _) (fun _ => .refl s)

theorem upholds_clearMarkLink (l : LaneId) (q : PlanSeq) (t : Nat) : s.Upholds (State.clearMarkLink l q s t) :=
  (s.upholds_checkStation .link t).trans (upholds_clearMark _ l q t)

theorem upholds_noShow (l : LaneId) (t : Nat) : s.Upholds (s.noShow l t) := by
  refine .ite (fun _ => .refl s) fun _ => ?_
  split
  iterate 2
    exact (s.upholds_modStation t _).trans <|
      .ite (fun _ => (upholds_raise _ _).trans (upholds_release _ t _)) (fun _ => upholds_setDueNow _ t)
  iterate 3
    exact (s.upholds_modStation t _).trans <| .ite (fun _ => upholds_enterLapsed _ t _) (fun _ => .refl _)
  iterate 3
    exact .refl s

theorem upholds_giveVerdict (l : LaneId) (t : Nat) (dt dp : Int) (v : Verdict) : s.Upholds (s.giveVerdict l t dt dp v) :=
  (s.upholds_modLane l _).trans (upholds_modStation _ t _)

theorem upholds_verdictDone (l : LaneId) (t : Nat) : s.Upholds (s.verdictDone l t) := by
  unfold State.verdictDone
  dsimp only
  split
  · exact (s.upholds_modStation t _).trans <| (upholds_modStation _ t _).trans <| (upholds_setDueLater _ t _).trans <|
      (Upholds.ite (fun _ => (upholds_tidyRefs _ t).trans (upholds_relistStreams _ t)) fun _ => .refl _).trans
        (upholds_raise _ _)
  iterate 3
    exact (s.upholds_modStation t _).trans (upholds_setDueLater _ t _)
  · exact (s.upholds_modStation t _).trans <| (upholds_modStation _ t _).trans (upholds_setDueNow _ t)
  iterate 3
    exact s.upholds_modStation t _

theorem upholds_verdictAbort (l : LaneId) (t : Nat) : s.Upholds (s.verdictAbort l t) := by
  unfold State.verdictAbort
  split
  iterate 2
    exact (s.upholds_raise _).trans (upholds_release _ t _)
  iterate 3
    exact s.upholds_enterLapsed t _
  iterate 3
    exact .refl s

theorem upholds_measure (l : LaneId) (t : Nat) (et ep : Int) : s.Upholds (s.measure l t et ep) :=
  (s.upholds_modStation t _).trans <|
    .ite (fun _ => (upholds_giveVerdict _ l t _ _ _).trans (upholds_verdictDone _ l t)) fun _ =>
      (upholds_modStation _ t _).trans <|
        .ite (fun _ => (upholds_giveVerdict _ l t _ _ _).trans (upholds_verdictAbort _ l t))
          (fun _ => (upholds_giveVerdict _ l t _ _ _).trans (upholds_setDueNow _ t))

theorem upholds_discardResult (l : LaneId) : s.Upholds (s.discardResult l) := s.upholds_count l _
theorem upholds_modHistory (l : LaneId) (q : PlanSeq) (f : HistEntry → HistEntry) : s.Upholds (s.modHistory l q f) :=
  s.upholds_modLane l _

theorem upholds_takeTurnReport (l : LaneId) (t : Nat) (r : TurnReport) : s.Upholds (s.takeTurnReport l t r) := by
  cases r with
  | none => exact s.upholds_noShow l t
  | some m =>
    exact .ite (fun _ => s.upholds_noShow l t) fun _ =>
      .ite (fun _ => (s.upholds_discardResult l).trans (upholds_noShow _ l t)) fun _ => s.upholds_measure l t _ _

theorem upholds_alignmentRecord (l : LaneId) (h : HistEntry) (t : Nat) (r : TurnReport) :
    s.Upholds (s.alignmentRecord l h t r) := by
  unfold State.alignmentRecord
  split
  · exact s.upholds_discardResult l
  · exact .ite (fun _ => s.upholds_discardResult l) fun _ =>
      (s.upholds_checkStation .record t).trans <| (upholds_modHistory _ l h.seq _).trans <|
        (upholds_clearMark _ l h.seq t).trans <|
          .ite (fun _ => upholds_takeTurnReport _ l t r) (fun _ => upholds_discardResult _ l)

theorem upholds_becomeDue (t : Nat) : s.Upholds (State.becomeDue t s) :=
  .ite (fun _ => (s.upholds_checkStation .other t).trans (.ite (fun _ => upholds_joinDue _ t) (fun _ => .refl _)))
    (fun _ => .refl s)

/-! ### Claim Controllers -/

theorem upholds_useTally (l : LaneId) (offered clean collided : Nat) : s.Upholds (s.useTally l offered clean collided) :=
  (s.upholds_setClaim l _).trans (.ite (fun _ => upholds_raise _ _) (fun _ => .refl _))

theorem upholds_takeTally (l : LaneId) (h : HistEntry) (offered clean collided : Nat) :
    s.Upholds (s.takeTally l h offered clean collided) :=
  .ite (fun _ => s.upholds_count l _) fun _ => (s.upholds_modHistory l h.seq _).trans (upholds_useTally _ l _ _ _)

theorem upholds_enterOpen (l : LaneId) : s.Upholds (s.enterOpen l) := (s.upholds_setClaim l _).trans (upholds_raise _ _)

theorem upholds_missingTally (l : LaneId) : s.Upholds (s.missingTally l) :=
  (s.upholds_setClaim l _).trans (.ite (fun _ => upholds_enterOpen _ l) (fun _ => .refl _))

theorem upholds_replaceClaim (l : LaneId) (n : ClaimSettings) : s.Upholds (s.replaceClaim l n) :=
  (s.upholds_setClaim l _).trans (.ite (fun _ => upholds_enterOpen _ l) (fun _ => .refl _))

/-! ### The plan history and the notice queue -/

theorem upholds_evictTurn (l : LaneId) (q : PlanSeq) (a : AlignTurn) : s.Upholds (State.evictTurn l q s a) :=
  .ite (fun _ => .refl s) fun _ => (s.upholds_clearMarkLink l q a.tag).trans (upholds_noShow _ l a.tag)

theorem upholds_evict (l : LaneId) (h : HistEntry) : s.Upholds (s.evict l h) :=
  (s.upholds_lowerRefs _ _).trans <| (Upholds.foldl (fun s a => s.upholds_evictTurn l h.seq a) _ _).trans <|
    .ite (fun _ => upholds_missingTally _ l) (fun _ => .refl _)

theorem upholds_pushHistory (l : LaneId) (h : HistEntry) : s.Upholds (s.pushHistory l h) := by
  refine .ite (fun _ => ?_) fun _ => s.upholds_modLane l _
  split
  · exact .refl s
  · exact (s.upholds_modLane l _).trans (upholds_evict _ l _)

theorem upholds_releaseEntry (l : LaneId) (h : HistEntry) : s.Upholds (State.releaseEntry l s h) :=
  (Upholds.foldl (fun s (a : AlignTurn) => s.upholds_clearMarkLink l h.seq a.tag) _ s).trans (upholds_lowerRefs _ _ _)

theorem upholds_clearHistory (l : LaneId) : s.Upholds (s.clearHistory l) :=
  (s.upholds_modLane l _).trans (.foldl (fun s h => s.upholds_releaseEntry l h) _ _)

theorem upholds_loseNotice (n : Notice) : s.Upholds (s.loseNotice n) :=
  (s.upholds_checkStation .other _).trans <|
    .ite (fun _ => (upholds_modStation _ _ _).trans (upholds_setDueNow _ _)) (fun _ => .refl _)

theorem upholds_emptyNotices (l : LaneId) : s.Upholds (s.emptyNotices l) :=
  (s.upholds_modLane l _).trans (.foldl upholds_loseNotice _ _)

/-! ### Home lanes (R52) -/

theorem upholds_rehome (t : Nat) : s.Upholds (s.rehome t) := by
  unfold State.rehome
  split
  · exact s.upholds_modStation t _
  · exact s.upholds_modStation t _

theorem upholds_rehomeAll (l : LaneId) : s.Upholds (s.rehomeAll l) :=
  .foldl (fun s t => (s.upholds_checkStation .other t).trans (.ite (fun _ => upholds_rehome _ t) (fun _ => .refl _))) _ _

theorem upholds_resumeOn (t : Nat) (l : LaneId) : s.Upholds (s.resumeOn t l) :=
  (s.upholds_modStation t _).trans (upholds_setDueNow _ t)

theorem upholds_resumeAll (l : LaneId) : s.Upholds (s.resumeAll l) :=
  .foldl (fun s t => (s.upholds_checkStation .other t).trans (.ite (fun _ => upholds_resumeOn _ t l) (fun _ => .refl _))) _ _

/-! ### Plans given back -/

/-- Planned bytes given back leave demand as it was (R90). -/
theorem upholds_givePlanned (d : DataTurn) : s.Upholds (s.givePlanned d) :=
  (s.upholds_checkStream .link _).trans <|
    upholds_modStream _ _ _ fun sound => ⟨(Nat.sub_le _ _).trans sound.1, sound.2⟩

theorem upholds_restoreData (data : List DataTurn) : s.Upholds (s.restoreData data) :=
  (Upholds.foldl upholds_givePlanned data s).trans <|
    .foldl (fun t i => .ite (fun _ => t.upholds_joinLists i) (fun _ => .refl t)) _ _

theorem upholds_clearMarks (p : PlanRecord) : s.Upholds (s.clearMarks p) :=
  (s.upholds_mapNotices _ _).trans (.foldl (fun s t => s.upholds_clearMarkLink _ _ t) _ _)

theorem upholds_dropQuietly (p : Plan) : s.Upholds (s.dropQuietly p) :=
  (s.upholds_clearMarks p.record).trans (upholds_lowerRefs _ _ _)

/-! ### A lane leaving LIVE -/

theorem upholds_withdraw (l : LaneId) : s.Upholds (s.withdraw l) := .of_sparse rfl
theorem upholds_setQueue (q : List Plan) : s.Upholds { s with link := { s.link with queue := q } } := .of_sparse rfl

theorem upholds_enterFaulted (l : LaneId) : s.Upholds (s.enterFaulted l) :=
  (s.upholds_setLaneState l _).trans <| (upholds_withdraw _ l).trans <| (upholds_setQueue _ _).trans <|
    (upholds_restoreData _ _).trans <| (Upholds.foldl upholds_dropQuietly _ _).trans <|
    (upholds_clearHistory _ l).trans <| (upholds_emptyNotices _ l).trans <| (upholds_rehomeAll _ l).trans (upholds_raise _ _)

theorem upholds_reachIdle (l : LaneId) : s.Upholds (s.reachIdle l) :=
  (s.upholds_setLaneState l _).trans <| (upholds_clearHistory _ l).trans <| (upholds_emptyNotices _ l).trans <|
    (upholds_modLane _ l _).trans (upholds_raise _ _)

theorem upholds_settleDraining (l : LaneId) : s.Upholds (s.settleDraining l) :=
  .ite (fun _ => s.upholds_reachIdle l) (fun _ => .refl s)

theorem upholds_faultIfDue (l : LaneId) : s.Upholds (s.faultIfDue l) :=
  .ite (fun _ => s.upholds_enterFaulted l) (fun _ => .refl s)

theorem upholds_setWaiting (w : List WaitingSpan) : s.Upholds { s with builder := { s.builder with waiting := w } } :=
  .of_sparse rfl

theorem upholds_skipSpan (w : WaitingSpan) : s.Upholds (s.skipSpan w) :=
  (s.upholds_setWaiting _).trans <| (upholds_modLane _ w.lane _).trans <| (upholds_raise _ _).trans (upholds_faultIfDue _ w.lane)

theorem upholds_expireSpan (l : LaneId) (k : BitVec 32) : s.Upholds (State.expireSpan l k s) := by
  unfold State.expireSpan
  split
  · exact .refl s
  · exact .ite (fun _ => s.upholds_skipSpan _) (fun _ => .refl s)

theorem upholds_handOver (l : LaneId) : s.Upholds (State.handOver l s) :=
  .ite (fun _ => (s.upholds_setWaiting _).trans (upholds_modLane _ l _)) (fun _ => .refl s)

theorem upholds_endCovered (l : LaneId) : s.Upholds (State.endCovered l s) :=
  .ite (fun _ => s.upholds_modLane l _) (fun _ => .refl s)

/-! ### Build begin (R115) -/

/-- Work on the draft at its stage. -/
theorem upholds_atStage (st : Stage) {f : Draft → State} (h : ∀ d, s.Upholds (f d)) : s.Upholds (s.atStage st f) := by
  unfold State.atStage
  split
  · exact .ite (fun _ => h _) (fun _ => .refl s)
  · exact .refl s

theorem upholds_considerCandidate (t : Nat) : s.Upholds (s.considerCandidate t) := by
  unfold State.considerCandidate
  split
  · exact .refl s
  · exact .ite (fun _ => .refl s) fun _ =>
      (s.upholds_buildReadStation t).trans (.ite (fun _ => upholds_modDraft _ _) (fun _ => .refl _))

theorem upholds_considerNotice (n : Notice) : s.Upholds (s.considerNotice n) := by
  unfold State.considerNotice
  split
  · exact .refl s
  · exact .ite (fun _ => .refl s) fun _ => (s.upholds_buildReadStation _).trans <|
      .ite (fun _ => .refl _) fun _ => (upholds_modDraft _ _).trans (upholds_modLane _ _ _)

theorem upholds_openBuild (b : PlanBuilder) (l : LaneId) (v : List Nat) :
    s.Upholds ({ s with builder := b }.setJoined l v) := .of_sparse rfl

theorem upholds_beginBuild (w : WaitingSpan) : s.Upholds (s.beginBuild w) :=
  (s.upholds_openBuild _ w.lane []).trans <| (Upholds.foldl upholds_considerCandidate _ _).trans <|
    (Upholds.foldl upholds_considerNotice _ _).trans (upholds_modDraft _ _)

theorem upholds_takeSpan : s.Upholds s.takeSpan := by
  unfold State.takeSpan
  split
  · exact .ite (fun _ => s.upholds_skipSpan _) (fun _ => s.upholds_beginBuild _)
  · exact .refl s

/-! ### The stages of a build -/

theorem upholds_walkCadenced : s.Upholds s.walkCadenced :=
  s.upholds_atStage _ fun _ =>
    (Upholds.foldl (fun s i => (s.upholds_buildReadStream i).trans (upholds_buildReadOwner _ i)) _ s).trans <|
      (Upholds.foldl (fun s i => s.upholds_modStream i _) _ _).trans <|
        (upholds_count _ _ _).trans (upholds_modDraft _ _)

theorem upholds_skipVisit (l : LaneId) (k : Fin 4) (i : Nat) (credit : Int) : s.Upholds (s.skipVisit l k i credit) :=
  (s.upholds_modStream i _).trans (upholds_moveToTail _ l k i)

/-- Planned bytes rise by a cover within the available demand (R126). -/
theorem upholds_serveVisit (l : LaneId) (k : Fin 4) (i : Nat) (credit : Int) {cover : Nat}
    (within : cover ≤ (s.stream i).avail) : s.Upholds (s.serveVisit l k i credit cover) := by
  refine (s.upholds_modStream i _ fun sound => ⟨?_, sound.2⟩).trans <|
    .ite (fun _ => (upholds_modStream _ i _).trans (upholds_leaveLists _ i)) (fun _ => upholds_moveToTail _ l k i)
  have planned := sound.1
  rw [StreamEntry.avail] at within
  dsimp only
  omega

theorem coverOf_le (u : LaneSetup) (A g : Nat) : coverOf u A g ≤ A := Nat.min_le_left _ _

theorem upholds_visit (d : Draft) (k : Fin 4) (i : Nat) : s.Upholds (s.visit d k i) := by
  unfold State.visit
  dsimp only
  split
  · exact s.upholds_skipVisit _ _ _ _
  · exact (s.upholds_serveVisit _ _ _ _ (coverOf_le _ _ _)).trans (upholds_modDraft _ _)

theorem upholds_visitNext : s.Upholds s.visitNext := by
  refine s.upholds_atStage _ fun d => ?_
  split
  · exact s.upholds_setDraft _
  · exact (s.upholds_setDraft _).trans <| (upholds_buildReadStream _ _).trans <| (upholds_buildReadOwner _ _).trans <|
      (Upholds.ite (fun _ => upholds_visit _ _ _ _) fun _ => .refl _).trans (upholds_modDraft _ _)

theorem upholds_choosePending (i : Nat) : s.Upholds (s.choosePending i) := by
  unfold State.choosePending
  split
  · exact .refl s
  · exact .ite (fun _ => .refl s) fun _ =>
      (s.upholds_buildReadStream i).trans (.ite (fun _ => upholds_modDraft _ _) (fun _ => .refl _))

theorem upholds_selectPending : s.Upholds s.selectPending :=
  s.upholds_atStage _ fun _ => (Upholds.foldl upholds_choosePending _ s).trans (upholds_modDraft _ _)

/-! ### Build completion (R140, R141) -/

theorem upholds_queuePlan (p : Plan) : s.Upholds (s.queuePlan p) :=
  (s.upholds_setQueue _).trans <| (upholds_raiseRefs _ _ _).trans <| (upholds_mapNotices _ _ _).trans <|
    .foldl (fun s t => s.upholds_modStation t _) _ _

theorem upholds_discardPlan (p : Plan) : s.Upholds (s.discardPlan p) :=
  (s.upholds_restoreData _).trans (upholds_mapNotices _ _ _)

theorem upholds_settleNamed (d : Draft) : s.Upholds (s.settleNamed d) :=
  (Upholds.foldl upholds_settleStation _ s).trans (.foldl upholds_settleStream _ _)

theorem upholds_completeBuild : s.Upholds s.completeBuild :=
  s.upholds_atStage _ fun _ => (s.upholds_setDraft none).trans <|
    (Upholds.ite (fun _ => upholds_queuePlan _ _) fun _ => upholds_discardPlan _ _).trans <|
      (upholds_settleNamed _ _).trans (upholds_settleDraining _ _)

/-! ### Transmit start (R144 to R147) -/

/-- Demand and planned bytes fall together (R89). -/
theorem upholds_commitData (d : DataTurn) : s.Upholds (s.commitData d) :=
  (s.upholds_checkStream .link _).trans <|
    upholds_modStream _ _ _ fun sound => ⟨Nat.sub_le_sub_right sound.1 _, (Nat.sub_le _ _).trans sound.2⟩

theorem upholds_commitStreams (p : Plan) : s.Upholds (s.commitStreams p) :=
  (Upholds.foldl upholds_commitData p.data s).trans (.foldl (fun s i => s.upholds_modStream i _) _ _)

theorem upholds_commitNotice (n : Notice) : s.Upholds (s.commitNotice n) :=
  .ite (fun _ => (s.upholds_checkStation .link _).trans (upholds_modStation _ _ _)) (fun _ => .refl s)

theorem upholds_commitNotices (p : PlanRecord) : s.Upholds (s.commitNotices p) :=
  (s.upholds_modLane p.lane _).trans (.foldl upholds_commitNotice _ _)

theorem upholds_judgeLate (r : PlanRecord) (M : Int) : s.Upholds (s.judgeLate r M) :=
  .ite (fun _ => .ite (fun _ => .refl s) fun _ => (s.upholds_modLane _ _).trans (upholds_raise _ _))
    (fun _ => s.upholds_modLane _ _)

theorem upholds_reportSlips (r : PlanRecord) (n : Nat) (lowest : Option Nat) : s.Upholds (s.reportSlips r n lowest) :=
  .ite (fun _ => s.upholds_raise _) (fun _ => .refl s)

theorem upholds_setSending (r : Option PlanRecord) : s.Upholds { s with link := { s.link with sending := r } } := .of_sparse rfl

theorem upholds_commit (p : Plan) (M : Int) : s.Upholds (s.commit p M) :=
  (s.upholds_commitStreams p).trans <| (upholds_commitNotices _ p.record).trans <|
    (upholds_pushHistory _ p.record.lane p.entry).trans <| (upholds_modLane _ p.record.lane _).trans <|
    (upholds_judgeLate _ p.record M).trans <| (upholds_reportSlips _ p.record _ _).trans (upholds_setSending _ _)

theorem upholds_loseCadence (l : LaneId) (i : Nat) : s.Upholds (State.loseCadence l s i) :=
  (s.upholds_modStream i _).trans (upholds_count _ l _)

theorem upholds_drop (p : Plan) (M : Int) : s.Upholds (s.drop p M) :=
  (s.upholds_restoreData p.data).trans <| (Upholds.foldl (fun s i => s.upholds_loseCadence _ i) p.cadence _).trans <|
    (upholds_clearMarks _ p.record).trans <| (upholds_lowerRefs _ _ _).trans <| (upholds_modLane _ p.record.lane _).trans <|
    (upholds_raise _ _).trans <| (upholds_reportSlips _ p.record _ _).trans (upholds_faultIfDue _ _)

theorem upholds_startTransmit : s.Upholds s.startTransmit := by
  unfold State.startTransmit
  split
  · exact .ite (fun _ => (s.upholds_setQueue _).trans <|
      (Upholds.ite (fun _ => upholds_drop _ _ _) fun _ => upholds_commit _ _ _).trans (upholds_settleDraining _ _)) fun _ =>
        .refl s
  · exact .refl s

end Sys2Proof.Machine.State
end

section
/-! PROOFS. Every command upholds the invariants, and so does every step. -/

namespace Sys2Proof.Machine

namespace State

variable (s : State)

/-! ### Tables at their reset contents (R161, R172) -/

theorem upholds_setPort (p : ControlPort) : s.Upholds { s with port := p } := .of_sparse rfl

theorem upholds_clearTables : s.Upholds s.clearTables where
  tables _ := ⟨rfl, rfl, rfl, rfl, rfl⟩
  words := id
  demand _ _ h := absurd h List.not_mem_nil

/-- The tables hold their reset contents, and no memory test is in progress. -/
theorem Upholds.of_reset {s t : State} (h : t.sparse = State.reset.sparse) : s.Upholds t :=
  have fresh := (upholds_clearTables State.reset).trans (.of_sparse h)
  ⟨fun _ => fresh.tables reset_tablesCanonical, fun _ => fresh.words reset_testWordsCanonical,
    fun _ => fresh.demand fun _ listed => absurd listed List.not_mem_nil⟩

theorem upholds_restarted (cause : Cause) (pin : Bool) : s.Upholds (s.restarted cause pin) := .of_reset rfl

theorem upholds_completeClearing : s.Upholds s.completeClearing := by
  unfold State.completeClearing
  split
  · exact s.upholds_clearTables.trans <| (upholds_setPort _ _).trans (upholds_raise _ _)
  iterate 3
    exact .refl s

/-! ### The Integrity Unit -/

theorem upholds_idle : s.Upholds s.idle := by
  rw [State.idle_memTest]
  refine ⟨id, fun hs m hm => ?_, id⟩
  obtain ⟨m, test, rfl⟩ := Option.mem_map.1 hm
  exact m.access_wf (hs m test)

theorem upholds_setScrub (c : Option Scrub) : s.Upholds { s with integrity := { s.integrity with scrub := c } } := .of_sparse rfl

theorem upholds_endScrub : s.Upholds s.endScrub := by
  unfold State.endScrub
  split
  · exact .refl s
  · exact (s.upholds_setScrub none).trans (upholds_raise _ _)

theorem upholds_scrubOne : s.Upholds s.scrubOne := by
  unfold State.scrubOne
  split
  · exact .refl s
  · split
    · exact (s.upholds_checkStation .scrub _).trans (upholds_setScrub _ _)
    · exact .ite (fun _ => (s.upholds_checkStream .scrub _).trans (upholds_setScrub _ _))
        (fun _ => (s.upholds_checkStream .scrub _).trans (upholds_endScrub _))

theorem refreshPart_sparse : s.refreshPart.sparse = s.sparse := by
  rw [State.refreshPart_eq]
  rfl

theorem upholds_endMemoryTest (m : Option Mismatch) : s.Upholds (State.endMemoryTest m s) :=
  .ite (fun _ => .of_reset (by rw [refreshPart_sparse]; rfl)) (fun _ => .refl s)

/-! ### Frames (R163, R164) -/

theorem upholds_armGate (h : BitVec 16) : s.Upholds (s.armGate h) :=
  .ite (fun _ => s.upholds_setPort _) fun _ => .ite (fun _ => s.upholds_setPort _) fun _ => s.upholds_setPort _

theorem upholds_reportOverrun : s.Upholds s.reportOverrun :=
  .ite (fun _ => (s.upholds_setPort _).trans (upholds_raise _ _)) (fun _ => .refl s)

theorem upholds_deliver (o : Outgoing) (n : Nat) : s.Upholds (s.deliver o n) := by
  refine .ite (fun _ => .refl s) fun _ => ?_
  split
  · exact .refl s
  · dsimp only
    split
    · exact (s.upholds_setPort _).trans (upholds_armGate _ _)
    · exact s.upholds_setPort _
  · exact (s.upholds_setPort _).trans (upholds_reportOverrun _)

theorem upholds_beginFrame : s.Upholds s.beginFrame := by
  unfold State.beginFrame
  split
  · exact .refl s
  · exact s.upholds_setPort _

theorem upholds_endHoldoff : s.Upholds s.endHoldoff := .ite (fun _ => s.upholds_setPort _) (fun _ => .refl s)

theorem upholds_queueReply (kind reference : Byte) (o : ReqOutcome) (body : ReplyBody) :
    s.Upholds (s.queueReply kind reference o body) := s.upholds_setPort _

theorem upholds_frameEnd (n : Nat) {take : State → State} (h : ∀ s : State, s.Upholds (take s)) :
    s.Upholds (State.frameEnd n take s) := by
  unfold State.frameEnd
  split
  · exact .refl s
  · exact (s.upholds_deliver _ n).trans <| (h _).trans (.of_sparse rfl)

theorem upholds_unlessLost (kind reference : Byte) {go : State → State} (h : s.Upholds (go s)) :
    s.Upholds (State.unlessLost kind reference go s) := .ite (fun _ => s.upholds_raise _) (fun _ => h)

theorem upholds_takeRequest (kind reference : Byte) {own : State → Answer} (h : s.Upholds (own s).state) :
    s.Upholds (State.takeRequest kind reference own s) := by
  have answered : s.Upholds (s.answer kind reference own) := h.trans (upholds_queueReply _ _ _ _ _)
  refine s.upholds_unlessLost kind reference ?_
  split
  · exact s.upholds_queueReply _ _ _ _
  · exact .ite (fun _ => answered) (fun _ => s.upholds_queueReply _ _ _ _)
  · exact answered
  · exact answered

/-! ### The rules of the requests -/

theorem Upholds.carriedOut {s t : State} {body : ReplyBody} (h : s.Upholds t) : s.Upholds (carryOut body t).state := h

theorem upholds_laneSetupRule (b : LaneSetupBody) : s.Upholds (laneSetupRule b s).state := by
  unfold laneSetupRule
  split
  · exact .refl s
  · split
    · exact .refl s
    · split
      · exact .refl s
      · exact .of_sparse rfl

theorem upholds_startLane (l : LaneId) : s.Upholds (s.startLane l) :=
  (s.upholds_clearHistory l).trans <| (upholds_emptyNotices _ l).trans <| (upholds_modLane _ l _).trans <|
    (upholds_setClaim _ l _).trans <| (upholds_setRx _ l _).trans <|
    (Upholds.foldl (fun s i => s.upholds_modStream i _) _ _).trans <|
    (upholds_resumeAll _ l).trans (upholds_setLaneState _ l _)

theorem upholds_laneStartRule (lane : Byte) : s.Upholds (laneStartRule lane s).state := by
  unfold laneStartRule
  split
  · exact .refl s
  · dsimp only
    split_ifs
    iterate 4
      exact .refl s
    exact .carriedOut (s.upholds_startLane _)

theorem upholds_stopLive (l : LaneId) : s.Upholds (s.stopLive l) :=
  (s.upholds_setLaneState l _).trans <| (upholds_withdraw _ l).trans <| (upholds_rehomeAll _ l).trans (upholds_settleDraining _ l)

theorem upholds_stopFaulted (l : LaneId) : s.Upholds (s.stopFaulted l) :=
  (s.upholds_setLaneState l _).trans <| (upholds_modLane _ l _).trans (upholds_raise _ _)

theorem upholds_laneStopRule (lane : Byte) : s.Upholds (laneStopRule lane s).state := by
  unfold laneStopRule
  split
  · exact .refl s
  · split
    · exact .carriedOut (s.upholds_stopLive _)
    · exact .carriedOut (s.upholds_stopFaulted _)
    · exact .refl s
    · exact .refl s

theorem upholds_laneReadRule (lane : Byte) : s.Upholds (laneReadRule lane s).state := by
  unfold laneReadRule
  split <;> exact .refl s

theorem upholds_claimSetupRule (b : ClaimSetupBody) : s.Upholds (claimSetupRule b s).state := by
  unfold claimSetupRule
  split
  · exact .refl s
  · split
    · exact .refl s
    · exact .carriedOut (s.upholds_replaceClaim _ _)

theorem upholds_setPart (p : PartSettings) : s.Upholds (s.setPart p) := by
  have settings : s.Upholds { s with align := { s.align with settings := p } } := .of_sparse rfl
  exact .ite (fun _ => settings.trans (.foldl (fun s t => s.upholds_modStation t _) _ _)) (fun _ => settings)

theorem upholds_partSetupRule (b : PartSetupBody) : s.Upholds (partSetupRule b s).state := by
  unfold partSetupRule
  split
  · exact .refl s
  · exact .carriedOut (s.upholds_setPart _)

theorem upholds_scrubRule : s.Upholds (scrubRule s).state := by
  unfold scrubRule
  split
  · exact .refl s
  · exact .carriedOut (s.upholds_setScrub _)

/-- A memory test begins with no word written (R160). -/
theorem upholds_memoryTestRule : s.Upholds (memoryTestRule s).state := by
  unfold memoryTestRule
  split_ifs
  iterate 3
    exact .refl s
  refine ⟨id, fun _ m hm => ?_, id⟩
  obtain rfl := Option.some.inj hm
  rfl

/-! ### The rules of the station requests -/

theorem upholds_onStation (tag : BitVec 16) {own : Nat → State → Answer} (h : ∀ t (s : State), s.Upholds (own t s).state) :
    s.Upholds (onStation tag own s).state := by
  unfold onStation
  split
  · exact .refl s
  · dsimp only
    split
    · exact s.upholds_checkStation .request _
    · exact (s.upholds_checkStation .request _).trans (h _ _)

theorem upholds_fitStream (m : LaneSet) (i : Nat) : s.Upholds (State.fitStream m s i) := by
  unfold State.fitStream
  dsimp only
  split
  · exact .ite (fun _ => s.upholds_removeStream i) fun _ =>
      (s.upholds_modStream i _).trans (Relisted.leaveLanes _ i _).upholds
  · exact .ite (fun _ => .refl s) (fun _ => s.upholds_removeStream i)

theorem upholds_placeHome (t : Nat) (m : LaneSet) : s.Upholds (s.placeHome t m) :=
  .ite (fun _ => .refl s) fun _ => (s.upholds_modStation t _).trans (.ite (fun _ => .refl _) fun _ => upholds_rehome _ t)

theorem admitHome_eq (t : Nat) (m : LaneSet) : s.admitHome t m =
    match ((s.placeHome t m).station t).paused, (s.placeHome t m).lowestLive m with
    | true, some l => (s.placeHome t m).resumeOn t l
    | _, _ => s.placeHome t m := rfl

theorem upholds_admitHome (t : Nat) (m : LaneSet) : s.Upholds (s.admitHome t m) := by
  rw [admitHome_eq]
  split
  · exact (s.upholds_placeHome t m).trans (upholds_resumeOn _ t _)
  · exact s.upholds_placeHome t m

theorem upholds_prepared (t : Nat) (clear : Bool) : s.Upholds (s.prepared t clear) :=
  .ite (fun _ => (s.upholds_tidyRefs t).trans (upholds_clearStreams _ t)) (fun _ => s.upholds_tidyRefs t)

theorem upholds_activated (t : Nat) : s.Upholds (s.activated t) :=
  .ite (fun _ => (s.upholds_modStation t _).trans (upholds_relistStreams _ t)) (fun _ => .refl s)

theorem upholds_admission (t : Nat) (m : LaneSet) (clear : Bool) : s.Upholds (s.admission t m clear).1 := by
  rw [State.admission_eq]
  exact (s.upholds_prepared t clear).trans <| (upholds_modStation _ t _).trans <|
    (Upholds.foldl (fun s i => s.upholds_fitStream m i) _ _).trans <| (upholds_admitHome _ t m).trans <|
    (upholds_modStation _ t _).trans (upholds_activated _ t)

theorem upholds_admitOwn (m : LaneSet) (clear : Bool) (t : Nat) : s.Upholds (admitOwn m clear t s).state := by
  unfold admitOwn
  split
  iterate 3
    split
    · exact .refl s
    · exact .carriedOut (s.upholds_admission t m clear)
  exact .refl s

theorem upholds_holdOwn (t : Nat) : s.Upholds (holdOwn t s).state := by
  unfold holdOwn
  split
  · exact .carriedOut ((s.upholds_tidyRefs t).trans <| (upholds_modStation _ t _).trans (upholds_unlistStreams _ t))
  · exact .refl s

theorem upholds_resumeOwn (t : Nat) : s.Upholds (resumeOwn t s).state := by
  unfold resumeOwn
  split
  · exact .carriedOut ((s.upholds_tidyRefs t).trans <| (upholds_modStation _ t _).trans (upholds_relistStreams _ t))
  · exact .refl s

theorem upholds_releaseOwn (t : Nat) : s.Upholds (releaseOwn t s).state := by
  unfold releaseOwn
  split
  · exact .refl s
  · exact .carriedOut (s.upholds_release t _)

theorem upholds_stationReadRule (first : BitVec 16) (count : Byte) : s.Upholds (stationReadRule first count s).state := by
  unfold stationReadRule
  split
  · exact .refl s
  · split
    · exact .refl s
    · exact .carriedOut (.foldl (fun s t => s.upholds_checkStation .request t) _ s)

/-! ### The rules of the stream requests -/

/-- Clamped fields written over an entry leave its demand (R80). -/
theorem demandSound_withFields {e : StreamEntry} (h : e.DemandSound) (k : StreamKind) (f : StreamFields) (l : LaneId) :
    (e.withFields k f l).DemandSound := by
  cases k <;> exact h

theorem upholds_recordShare (i : Nat) (l : LaneId) (share : Nat) : s.Upholds (s.recordShare i l share) :=
  (s.upholds_setShareSum l _).trans (upholds_setReserved _ i _)

/-- The entry that STREAM_ADD writes (R79). -/
def addedEntry (t : Nat) (slot : Fin 8) (k : StreamKind) (f : StreamFields) (l : LaneId) : StreamEntry :=
  let e := { StreamEntry.free with state := .inUse, owner := some (t, slot) }.withFields k f l
  if k = .cadenced then { e with N := firstNominal (s.nextUnbuilt l) e.c e.phase } else e

/-- STREAM_ADD's writes of the two tables, before a share is recorded. -/
def enterStream (i t : Nat) (slot : Fin 8) (k : StreamKind) (f : StreamFields) (l : LaneId) : State :=
  ((s.leaveLists i).putStream i (s.addedEntry t slot k f l)).modStation t fun e => { e with refs := e.refs.set slot (some i) }

theorem addedEntry_nominal (t : Nat) (slot : Fin 8) (k : StreamKind) (f : StreamFields) (l : LaneId) : s.addedEntry t slot k f l =
    { { StreamEntry.free with state := .inUse, owner := some (t, slot) }.withFields k f l with
      N := (s.addedEntry t slot k f l).N } := by
  unfold addedEntry
  dsimp only
  split <;> rfl

theorem addStream_eq (i t : Nat) (slot : Fin 8) (k : StreamKind) (f : StreamFields) (l : LaneId) : s.addStream i t slot k f l =
    if k = .cadenced then (s.enterStream i t slot k f l).recordShare i l (askedShare k f) else s.enterStream i t slot k f l := rfl

theorem upholds_enterStream (i t : Nat) (slot : Fin 8) (k : StreamKind) (f : StreamFields) (l : LaneId) :
    s.Upholds (s.enterStream i t slot k f l) := by
  have fresh : ({ StreamEntry.free with state := .inUse, owner := some (t, slot) } : StreamEntry).DemandSound :=
    ⟨Nat.le_refl 0, Nat.zero_le _⟩
  refine (s.upholds_leaveLists i).trans <| (upholds_putStream _ i _ fun _ => ?_).trans (upholds_modStation _ t _)
  rw [addedEntry_nominal]
  exact demandSound_withFields fresh k f l

theorem upholds_addStream (i t : Nat) (slot : Fin 8) (k : StreamKind) (f : StreamFields) (l : LaneId) :
    s.Upholds (s.addStream i t slot k f l) := by
  rw [addStream_eq]
  exact .ite (fun _ => (s.upholds_enterStream i t slot k f l).trans (upholds_recordShare _ i l _))
    fun _ => s.upholds_enterStream i t slot k f l

theorem upholds_streamAddRule (tag : BitVec 16) (slot : Byte) (f : StreamFields) :
    s.Upholds (streamAddRule tag slot f s).state := by
  unfold streamAddRule
  split
  · rename_i t k _ _
    have read := s.upholds_checkStation .request t
    dsimp only
    by_cases inRange : slot.toNat < 8
    · rw [dif_pos inRange]
      repeat' split
      · exact .refl s
      iterate 6
        exact read
      all_goals exact .carriedOut (read.trans (upholds_addStream _ _ _ _ _ _ _))
    · rw [dif_neg inRange]
      exact .refl s
  · exact .refl s

theorem Relisted.reclass (s : State) (i : Nat) (old new : Fin 4) (l : LaneId) : s.Relisted (State.reclass i old new s l) := by
  unfold State.reclass
  split
  · exact (setList s l old _).trans (joinList _ l new i)
  · exact refl s

theorem Relisted.replaceLists (s : State) (i : Nat) (old : StreamEntry) : s.Relisted (s.replaceLists i old) := by
  have reclassed : s.Relisted (if (s.stream i).cls = old.cls then s else
      allLanes.foldl (State.reclass i old.cls (s.stream i).cls) s) := by
    split
    · exact refl s
    · exact foldl (fun s l => Relisted.reclass s i _ _ l) _ s
  refine reclassed.trans <| (leaveLanes _ i _).trans (foldl (fun s l => ?_) _ _)
  split
  · exact joinList s l _ i
  · exact refl s

theorem upholds_replaceCadence (i : Nat) (old : StreamEntry) : s.Upholds (s.replaceCadence i old) :=
  (s.upholds_dropShare i).trans <| (upholds_recordShare _ i _ _).trans <|
    .ite (fun _ => .refl _) (fun _ => upholds_modStream _ i _)

theorem upholds_changeStream (i : Nat) (k : StreamKind) (f : StreamFields) (l : LaneId) :
    s.Upholds (s.changeStream i k f l) := by
  have wrote := s.upholds_modStream i (fun e => e.withFields k f l) fun sound => demandSound_withFields sound k f l
  cases k with
  | bidding => exact wrote.trans (Relisted.replaceLists _ i _).upholds
  | cadenced => exact wrote.trans (upholds_replaceCadence _ i _)

theorem upholds_checkOwner (i : Nat) : s.Upholds (s.checkOwner i) := by
  unfold State.checkOwner
  split
  · exact .ite (fun _ => s.upholds_checkStation .request _) (fun _ => .refl s)
  · exact .refl s

/-- The lane's share sum without the share of the stream, where that is charged to the lane (R80). -/
def sumWithout (i : Nat) (l : LaneId) : Nat :=
  if (s.reservedOf i).lane = l then s.shareSum l - (s.reservedOf i).amount else s.shareSum l

/-- Checks 6 and 7 of R80 for an owner of the lane set, and the change. -/
def changeWithin (i : Nat) (k : StreamKind) (f : StreamFields) (own : LaneSet) : Answer :=
  match s.laneRefusal k f own with
  | some r => refuse r s
  | none =>
    if s.overCap k ((fieldLane k f).getD 0) (s.sumWithout i ((fieldLane k f).getD 0)) (askedShare k f) then refuse .noRoom s
    else
      carryOut (.streamChange ((s.changeStream i k f ((fieldLane k f).getD 0)).stream i))
        (s.changeStream i k f ((fieldLane k f).getD 0))

theorem changeOwn_eq (i : Nat) (k : StreamKind) (f : StreamFields) : changeOwn i k f s =
    if ((s.checkOwner i).ownerEntry i).state.servable = false then refuse .badState (s.checkOwner i)
    else (s.checkOwner i).changeWithin i k f ((s.checkOwner i).ownerEntry i).laneSet := rfl

theorem upholds_changeWithin (i : Nat) (k : StreamKind) (f : StreamFields) (own : LaneSet) :
    s.Upholds (s.changeWithin i k f own).state := by
  unfold changeWithin
  split
  · exact .refl s
  · split
    · exact .refl s
    · exact .carriedOut (s.upholds_changeStream i k f _)

theorem upholds_changeOwn (i : Nat) (k : StreamKind) (f : StreamFields) : s.Upholds (changeOwn i k f s).state := by
  have read := s.upholds_checkOwner i
  rw [changeOwn_eq]
  split
  · exact read
  · exact read.trans (upholds_changeWithin _ i k f _)

theorem upholds_streamChangeRule (index : BitVec 16) (f : StreamFields) : s.Upholds (streamChangeRule index f s).state := by
  unfold streamChangeRule
  split
  · exact .refl s
  · rename_i k _
    have read := s.upholds_checkStream .request index.toNat
    dsimp only
    split
    · exact .refl s
    · split
      iterate 4
        exact read
      split
      · exact read
      · exact read.trans (upholds_changeOwn _ _ k f)

theorem upholds_streamRemoveRule (index : BitVec 16) : s.Upholds (streamRemoveRule index s).state := by
  have read := s.upholds_checkStream .request index.toNat
  have owned := read.trans (upholds_checkOwner _ index.toNat)
  unfold streamRemoveRule
  dsimp only
  split
  · exact .refl s
  · split
    · exact read
    · exact read
    · split
      · exact owned
      · exact .carriedOut (owned.trans (upholds_removeStream _ _))

theorem upholds_streamReadRule (first : BitVec 16) (count : Byte) : s.Upholds (streamReadRule first count s).state := by
  unfold streamReadRule
  split
  · exact .refl s
  · exact .carriedOut (.foldl (fun s i => s.upholds_checkStream .request i) _ s)

/-! ### Reception records -/

theorem upholds_admitRecord (h : RecordHead) (bad : Bool) {go : State → State} (hgo : ∀ s : State, s.Upholds (go s)) :
    s.Upholds (State.admitRecord h bad go s) :=
  .ite (fun _ => (s.upholds_setRx _ _).trans (.ite (fun _ => upholds_setRx _ _ _) fun _ => hgo _)) fun _ => s.upholds_setRx _ _

theorem upholds_checkTag (h : RecordHead) (w : BitVec 16) {go : State → State} (hgo : s.Upholds (go s)) :
    s.Upholds (State.checkTag h w go s) := .ite (fun _ => hgo) (fun _ => s.upholds_setRx _ _)

theorem upholds_matchHistory (h : RecordHead) {own : HistEntry → State → State} (hown : ∀ e, s.Upholds (own e s)) :
    s.Upholds (State.matchHistory h own s) := by
  unfold State.matchHistory
  split
  · exact hown _
  · exact s.upholds_setRx _ _

/-- A bid raises demand to no more than its ceiling (R84, R86). -/
theorem upholds_applyBid (i seq amount : Nat) : s.Upholds (s.applyBid i seq amount) :=
  .ite (fun _ => s.upholds_modStream i _) fun _ =>
    (s.upholds_modStream i _ fun sound => ⟨Nat.le_min.2 ⟨sound.1.trans (Nat.le_add_right _ _), sound.1.trans sound.2⟩,
      Nat.min_le_right _ _⟩).trans (.ite (fun _ => upholds_joinLists _ i) (fun _ => .refl _))

theorem upholds_takeBid (l : LaneId) (t : Nat) (slot : Fin 8) (seq amount : Nat) : s.Upholds (s.takeBid l t slot seq amount) := by
  refine (s.upholds_checkStation .record t).trans (.ite (fun _ => upholds_count _ l _) fun _ => ?_)
  split
  · exact upholds_count _ l _
  · exact .ite (fun _ => upholds_count _ l _) fun _ => (upholds_checkStream _ .record _).trans <|
      .ite (fun _ => (upholds_applyBid _ _ _ _).trans (upholds_count _ l _)) (fun _ => upholds_count _ l _)

theorem upholds_refuseJoin (l : LaneId) (a : HwAddr) (r : JoinRefusal) : s.Upholds (s.refuseJoin l a r) :=
  (s.upholds_discardResult l).trans (upholds_raise _ _)

theorem upholds_newJoin (l : LaneId) (h : HistEntry) (a : HwAddr) (t : Nat) (et ep : Int) : s.Upholds (s.newJoin l h a t et ep) :=
  (Upholds.of_sparse rfl : s.Upholds { s with stations := { s.stations with
      freeTags := s.stations.freeTags.tail, joinMap := s.stations.joinMap ++ [(a, t)] } }).trans <|
    (upholds_putStation _ t _).trans <| (upholds_setDueNow _ t).trans <| (upholds_modLane _ l _).trans <|
    (upholds_modHistory _ l h.seq _).trans (upholds_raise _ _)

theorem upholds_rejoin (l : LaneId) (h : HistEntry) (a : HwAddr) (t : Nat) (et ep : Int) : s.Upholds (s.rejoin l h a t et ep) :=
  (s.upholds_modStation t _).trans <| (upholds_tidyRefs _ t).trans <| (upholds_clearStreams _ t).trans <|
    (upholds_setDueNow _ t).trans <| (upholds_modLane _ l _).trans <| (upholds_modHistory _ l h.seq _).trans (upholds_raise _ _)

theorem upholds_joinRecord (l : LaneId) (h : HistEntry) (a : HwAddr) (et ep : Int) (quality : Nat) :
    s.Upholds (s.joinRecord l h a et ep quality) := by
  refine .ite (fun _ => s.upholds_discardResult l) fun _ => ?_
  split
  · exact (s.upholds_checkStation .record _).trans <| .ite (fun _ => upholds_refuseJoin _ l a _) fun _ =>
      .ite (fun _ => upholds_refuseJoin _ l a _) fun _ => upholds_rejoin _ l h a _ et ep
  · refine .ite (fun _ => s.upholds_refuseJoin l a _) fun _ => ?_
    split
    · exact s.upholds_refuseJoin l a _
    · exact .ite (fun _ => s.upholds_refuseJoin l a _) fun _ => s.upholds_newJoin l h a _ et ep

end State

/-! ### The commands -/

/-- The command's next state upholds the invariants. -/
def OutcomeUpholds (s : State) (o : Host.Outcome State Fault Refusal) : Prop := ∀ t, o = .next t → s.Upholds t

section
variable (s : State)

theorem State.upholds_unlessReset {f : State → State} (h : s.Upholds (f s)) : OutcomeUpholds s (s.unlessReset f) := by
  rintro t ⟨⟩
  exact .ite (fun _ => .refl s) (fun _ => h)

theorem State.upholds_frame (n : Nat) {take : State → State} (h : ∀ s : State, s.Upholds (take s)) :
    OutcomeUpholds s (s.unlessReset (State.frameEnd n take)) :=
  s.upholds_unlessReset (s.upholds_frameEnd n h)

theorem State.upholds_request (kind : Byte) (len : Nat) (req : Req) {own : State → Answer}
    (h : ∀ s : State, s.Upholds (own s).state) : OutcomeUpholds s (s.request kind len req own) :=
  s.upholds_frame _ fun s => s.upholds_takeRequest kind req.reference (h s)

/-- A stage that writes the draft alone. -/
theorem State.upholds_stage (st : Stage) (f : Draft → Draft) :
    OutcomeUpholds s (s.unlessReset fun s => s.atStage st fun d => s.setDraft (some (f d))) :=
  s.upholds_unlessReset (f := fun s => s.atStage st fun d => s.setDraft (some (f d)))
    (s.upholds_atStage st fun _ => s.upholds_setDraft _)

theorem upholds_exec (c : Instr) : OutcomeUpholds s (exec c s) := by
  cases c with
  | plantTimeCount => exact s.upholds_unlessReset (f := fun s => { s with now := _, align := _ }) (.of_sparse rfl)
  | resetAssert =>
    rintro t ⟨⟩
    exact s.upholds_restarted _ _
  | resetRelease =>
    rintro t ⟨⟩
    exact .ite (fun _ => s.upholds_restarted _ _) (fun _ => .refl s)
  | startingClearingCompletes => exact s.upholds_unlessReset s.upholds_completeClearing
  | frameStart => exact s.upholds_unlessReset s.upholds_beginFrame
  | noneFrame extra => exact s.upholds_frame _ .refl
  | headerIncomplete bytes => exact s.upholds_frame _ .refl
  | malformedRequest kind reference bodyLen frameBytes =>
    refine s.upholds_frame _ fun s => ?_
    split
    · exact s.upholds_unlessLost kind reference (s.upholds_queueReply _ _ _ _)
    · exact .refl s
  | laneSetup req body => exact s.upholds_request _ _ req fun s => s.upholds_laneSetupRule body
  | laneStart req lane => exact s.upholds_request _ _ req fun s => s.upholds_laneStartRule lane
  | laneStop req lane => exact s.upholds_request _ _ req fun s => s.upholds_laneStopRule lane
  | laneRead req lane => exact s.upholds_request _ _ req fun s => s.upholds_laneReadRule lane
  | claimSetup req body => exact s.upholds_request _ _ req fun s => s.upholds_claimSetupRule body
  | partSetup req body => exact s.upholds_request _ _ req fun s => s.upholds_partSetupRule body
  | stationAdmit req body =>
    exact s.upholds_request _ _ req fun s => s.upholds_onStation _ fun t s => s.upholds_admitOwn _ _ t
  | stationHold req tag => exact s.upholds_request _ _ req fun s => s.upholds_onStation tag fun t s => s.upholds_holdOwn t
  | stationResume req tag => exact s.upholds_request _ _ req fun s => s.upholds_onStation tag fun t s => s.upholds_resumeOwn t
  | stationRelease req tag => exact s.upholds_request _ _ req fun s => s.upholds_onStation tag fun t s => s.upholds_releaseOwn t
  | stationRead req first count => exact s.upholds_request _ _ req fun s => s.upholds_stationReadRule first count
  | streamAdd req tag slot fields => exact s.upholds_request _ _ req fun s => s.upholds_streamAddRule tag slot fields
  | streamChange req index fields => exact s.upholds_request _ _ req fun s => s.upholds_streamChangeRule index fields
  | streamRemove req index => exact s.upholds_request _ _ req fun s => s.upholds_streamRemoveRule index
  | streamRead req first count => exact s.upholds_request _ _ req fun s => s.upholds_streamReadRule first count
  | scrub req => exact s.upholds_request _ _ req State.upholds_scrubRule
  | memoryTest req => exact s.upholds_request _ _ req State.upholds_memoryTestRule
  | attentionArm req h => exact s.upholds_request _ _ req .refl
  | fetch req => exact s.upholds_request _ _ req .refl
  | restart req => exact s.upholds_frame _ fun s => s.upholds_restarted _ _
  | receptionFrameShort port frameLen => exact s.upholds_unlessReset (.refl s)
  | receptionUnknownKind head kind => exact s.upholds_unlessReset (s.upholds_admitRecord head _ .refl)
  | bid head tagWord slot seq amount source =>
    exact s.upholds_unlessReset <| s.upholds_admitRecord head _ fun s => s.upholds_checkTag head tagWord <|
      s.upholds_matchHistory head fun _ => s.upholds_takeBid _ _ _ _ _
  | tally head offered clean collided empty =>
    exact s.upholds_unlessReset <| s.upholds_admitRecord head _ fun s =>
      s.upholds_matchHistory head fun e => s.upholds_takeTally _ e _ _ _
  | resultTagged head form tagWord et ep quality =>
    exact s.upholds_unlessReset <| s.upholds_admitRecord head _ fun s => s.upholds_checkTag head tagWord <|
      s.upholds_matchHistory head fun e => s.upholds_alignmentRecord _ e _ _
  | resultAddressForm head addr et ep quality =>
    exact s.upholds_unlessReset <| s.upholds_admitRecord head _ fun s =>
      s.upholds_matchHistory head fun e => s.upholds_joinRecord _ e addr _ _ _
  | noShow head tagWord =>
    exact s.upholds_unlessReset <| s.upholds_admitRecord head _ fun s => s.upholds_checkTag head tagWord <|
      s.upholds_matchHistory head fun e => s.upholds_alignmentRecord _ e _ _
  | mark head => exact s.upholds_unlessReset (s.upholds_admitRecord head _ .refl)
  | spanHandover lane => exact s.upholds_unlessReset (s.upholds_handOver lane)
  | spanSkip lane span => exact s.upholds_unlessReset (s.upholds_expireSpan lane span)
  | buildBegin => exact s.upholds_unlessReset s.upholds_takeSpan
  | stageA1CadencedWalk => exact s.upholds_unlessReset s.upholds_walkCadenced
  | stageA2AlignmentTurns => exact s.upholds_stage _ _
  | stageA3OpenWindow => exact s.upholds_stage _ _
  | stageBClaimFloor => exact s.upholds_stage _ _
  | stageCVisit => exact s.upholds_unlessReset s.upholds_visitNext
  | stageDLeftoverClaims => exact s.upholds_stage _ _
  | pendingSelection => exact s.upholds_unlessReset s.upholds_selectPending
  | buildCompletion => exact s.upholds_unlessReset s.upholds_completeBuild
  | planExpiry lane seq => exact s.upholds_unlessReset (s.upholds_setQueue _)
  | framerReady level =>
    rintro t ⟨⟩
    exact .of_sparse rfl
  | transmitStart => exact s.upholds_unlessReset s.upholds_startTransmit
  | transmitEnd => exact s.upholds_unlessReset (f := fun s => { s with link := _ }) (s.upholds_setSending none)
  | coveredUntilExpiry lane => exact s.upholds_unlessReset (s.upholds_endCovered lane)
  | maintenanceDue tag => exact s.upholds_unlessReset (s.upholds_becomeDue _)
  | holdoffExpiry => exact s.upholds_unlessReset s.upholds_endHoldoff
  | scrubStep => exact s.upholds_unlessReset s.upholds_scrubOne
  | memoryTestEnd mismatch => exact s.upholds_unlessReset (s.upholds_endMemoryTest mismatch)

/-- The step runs the command at the front of the queue, or idles. -/
theorem upholds_step : OutcomeUpholds s (step s) := by
  unfold step
  split
  · rintro t ⟨⟩
    exact s.upholds_idle
  · rename_i c rest _
    exact fun t h => (State.Upholds.of_sparse rfl : s.Upholds (s.withPending rest)).trans (upholds_exec _ c t h)

end

end Sys2Proof.Machine

open Sys2Proof Sys2Proof.Machine

/-- Settles O57: `upholds_exec` goes through the commands, each made of operations that uphold the invariants. -/
theorem everyStepKeepsPlannedBytesWithinDemand : Obligations.EveryStepKeepsPlannedBytesWithinDemand := fun s t h =>
  have upheld := upholds_step s t h
  ⟨upheld.tables, upheld.words, upheld.demand⟩
end

section
/-! PROOFS. BID (R85, R86): the branches of its checks, and what an accepted bid writes. -/

namespace Sys2Proof.Machine

/-! ### Stream entries and service lists -/

/-- The states agree but for the stream entries, the service lists and the note of the joins. -/
def State.Restreamed (s t : State) : Prop :=
  t = { s with streams := { s.streams with
    entries := t.streams.entries, service := t.streams.service, joined := t.streams.joined } }

namespace State.Restreamed

variable {s t u : State}

theorem trans (h : s.Restreamed t) (k : t.Restreamed u) : s.Restreamed u := by
  unfold State.Restreamed at *
  rw [k, h]

theorem putStream (s : State) (i : Nat) (e : StreamEntry) : s.Restreamed (s.putStream i e) := rfl

theorem modStream (s : State) (i : Nat) (f : StreamEntry → StreamEntry) : s.Restreamed (s.modStream i f) := rfl

theorem of_relisted (h : s.Relisted t) : s.Restreamed t := by
  unfold State.Restreamed
  rw [h]

end State.Restreamed

theorem State.stream_modStream_same {s : State} (hs : s.tablesCanonical) (i : Nat) (f : StreamEntry → StreamEntry) :
    (s.modStream i f).stream i = (f (s.stream i)).seal :=
  (s.stream_modStream i i f hs.2.1).trans (if_pos rfl)

theorem State.stream_modStream_other {s : State} (hs : s.tablesCanonical) {i j : Nat} (f : StreamEntry → StreamEntry)
    (h : j ≠ i) : (s.modStream i f).stream j = s.stream j :=
  (s.stream_modStream i j f hs.2.1).trans (if_neg h)

/-! ### The bid applied (R86) -/

/-- The entry of a stream after a new bid. -/
def StreamEntry.bidden (seq amount : Nat) (e : StreamEntry) : StreamEntry :=
  { e with D := min (e.D + amount) Config.demandMax, lastBid := some seq }

section
variable {s : State} {i seq amount : Nat}

theorem State.applyBid_repeated (last : (s.stream i).lastBid = some seq) :
    s.applyBid i seq amount = s.modStream i fun e => { e with relist := true } := if_pos last

/-- A new bid is written, and the stream joins its lists where its available demand rises from 0 for an ACTIVE owner. -/
theorem State.applyBid_new (last : (s.stream i).lastBid ≠ some seq) : s.applyBid i seq amount =
    if (s.stream i).avail = 0 ∧ 0 < ((s.modStream i (StreamEntry.bidden seq amount)).stream i).avail ∧
        s.ownerIs ((s.modStream i (StreamEntry.bidden seq amount)).stream i) .active
    then (s.modStream i (StreamEntry.bidden seq amount)).joinLists i
    else s.modStream i (StreamEntry.bidden seq amount) := if_neg last

variable (seq amount) in
theorem State.applyBid_restreamed (s : State) (i : Nat) : s.Restreamed (s.applyBid i seq amount) := by
  by_cases last : (s.stream i).lastBid = some seq
  · rw [State.applyBid_repeated last]
    exact .modStream s i _
  · rw [State.applyBid_new last]
    have wrote := State.Restreamed.modStream s i (StreamEntry.bidden seq amount)
    split
    · exact wrote.trans (.of_relisted (.joinLists _ i))
    · exact wrote

theorem State.stream_applyBid_new (last : (s.stream i).lastBid ≠ some seq) (j : Nat) :
    (s.applyBid i seq amount).stream j = (s.modStream i (StreamEntry.bidden seq amount)).stream j := by
  rw [State.applyBid_new last]
  split
  · exact (State.Relisted.joinLists _ i).stream j
  · rfl

variable (hs : s.tablesCanonical)
include hs

theorem State.stream_applyBid_other {j : Nat} (h : j ≠ i) : (s.applyBid i seq amount).stream j = s.stream j := by
  by_cases last : (s.stream i).lastBid = some seq
  · rw [State.applyBid_repeated last, State.stream_modStream_other hs _ h]
  · rw [State.stream_applyBid_new last, State.stream_modStream_other hs _ h]

/-- Available demand that rises from 0 puts the stream of an ACTIVE owner on its class list of every lane of its set. -/
theorem State.applyBid_joins {k : Nat} {slot : Fin 8} (last : (s.stream i).lastBid ≠ some seq)
    (owner : (s.stream i).owner = some (k, slot)) (active : (s.station k).state = .active)
    (exhausted : (s.stream i).D ≤ (s.stream i).G) (raised : (s.stream i).G < min ((s.stream i).D + amount) Config.demandMax)
    {l : LaneId} (lane : inSet (s.stream i).laneSet l = true) : i ∈ (s.applyBid i seq amount).list l (s.stream i).cls := by
  have entry := State.stream_modStream_same hs i (StreamEntry.bidden seq amount)
  have owned : s.ownerIs ((s.stream i).bidden seq amount).seal .active = true := by
    have same : ((s.stream i).bidden seq amount).seal.owner = some (k, slot) := owner
    rw [State.ownerIs, same]
    exact decide_eq_true active
  rw [State.applyBid_new last, if_pos ⟨Nat.sub_eq_zero_of_le exhausted, by rw [entry]; exact Nat.sub_pos_of_lt raised,
    by rw [entry]; exact owned⟩, State.mem_joinLists, entry]
  exact .inr ⟨rfl, lane, rfl⟩

/-- With available demand before the bid, or an owner that is not ACTIVE, the stream stays where it stands. -/
theorem State.service_applyBid {k : Nat} {slot : Fin 8} (last : (s.stream i).lastBid ≠ some seq)
    (owner : (s.stream i).owner = some (k, slot))
    (stays : (s.stream i).G < (s.stream i).D ∨ (s.station k).state ≠ .active) :
    (s.applyBid i seq amount).streams.service = s.streams.service := by
  have entry := State.stream_modStream_same hs i (StreamEntry.bidden seq amount)
  rw [State.applyBid_new last, if_neg]
  · rfl
  rintro ⟨exhausted, -, owned⟩
  have same : ((s.stream i).bidden seq amount).seal.owner = some (k, slot) := owner
  rw [entry, State.ownerIs, same] at owned
  rcases stays with available | idle
  · exact absurd exhausted (Nat.sub_pos_of_lt available).ne'
  · exact idle (of_decide_eq_true owned)

end

/-! ### The checks of a bid (R85) -/

section
variable {s : State} {l : LaneId} {t i seq amount : Nat} {slot : Fin 8} (checks : (s.station t).checks = true)
include checks

theorem State.takeBid_unserved (active : (s.station t).state ≠ .active) (held : (s.station t).state ≠ .held) :
    s.takeBid l t slot seq amount = s.discardBid l := by
  simp [State.takeBid, s.checkStation_passes _ _ checks, active, held]

theorem State.takeBid_absent (absent : (s.station t).refs[slot] = none) :
    s.takeBid l t slot seq amount = s.discardBid l := by
  simp only [State.takeBid, s.checkStation_passes _ _ checks, absent, ite_self]

variable (served : (s.station t).state = .active ∨ (s.station t).state = .held) (ref : (s.station t).refs[slot] = some i)
  (inside : i < 8192) (checks' : (s.stream i).checks = true)
include served ref inside checks'

/-- A stream that is not an IN_USE bidding one of that owner and slot. -/
theorem State.takeBid_otherStream
    (other : ¬((s.stream i).state = .inUse ∧ (s.stream i).kind = .bidding ∧ (s.stream i).owner = some (t, slot))) :
    s.takeBid l t slot seq amount = s.discardBid l := by
  have inTable : ¬Config.streams ≤ i := Nat.not_le.2 inside
  simp only [State.takeBid, s.checkStation_passes _ _ checks, served, ref, not_true, if_false, inTable,
    s.checkStream_passes _ _ checks', other]

theorem State.takeBid_accepted (inUse : (s.stream i).state = .inUse) (bidding : (s.stream i).kind = .bidding)
    (owner : (s.stream i).owner = some (t, slot)) : s.takeBid l t slot seq amount =
      (s.applyBid i seq amount).count l fun k => { k with bidsAccepted := raiseBy 1 k.bidsAccepted } := by
  have inTable : ¬Config.streams ≤ i := Nat.not_le.2 inside
  simp only [State.takeBid, s.checkStation_passes _ _ checks, served, ref, not_true, if_false, inTable,
    s.checkStream_passes _ _ checks', inUse, bidding, owner, and_self, if_true]

end

/-- A well-formed BID that passes its checks goes to the stream its tag and slot name. -/
theorem exec_bid {s : State} {h : RecordHead} {w : BitVec 16} {slot seq source : Byte} {amount : BitVec 32} {t : Nat} {sl : Fin 8}
    {E : HistEntry} (pin : s.resetPin = false) (isOpen : s.laneOpen h.port = true)
    (wellFormed : (Instr.bid h w slot seq amount source).recordMalformed = false) (passes : tagCheckPasses w = true)
    (matched : s.historyEntry h.port h.planSeq = some E) (tag : tagOfTagWord w = t) (slotByte : slot.toNat = sl.val) :
    exec (.bid h w slot seq amount source) s = .next ((s.seen h).takeBid h.port t sl seq.toNat amount.toNat) := by
  have slotIs : slotOf slot = sl := Fin.ext (by simp [slotOf, slotByte, Nat.mod_eq_of_lt sl.isLt])
  have run : exec (.bid h w slot seq amount source) s = .next (State.admitRecord h
      (Instr.bid h w slot seq amount source).recordMalformed (State.checkTag h w (State.matchHistory h fun _ s =>
        s.takeBid h.port (tagOfTagWord w) (slotOf slot) seq.toNat amount.toNat)) s) := s.unlessReset_free _ pin
  rw [run, wellFormed, State.admitRecord_matched isOpen passes matched, tag, slotIs]

end Sys2Proof.Machine

open Sys2Proof Sys2Proof.Machine

/-- Settles O40: `exec_bid` gives the record to `takeBid`, whose branches are the cases, and `applyBid`'s lemmas say what an
accepted bid does. -/
theorem bidRaisesDemandOrRelists : Obligations.BidRaisesDemandOrRelists := by
  intro s h w slot seq source amount t sl pin hs isOpen wellFormed passes matched tag slotByte checks
  obtain ⟨E, matched⟩ := Option.isSome_iff_exists.1 matched
  have canonical : (s.seen h).tablesCanonical := hs
  have discards : (s.seen h).discardBid h.port =
      (s.seen h).count h.port fun k => { k with bidsDiscarded := min (k.bidsDiscarded + 1) 4294967295 } := rfl
  dsimp only
  rw [exec_bid pin isOpen wellFormed passes matched tag slotByte, ← discards]
  refine ⟨fun active held => ?_, fun absent => ?_, fun i served ref inside checks' => ⟨fun other => ?_,
    fun inUse bidding owner => ?_⟩⟩
  · rw [State.takeBid_unserved (s := s.seen h) checks active held]
  · rw [State.takeBid_absent (s := s.seen h) checks absent]
  · rw [State.takeBid_otherStream (s := s.seen h) checks served ref inside checks' other]
  · rw [State.takeBid_accepted (s := s.seen h) checks served ref inside checks' inUse bidding owner]
    have restreamed := State.applyBid_restreamed seq.toNat amount.toNat (s.seen h) i
    have entry := State.stream_modStream_same canonical i
    refine ⟨_, rfl, ?_, fun j hj => State.stream_applyBid_other (s := s.seen h) canonical hj, fun last => ?_,
      fun last => ⟨?_, fun exhausted raised active l lane => ?_, fun stays => ?_⟩⟩
    · generalize (s.seen h).applyBid i seq.toNat amount.toNat = u at restreamed
      rw [restreamed]
      rfl
    · rw [State.applyBid_repeated (s := s.seen h) last]
      exact ⟨entry fun e => { e with relist := true }, rfl⟩
    · exact (State.stream_applyBid_new (s := s.seen h) last i).trans (entry _)
    · exact State.applyBid_joins (s := s.seen h) canonical last owner active exhausted raised lane
    · refine State.service_applyBid (s := s.seen h) canonical last owner (stays.imp_right fun held => ?_)
      exact fun active => nomatch held.symm.trans active
end

section
/-! PROOFS. STREAM_REMOVE (R81, R82, R156): the branches of its rule, and what the removal of one stream leaves. -/

namespace Sys2Proof.Machine

/-! ### Shares and share sums -/

section
variable {s t : State}

theorem State.shareSum_setShareSum (s : State) (l m : LaneId) (n : Nat) :
    (s.setShareSum l n).shareSum m = if m = l then n else s.shareSum m := by
  unfold State.shareSum State.setShareSum
  by_cases same : m = l
  · subst same
    simp
  · have other : (l : Nat) ≠ m := fun e => same (Fin.ext e.symm)
    simp [same, other]

theorem State.stream_dropShare (s : State) (i j : Nat) : (s.dropShare i).stream j = s.stream j := rfl

theorem State.Restreamed.reservedOf (h : s.Restreamed t) (i : Nat) : t.reservedOf i = s.reservedOf i := by
  rw [State.reservedOf, h, State.reservedOf]

theorem State.Restreamed.shareSums (h : s.Restreamed t) : t.streams.shareSums = s.streams.shareSums := by
  rw [h]

theorem State.Restreamed.shareSum (h : s.Restreamed t) (l : LaneId) : t.shareSum l = s.shareSum l := by
  rw [State.shareSum, h.shareSums, State.shareSum]

/-- The share given back is taken off the sum of the lane it was charged to. -/
theorem State.shareSum_dropShare (s : State) (i : Nat) (m : LaneId) :
    (s.dropShare i).shareSum m =
      if m = (s.reservedOf i).lane then s.shareSum (s.reservedOf i).lane - (s.reservedOf i).amount else s.shareSum m :=
  s.shareSum_setShareSum _ m _

end

/-! ### The stream taken out -/

theorem StreamEntry.seal_seal (e : StreamEntry) : e.seal.seal = e.seal := rfl

theorem StreamEntry.seal_free : StreamEntry.free.seal = StreamEntry.free := by
  rw [StreamEntry.free, StreamEntry.seal_seal]

/-- The steps of a removal behind the owner's reference. -/
def State.takeOut (s : State) (i : Nat) : State := (s.stripStream i).retireStream i

/-- What the removal of stream `i` leaves: it stands on no list, its share is given back, and it is RETIRING while a plan or the
draft names it, else FREE. -/
structure State.Removed (s t : State) (i : Nat) : Prop where
  lists : ∀ l : LaneId, t.onLane l i = false
  share : (t.reservedOf i).amount = 0
  sum : t.shareSum (s.reservedOf i).lane = s.shareSum (s.reservedOf i).lane - (s.reservedOf i).amount
  sums : ∀ m : LaneId, m ≠ (s.reservedOf i).lane → t.shareSum m = s.shareSum m
  freed : s.streamRefs i = 0 → s.draftNamesStream i = false → t.stream i = StreamEntry.free
  retired : 0 < s.streamRefs i ∨ s.draftNamesStream i = true →
    (t.stream i).state = .retiring ∧ (t.stream i).D = (s.stream i).G ∧ (t.stream i).G = (s.stream i).G ∧
      (t.stream i).credit = 0 ∧ (t.stream i).relist = false
  others : ∀ j, j ≠ i → t.stream j = s.stream j
  lanes : t.lanes = s.lanes
  refs : t.refs = s.refs
  builder : t.builder = s.builder
  port : t.port = s.port

/-- The owner's entry has no part in it. -/
theorem State.Removed.of_modStation {s t : State} {i k : Nat} {f : StationEntry → StationEntry}
    (h : (s.modStation k f).Removed t i) : s.Removed t i :=
  ⟨h.lists, h.share, h.sum, h.sums, h.freed, h.retired, h.others, h.lanes, h.refs, h.builder, h.port⟩

section
variable {s : State} (hs : s.tablesCanonical) (i : Nat)

/-- The entry with its credit and its relist flag cleared. -/
def StreamEntry.idled (e : StreamEntry) : StreamEntry := { e with credit := 0, relist := false }

/-- The stream off its lists, with its demand and its credit cleared. -/
def State.idleStream (s : State) (i : Nat) : State := ((s.leaveLists i).clearDemand i).modStream i StreamEntry.idled

theorem State.stripStream_eq (s : State) (i : Nat) : s.stripStream i = (s.idleStream i).dropShare i := rfl

theorem State.idleStream_restreamed (s : State) (i : Nat) : s.Restreamed (s.idleStream i) :=
  (State.Restreamed.of_relisted (.leaveLists s i)).trans <|
    (State.Restreamed.modStream _ i fun e => { e with D := e.G, credit := 0 }).trans <|
      (State.Restreamed.of_relisted (.leaveLists _ i)).trans (.modStream _ i _)

theorem State.freeStream_restreamed (s : State) (i : Nat) : s.Restreamed (s.freeStream i) :=
  (State.Restreamed.of_relisted (.leaveLists s i)).trans (.putStream _ i _)

theorem State.retireStream_restreamed (s : State) (i : Nat) : s.Restreamed (s.retireStream i) := by
  have wrote := State.Restreamed.modStream s i fun e => { e with state := .retiring }
  unfold State.retireStream State.settleStream
  split
  · exact wrote.trans (State.freeStream_restreamed _ i)
  · exact wrote

include hs

/-- What the steps before the last leave of the entry, beside its identity. -/
theorem State.stream_stripStream : ((s.stripStream i).stream i).D = (s.stream i).G ∧
    ((s.stripStream i).stream i).G = (s.stream i).G ∧ ((s.stripStream i).stream i).credit = 0 ∧
    ((s.stripStream i).stream i).relist = false := by
  have left := State.StreamWork.leaveLists hs 0 i
  have cleared := State.StreamWork.clearDemand left.canonical 0 i
  have entry : (s.stripStream i).stream i = (s.stream i).cleared.seal.idled.seal := by
    rw [State.stripStream_eq, State.stream_dropShare, State.idleStream, State.stream_modStream_same cleared.canonical,
      State.stream_clearDemand left.canonical, State.leaveLists_stream]
  rw [entry]
  generalize s.stream i = e
  exact ⟨rfl, rfl, rfl, rfl⟩

/-- The last step frees a stream that nothing names. -/
theorem State.stream_retireStream_free (unreferenced : s.streamRefs i = 0) (undrafted : s.draftNamesStream i = false) :
    (s.retireStream i).stream i = StreamEntry.free := by
  have retired := State.StreamWork.modStream hs 0 i fun e => { e with state := .retiring }
  have entry := State.stream_modStream_same hs i fun e => { e with state := .retiring }
  have left := State.StreamWork.leaveLists retired.canonical 0 i
  rw [State.retireStream, State.settleStream, if_pos ⟨by rw [entry]; rfl, unreferenced, undrafted⟩, State.freeStream,
    State.stream_putStream _ i i _ left.canonical.2.1, if_pos rfl, StreamEntry.seal_free]

/-- It leaves a stream that something names RETIRING. -/
theorem State.stream_retireStream_named (named : 0 < s.streamRefs i ∨ s.draftNamesStream i = true) :
    (s.retireStream i).stream i = { s.stream i with state := .retiring }.seal := by
  rw [State.retireStream, State.settleStream, if_neg]
  · exact State.stream_modStream_same hs i _
  rintro ⟨-, unreferenced, undrafted⟩
  rcases named with held | drafted
  · exact held.ne' unreferenced
  · exact Bool.noConfusion (drafted.symm.trans undrafted)

theorem State.takeOut_removed : s.Removed (s.takeOut i) i := by
  have work := State.stripStream_work hs 0 i
  have last := State.retireStream_restreamed (s.stripStream i) i
  have retired := State.StreamWork.modStream work.canonical 0 i fun e => { e with state := .retiring }
  have whole := work.trans (retired.trans (.settleStream retired.canonical 0 i))
  obtain ⟨share, lists⟩ := State.stripStream_at hs i
  obtain ⟨-, -, on⟩ := State.retireStream_at work.canonical i
  have idle := State.idleStream_restreamed s i
  have sum : ∀ m : LaneId, (s.takeOut i).shareSum m =
      if m = (s.reservedOf i).lane then s.shareSum (s.reservedOf i).lane - (s.reservedOf i).amount else s.shareSum m := by
    intro m
    rw [State.takeOut, last.shareSum, State.stripStream_eq, State.shareSum_dropShare, idle.reservedOf, idle.shareSum,
      idle.shareSum]
  have streamRefs : (s.stripStream i).streamRefs i = s.streamRefs i := by rw [State.streamRefs, work.refs, State.streamRefs]
  have draftNames : (s.stripStream i).draftNamesStream i = s.draftNamesStream i := by
    rw [State.draftNamesStream, work.builder, State.draftNamesStream]
  exact
    { lists := fun l => State.onLane_eq_false_iff.2 fun c h => lists l c (on l c h)
      share := by rw [State.takeOut, last.reservedOf, share]; rfl
      sum := by rw [sum, if_pos rfl]
      sums := fun m hm => by rw [sum, if_neg hm]
      freed := fun unreferenced undrafted =>
        State.stream_retireStream_free work.canonical i (streamRefs.trans unreferenced) (draftNames.trans undrafted)
      retired := fun named => by
        obtain ⟨demand, planned, credit, relist⟩ := State.stream_stripStream hs i
        rw [State.takeOut, State.stream_retireStream_named work.canonical i (by rwa [streamRefs, draftNames])]
        generalize (s.stripStream i).stream i = e at demand planned credit relist ⊢
        exact ⟨rfl, demand, planned, credit, relist⟩
      others := fun j hj => (whole.stream j (by simpa using hj)).entry
      lanes := whole.lanes
      refs := whole.refs
      builder := whole.builder
      port := whole.port }

end

/-! ### The owner of a stream for its removal (R156) -/

section
variable {s : State} {i k : Nat} {slot : Fin 8}

theorem State.ownerOf_of_leads (owner : (s.stream i).owner = some (k, slot)) (low : 1 ≤ k) (high : k ≤ 4095)
    (leads : s.slotStream k slot = some i) : s.ownerOf i = some (k, slot) := by
  simp [State.ownerOf, owner, leads, low, Config.stations, high]

theorem State.ownerOf_eq_none (elsewhere : ∀ (k : Nat) (slot : Fin 8), (s.stream i).owner = some (k, slot) → 1 ≤ k →
    k ≤ 4095 → s.slotStream k slot ≠ some i) : s.ownerOf i = none := by
  rw [State.ownerOf, Option.filter_eq_none_iff]
  rintro ⟨k, slot⟩ owner
  simp only [Bool.and_eq_true, decide_eq_true_eq, beq_iff_eq, not_and]
  exact fun range => elsewhere k slot owner range.1 range.2

theorem State.removeStream_owned (owner : s.ownerOf i = some (k, slot)) :
    s.removeStream i = (s.modStation k fun e => { e with refs := e.refs.set slot none }).takeOut i := by
  rw [State.removeStream_eq, State.dropReference, owner]
  rfl

theorem State.removeStream_ownerless (ownerless : s.ownerOf i = none) : s.removeStream i = s.takeOut i := by
  rw [State.removeStream_eq, State.dropReference, ownerless]
  rfl

theorem State.takeOut_stations (s : State) (i : Nat) : (s.takeOut i).stations = s.stations := by
  rw [State.takeOut, State.retireStream, State.settleStream_stations, State.modStream_stations, State.stripStream_stations]

/-- The owner's read leaves the state where the entry passes its check, or no entry is read. -/
theorem State.checkOwner_passes (checks : ∀ (k : Nat) (slot : Fin 8), (s.stream i).owner = some (k, slot) → 1 ≤ k →
    k ≤ 4095 → (s.station k).checks = true) : s.checkOwner i = s := by
  unfold State.checkOwner
  split
  · rename_i k slot owner
    split
    · rename_i range
      exact s.checkStation_passes _ _ (checks k slot owner range.1 range.2)
    · rfl
  · rfl

theorem State.ownerQuarantined_eq (owner : s.ownerOf i = some (k, slot)) :
    s.ownerQuarantined i = decide ((s.station k).state = .quarantined) := by
  rw [State.ownerQuarantined, owner]

theorem State.ownerQuarantined_ownerless (ownerless : s.ownerOf i = none) : s.ownerQuarantined i = false := by
  rw [State.ownerQuarantined, ownerless]

end

/-! ### The branches of the rule -/

section
variable {d : State} {index : BitVec 16}

theorem streamRemoveRule_badValue (above : 8191 < index.toNat) : streamRemoveRule index d = refuse .badValue d := if_pos above

variable (inside : index.toNat ≤ 8191) (checks : (d.stream index.toNat).checks = true)
include inside checks

theorem streamRemoveRule_unknownStream (gone : (d.stream index.toNat).state ∈ [StreamState.free, .retiring]) :
    streamRemoveRule index d = refuse .unknownStream d := by
  have inTable : ¬Config.streams ≤ index.toNat := Nat.not_le.2 (Nat.lt_succ_of_le inside)
  simp only [List.mem_cons, List.not_mem_nil, or_false] at gone
  rcases gone with gone | gone <;>
    simp only [streamRemoveRule, inTable, if_false, d.checkStream_passes _ _ checks, gone]

/-- An IN_USE or QUARANTINED stream reaches check 3, on its owner. -/
theorem streamRemoveRule_reaches (here : (d.stream index.toNat).state ∈ [StreamState.inUse, .quarantined])
    (owner : d.checkOwner index.toNat = d) : streamRemoveRule index d =
      if d.ownerQuarantined index.toNat then refuse .badState d
      else carryOut (.streamRemove ((d.removeStream index.toNat).stream index.toNat).state) (d.removeStream index.toNat) := by
  have inTable : ¬Config.streams ≤ index.toNat := Nat.not_le.2 (Nat.lt_succ_of_le inside)
  simp only [List.mem_cons, List.not_mem_nil, or_false] at here
  rcases here with here | here <;>
    simp only [streamRemoveRule, inTable, if_false, d.checkStream_passes _ _ checks, here, owner]

end

end Sys2Proof.Machine

open Sys2Proof Sys2Proof.Machine

/-- Settles O38: `takeOut_removed` says what the removal leaves; the owner's slot is the one write beside it. -/
theorem streamRemoveRetiresOrFrees : Obligations.StreamRemoveRetiresOrFrees := by
  rintro s d req index i h ho rfl
  have refused {o : ReqOutcome} (ans : streamRemoveRule index d = refuse o d) :=
    State.request_refused (kind := kindStreamRemove) (len := 2) h ho ans
  have done {t : State} {body : ReplyBody} (ans : streamRemoveRule index d = carryOut body t) :=
    State.request_done (kind := kindStreamRemove) (len := 2) h ho ans
  refine ⟨fun above => refused (streamRemoveRule_badValue above), fun inside checks =>
    ⟨fun gone => refused (streamRemoveRule_unknownStream inside checks gone), fun here hd =>
      ⟨fun k slot owner low high checks' leads => ?_, fun elsewhere => ?_⟩⟩⟩
  · have owns := State.ownerOf_of_leads owner low high leads
    have reaches := streamRemoveRule_reaches inside checks here <| State.checkOwner_passes fun k' slot' owner' _ _ => by
      obtain ⟨rfl, -⟩ := Prod.mk.inj (Option.some.inj (owner.symm.trans owner'))
      exact checks'
    rw [State.ownerQuarantined_eq owns] at reaches
    refine ⟨fun quarantined => refused (reaches.trans (if_pos (decide_eq_true quarantined))), fun sound => ?_⟩
    rw [decide_eq_false sound, if_neg Bool.false_ne_true] at reaches
    have hd' := State.modStation_canonical hd k fun e => { e with refs := e.refs.set slot none }
    obtain ⟨lists, share, sum, sums, freed, retired, others, lanes, refs, builder, port⟩ :=
      (State.takeOut_removed hd' index.toNat).of_modStation
    have stations := State.takeOut_stations (d.modStation k fun e => { e with refs := e.refs.set slot none }) index.toNat
    refine ⟨_, ⟨done reaches, ?_⟩, ?_⟩ <;> rw [State.removeStream_owned owns]
    · exact ⟨lists, share, sum, sums, freed, retired, others, lanes, refs, builder, port⟩
    · refine ⟨?_, fun j hj => ?_⟩
      · rw [State.station_of_stations stations, State.station_modStation_same hd]
        exact Vector.getElem_set_self ..
      · rw [State.station_of_stations stations, State.station_modStation_other hd k _ hj]
  · have ownerless := State.ownerOf_eq_none fun k slot owner low high => (elsewhere k slot owner low high).2
    have reaches := streamRemoveRule_reaches inside checks here <|
      State.checkOwner_passes fun k slot owner low high => (elsewhere k slot owner low high).1
    rw [State.ownerQuarantined_ownerless ownerless, if_neg Bool.false_ne_true] at reaches
    obtain ⟨lists, share, sum, sums, freed, retired, others, lanes, refs, builder, port⟩ :=
      State.takeOut_removed hd index.toNat
    refine ⟨_, ⟨done reaches, ?_⟩, ?_⟩ <;> rw [State.removeStream_ownerless ownerless]
    · exact ⟨lists, share, sum, sums, freed, retired, others, lanes, refs, builder, port⟩
    · exact State.takeOut_stations d index.toNat
end

section
/-! PROOFS. The PENDING selection (R96, R130): where every stream passes its check it writes the draft alone, and the draft's
choices are a prefix of the streams that a list may serve. -/

namespace Sys2Proof.Machine

/-! ### Names and sorted indices -/

theorem mem_addName {n m : Nat} {l : List Nat} : m ∈ addName n l ↔ m = n ∨ m ∈ l := by
  unfold addName
  split
  · rename_i on
    exact ⟨.inr, fun h => h.elim (fun e => e ▸ on) id⟩
  · rw [List.mem_append, List.mem_singleton, or_comm]

theorem mem_insertNat {n m : Nat} {l : List Nat} : m ∈ insertNat n l ↔ m = n ∨ m ∈ l := by
  induction l with
  | nil => rw [insertNat, List.mem_singleton, or_iff_left List.not_mem_nil]
  | cons k rest ih =>
    unfold insertNat
    split
    · rw [List.mem_cons]
    · rw [List.mem_cons, ih, List.mem_cons, or_left_comm]

theorem mem_sortNat {m : Nat} {l : List Nat} : m ∈ sortNat l ↔ m ∈ l := by
  induction l with
  | nil => exact .rfl
  | cons n rest ih => rw [sortNat, List.foldr_cons, mem_insertNat, List.mem_cons, ← ih, sortNat]

/-! ### One stream offered to the draft -/

/-- The build has read the stream. -/
def Draft.withRead (d : Draft) (i : Nat) : Draft :=
  if i ∈ d.readStreams then d else { d with readStreams := i :: d.readStreams }

/-- The draft with a PENDING notice for the stream of that owner. -/
def Draft.withPending (d : Draft) (c : PendingChoice) : Draft :=
  ({ d with pendings := d.pendings ++ [c] }.nameStation c.tag).nameStream c.stream

/-- The PENDING notice of a stream. -/
def State.choiceOf (s : State) (i : Nat) : PendingChoice :=
  let o := (s.stream i).owner.getD (0, 0)
  { stream := i, tag := o.1, slot := o.2.val }

/-- The draft after a stream on the lane's lists has been considered. -/
def State.offerTo (s : State) (d : Draft) (i : Nat) : Draft :=
  if Config.pendings ≤ d.pendings.length then d
  else if s.servable i then (d.withRead i).withPending (s.choiceOf i) else d.withRead i

section
variable {s : State} {d : Draft} {i : Nat}

theorem State.setDraft_self (draft : s.builder.draft = some d) : s.setDraft (some d) = s := by
  rw [State.setDraft, ← draft]

/-- The read of a stream that passes its check writes the draft alone. -/
theorem State.buildReadStream_setDraft (checks : (s.stream i).checks = true) :
    (s.setDraft (some d)).buildReadStream i = s.setDraft (some (d.withRead i)) := by
  have read : ((s.setDraft (some { d with readStreams := i :: d.readStreams })).stream i).checks = true := checks
  have unfolded : (s.setDraft (some d)).buildReadStream i = if i ∈ d.readStreams then s.setDraft (some d) else
    (s.setDraft (some { d with readStreams := i :: d.readStreams })).checkStream .build i := rfl
  rw [unfolded, State.checkStream_passes _ _ _ read, Draft.withRead]
  split <;> rfl

theorem State.choosePending_setDraft (checks : (s.stream i).checks = true) (on : s.onLane d.lane i = true) :
    (s.setDraft (some d)).choosePending i = s.setDraft (some (s.offerTo d i)) := by
  have lane : (d.withRead i).lane = d.lane := by
    unfold Draft.withRead
    split <;> rfl
  have unfolded : (s.setDraft (some d)).choosePending i = if Config.pendings ≤ d.pendings.length then s.setDraft (some d) else
    let u := (s.setDraft (some d)).buildReadStream i
    if u.onLane d.lane i && u.servable i then
      u.modDraft fun e => e.withPending (u.choiceOf i)
    else u := rfl
  rw [unfolded, State.buildReadStream_setDraft checks, State.offerTo]
  split
  · rfl
  · have test : ((s.setDraft (some (d.withRead i))).onLane d.lane i && (s.setDraft (some (d.withRead i))).servable i) =
        s.servable i := (congrArg (· && s.servable i) on).trans (Bool.true_and _)
    dsimp only
    rw [test]
    split <;> rfl

/-! ### What an offer keeps of the draft -/

/-- What the selection leaves of a draft as it was. -/
structure Draft.SameTurns (d e : Draft) : Prop where
  lane : e.lane = d.lane
  turns : e.turns = d.turns
  data : e.data = d.data
  notices : e.notices = d.notices

theorem Draft.SameTurns.trans {d e f : Draft} (h : d.SameTurns e) (k : e.SameTurns f) : d.SameTurns f :=
  ⟨k.lane.trans h.lane, k.turns.trans h.turns, k.data.trans h.data, k.notices.trans h.notices⟩

theorem Draft.withRead_sameTurns (d : Draft) (i : Nat) : d.SameTurns (d.withRead i) := by
  unfold Draft.withRead
  split <;> exact ⟨rfl, rfl, rfl, rfl⟩

theorem Draft.withPending_sameTurns (d : Draft) (c : PendingChoice) : d.SameTurns (d.withPending c) := ⟨rfl, rfl, rfl, rfl⟩

theorem State.offerTo_sameTurns (s : State) (d : Draft) (i : Nat) : d.SameTurns (s.offerTo d i) := by
  unfold State.offerTo
  split
  · exact ⟨rfl, rfl, rfl, rfl⟩
  · split
    · exact (d.withRead_sameTurns i).trans (Draft.withPending_sameTurns _ _)
    · exact d.withRead_sameTurns i

theorem Draft.withRead_pendings (d : Draft) (i : Nat) : (d.withRead i).pendings = d.pendings := by
  unfold Draft.withRead
  split <;> rfl

theorem Draft.withRead_named (d : Draft) (i : Nat) : (d.withRead i).namedStreams = d.namedStreams ∧
    (d.withRead i).namedStations = d.namedStations := by
  unfold Draft.withRead
  split <;> exact ⟨rfl, rfl⟩

/-- Every stream with a PENDING notice, and its station, is named by the draft (R117). -/
def Draft.NamesPendings (d : Draft) : Prop := ∀ c ∈ d.pendings, c.stream ∈ d.namedStreams ∧ c.tag ∈ d.namedStations

theorem Draft.NamesPendings.withPending (h : d.NamesPendings) (c : PendingChoice) : (d.withPending c).NamesPendings := by
  intro b hb
  have named : (d.withPending c).namedStreams = addName c.stream d.namedStreams ∧
    (d.withPending c).namedStations = addName c.tag d.namedStations := ⟨rfl, rfl⟩
  rw [named.1, named.2, mem_addName, mem_addName]
  rcases List.mem_append.1 hb with old | new
  · exact ⟨.inr (h b old).1, .inr (h b old).2⟩
  · rw [List.mem_singleton.1 new]
    exact ⟨.inl rfl, .inl rfl⟩

theorem Draft.NamesPendings.offerTo (h : d.NamesPendings) (s : State) (i : Nat) : (s.offerTo d i).NamesPendings := by
  have read : (d.withRead i).NamesPendings := by
    obtain ⟨streams, stations⟩ := d.withRead_named i
    rwa [Draft.NamesPendings, d.withRead_pendings, streams, stations]
  unfold State.offerTo
  split
  · exact h
  · split
    · exact read.withPending _
    · exact read

end

/-! ### The walk over the order of R96 -/

section
variable {s : State}

/-- Each stream of the lane's lists is offered in turn. -/
theorem State.foldl_choosePending {l : LaneId} (checks : ∀ i, (s.stream i).checks = true) {is : List Nat}
    (on : ∀ i ∈ is, s.onLane l i = true) {d : Draft} (lane : d.lane = l) :
    is.foldl State.choosePending (s.setDraft (some d)) = s.setDraft (some (is.foldl s.offerTo d)) := by
  induction is generalizing d with
  | nil => rfl
  | cons i rest ih =>
    rw [List.foldl_cons, List.foldl_cons, State.choosePending_setDraft (checks i) (lane ▸ on i List.mem_cons_self)]
    exact ih (fun j hj => on j (List.mem_cons_of_mem _ hj)) ((s.offerTo_sameTurns d i).lane.trans lane)

theorem State.foldl_offerTo_sameTurns (s : State) (is : List Nat) (d : Draft) : d.SameTurns (is.foldl s.offerTo d) :=
  List.foldlRecOn is s.offerTo ⟨rfl, rfl, rfl, rfl⟩ fun e h i _ => h.trans (s.offerTo_sameTurns e i)

theorem Draft.NamesPendings.foldl_offerTo {d : Draft} (h : d.NamesPendings) (s : State) (is : List Nat) :
    (is.foldl s.offerTo d).NamesPendings :=
  List.foldlRecOn is s.offerTo h fun _ h i _ => h.offerTo s i

/-- Those chosen are the first that a list may serve, up to 48 in all. -/
theorem State.foldl_offerTo_pendings (s : State) (is : List Nat) (d : Draft) : (is.foldl s.offerTo d).pendings =
    d.pendings ++ ((is.filter s.servable).take (Config.pendings - d.pendings.length)).map s.choiceOf := by
  induction is generalizing d with
  | nil => simp
  | cons i rest ih =>
    rw [List.foldl_cons, ih, State.offerTo]
    by_cases full : Config.pendings ≤ d.pendings.length
    · simp [full]
    · by_cases servable : s.servable i = true
      · have room : Config.pendings - d.pendings.length = Config.pendings - (d.pendings.length + 1) + 1 := by omega
        have chosen : ((d.withRead i).withPending (s.choiceOf i)).pendings = d.pendings ++ [s.choiceOf i] :=
          congrArg (· ++ [s.choiceOf i]) (d.withRead_pendings i)
        simp only [full, servable, if_true, if_false, chosen, List.filter_cons, List.length_append, List.length_singleton, room,
          List.take_succ_cons, List.map_cons, List.append_assoc, List.singleton_append]
      · simp [full, servable, d.withRead_pendings]

/-- The streams of the order of R96 stand on a list of the lane. -/
theorem State.onLane_of_mem_pendingOrder {d : Draft} {i : Nat} (h : i ∈ s.pendingOrder d) : s.onLane d.lane i = true := by
  simp only [State.pendingOrder, List.mem_append, mem_sortNat, List.mem_filter, State.visitOrder, List.mem_map,
    List.mem_flatMap] at h
  obtain ⟨⟨⟨_, ⟨k, -, j, on, rfl⟩, rfl⟩, -⟩, -⟩ | ⟨⟨⟨_, ⟨k, -, j, on, rfl⟩, rfl⟩, -⟩, -⟩ := h <;>
    exact List.any_eq_true.2 ⟨k, mem_allClasses k, List.contains_iff_mem.2 on⟩

theorem State.visitOrder_map_snd (s : State) (l : LaneId) :
    (s.visitOrder l).map (·.2) = ([3, 2, 1, 0] : List (Fin 4)).flatMap fun k => s.list l k := by
  simp [State.visitOrder, allClasses, Function.comp_def]

theorem State.servable_eq (s : State) (i : Nat) :
    s.servable i = decide ((s.stream i).state = .inUse ∧ (s.stream i).kind = .bidding) := (Bool.decide_and _ _).symm

/-- The selection on a draft whose next stage it is. -/
theorem State.selectPending_eq {d : Draft} (draft : s.builder.draft = some d) (stage : d.stage = .notices)
    (checks : ∀ i, (s.stream i).checks = true) :
    s.selectPending = s.setDraft (some { (s.pendingOrder d).foldl s.offerTo d with stage := .complete }) := by
  have walked := State.foldl_choosePending checks (d := d) (fun i hi => State.onLane_of_mem_pendingOrder hi) rfl
  rw [State.setDraft_self draft] at walked
  rw [State.selectPending, State.atStage, draft]
  dsimp only
  rw [if_pos stage, walked]
  rfl

end

end Sys2Proof.Machine

open Sys2Proof Sys2Proof.Machine

/-- Settles O50: the selection offers each stream of R96's order to the draft, which takes those a list may serve up to 48. -/
theorem pendingSelectionChoosesUpTo48 : Obligations.PendingSelectionChoosesUpTo48 := by
  rintro s d q pin draft stage none_yet checks rfl
  have run : exec .pendingSelection s = .next s.selectPending := s.unlessReset_free _ pin
  have chosen := State.foldl_offerTo_pendings s (s.pendingOrder d) d
  have same := s.foldl_offerTo_sameTurns (s.pendingOrder d) d
  have start : d.NamesPendings := fun c hc => absurd (none_yet ▸ hc) List.not_mem_nil
  have named := start.foldl_offerTo s (s.pendingOrder d)
  rw [State.selectPending_eq draft stage checks] at run
  rw [none_yet, List.nil_append] at chosen
  generalize (s.pendingOrder d).foldl s.offerTo d = e at run chosen same named
  refine ⟨{ e with stage := .complete }, run, rfl, ?_, fun c hc t sl owner => ?_, named, same.turns, same.data, same.notices⟩
  · have streams : (PendingChoice.stream ∘ s.choiceOf) = id := rfl
    dsimp only
    rw [chosen, List.map_map, streams, List.map_id, State.pendingOrder, State.visitOrder_map_snd,
      funext s.servable_eq]
    rfl
  · dsimp only at hc
    rw [chosen] at hc
    obtain ⟨i, -, rfl⟩ := List.mem_map.1 hc
    have owner' : (s.stream i).owner = some (t, sl) := owner
    rw [State.choiceOf, owner']
    exact ⟨rfl, rfl⟩
end

section
/-! PROOFS. The fields of STREAM_ADD and STREAM_CHANGE: their ranges and clamps, the checks of the lanes, and the reserve cap
(R77 to R79). -/

namespace Sys2Proof.Machine

/-! ### Ranges and clamps (R78, R79) -/

theorem kindOfByte_bidding {x : Byte} (h : x = 1) : kindOfByte x = some .bidding := by
  rw [h]
  rfl

theorem kindOfByte_cadenced {x : Byte} (h : x = 2) : kindOfByte x = some .cadenced := by
  rw [h]
  rfl

theorem kindOfByte_other {x : Byte} (one : x ≠ 1) (two : x ≠ 2) : kindOfByte x = none := by
  have bidding : ¬x = StreamKind.bidding.code := one
  have cadenced : ¬x = StreamKind.cadenced.code := two
  rw [kindOfByte, if_neg bidding, if_neg cadenced]

/-- A field of the request is out of range. -/
def FieldsOutside (f : StreamFields) : Prop :=
  (f.kind ≠ 1 ∧ f.kind ≠ 2) ∨ 3 < f.cls.toNat ∨ (f.kind = 2 ∧ 255 < f.jitter.toNat)

theorem fieldsInRange_of_outside {f : StreamFields} (h : FieldsOutside f) : fieldsInRange f = false := by
  unfold fieldsInRange
  by_cases one : f.kind = 1
  · rcases h with ⟨other, -⟩ | cls | ⟨two, -⟩
    · exact absurd one other
    · rw [kindOfByte_bidding one]
      exact decide_eq_false (Nat.not_le.2 cls)
    · exact absurd (one.symm.trans two) (by decide)
  · by_cases two : f.kind = 2
    · rcases h with ⟨-, other⟩ | cls | ⟨-, jitter⟩
      · exact absurd two other
      · rw [kindOfByte_cadenced two]
        simp [cls]
      · rw [kindOfByte_cadenced two]
        simp [jitter]
    · rw [kindOfByte_other one two]

theorem fieldsInRange_of_inside {f : StreamFields} (h : ¬FieldsOutside f) : fieldsInRange f = true := by
  obtain ⟨kind, rest⟩ := not_or.1 h
  obtain ⟨cls, jitter⟩ := not_or.1 rest
  have small : f.cls.toNat ≤ 3 := Nat.not_lt.1 cls
  unfold fieldsInRange
  by_cases one : f.kind = 1
  · rw [kindOfByte_bidding one]
    exact decide_eq_true small
  · have two : f.kind = 2 := not_not.1 fun other => kind ⟨one, other⟩
    have short : f.jitter.toNat ≤ 255 := Nat.not_lt.1 fun long => jitter ⟨two, long⟩
    rw [kindOfByte_cadenced two]
    simp [small, short]

/-- A request with its fields in range has one of the two kinds. -/
theorem kind_of_inside {f : StreamFields} (h : ¬FieldsOutside f) : ∃ kind, kindOfByte f.kind = some kind := by
  by_cases one : f.kind = 1
  · exact ⟨_, kindOfByte_bidding one⟩
  · exact ⟨_, kindOfByte_cadenced (not_not.1 fun two => h (.inl ⟨one, two⟩))⟩

theorem inside_bidding {f : StreamFields} (kind : f.kind = 1) (cls : f.cls.toNat ≤ 3) : ¬FieldsOutside f := by
  rintro (⟨one, -⟩ | high | ⟨two, -⟩)
  · exact one kind
  · exact Nat.not_lt.2 cls high
  · exact absurd (kind.symm.trans two) (by decide)

theorem inside_cadenced {f : StreamFields} (kind : f.kind = 2) (cls : f.cls.toNat ≤ 3) (jitter : f.jitter.toNat ≤ 255) :
    ¬FieldsOutside f := by
  rintro (⟨-, two⟩ | high | ⟨-, long⟩)
  · exact two kind
  · exact Nat.not_lt.2 cls high
  · exact Nat.not_lt.2 jitter long

theorem cadenceOf_eq (f : StreamFields) : cadenceOf f = max (max 16 f.c.toNat) f.z.toNat := by
  have fits : f.c.toNat ≤ 65535 := Nat.le_of_lt_succ f.c.isLt
  rw [cadenceOf, clampN_eq _ (by decide), min_eq_left fits]

theorem maxTurnOf_eq (f : StreamFields) : clampN 1 255 f.maxTurn.toNat = max 1 f.maxTurn.toNat := by
  rw [clampN_eq _ (by decide), min_eq_left (Nat.le_of_lt_succ f.maxTurn.isLt)]

theorem weightOf_eq (f : StreamFields) : clampN 1 64 f.weight.toNat = max 1 (min f.weight.toNat 64) := clampN_eq _ (by decide)

/-- The entry with the fields of both kinds. -/
def StreamEntry.shared (e : StreamEntry) (f : StreamFields) : StreamEntry :=
  { e with cls := classOf f.cls, weight := max 1 (min f.weight.toNat 64), maxTurn := max 1 f.maxTurn.toNat
           fragmentable := f.fragmentable != 0 }

theorem StreamEntry.withFields_bidding (e : StreamEntry) (f : StreamFields) (l : LaneId) : e.withFields .bidding f l =
    { e.shared f with
      kind := .bidding, laneSet := f.laneSet, lane := 0, c := 16, z := 1, phase := 0, jitter := 0, N := 0 } := by
  rw [StreamEntry.shared, ← weightOf_eq, ← maxTurnOf_eq]
  rfl

theorem StreamEntry.withFields_cadenced (e : StreamEntry) (f : StreamFields) (l : LaneId) : e.withFields .cadenced f l =
    { e.shared f with
      kind := .cadenced, laneSet := 0, lane := l, c := max (max 16 f.c.toNat) f.z.toNat, z := f.z.toNat
      phase := f.phase.toNat % max (max 16 f.c.toNat) f.z.toNat, jitter := f.jitter.toNat } := by
  rw [StreamEntry.shared, ← weightOf_eq, ← maxTurnOf_eq, ← cadenceOf_eq]
  rfl

/-! ### The first nominal quantum (R79) -/

/-- The first nominal quantum lies the least distance ahead that leaves the remainder. -/
theorem firstNominal_least {u : Quantum} {c phase dist : Nat} (within : dist < c)
    (leaves : (u + BitVec.ofNat 32 dist).toNat % c = phase)
    (least : ∀ n, n < dist → (u + BitVec.ofNat 32 n).toNat % c ≠ phase) :
    firstNominal u c phase = u + BitVec.ofNat 32 dist := by
  have found : (List.range' 0 c).find? (fun d => (u + tu d).toNat % c == phase) = some dist := by
    refine List.find?_range'_eq_some.2 ⟨beq_iff_eq.2 leaves, List.mem_range'_1.2 ⟨Nat.zero_le _, by omega⟩, fun n _ hn => ?_⟩
    exact Bool.not_eq_true' _ ▸ beq_eq_false_iff_ne.2 (least n hn)
  rw [firstNominal, found]
  rfl

/-! ### The checks of the lanes (R78, R80) -/

section
variable {s : State} {f : StreamFields} {own : LaneSet}

theorem State.laneRefusal_bidding (bad : f.laneSet = 0 ∨ f.laneSet &&& own ≠ f.laneSet) :
    s.laneRefusal .bidding f own = some .badValue := by
  have unfolded : s.laneRefusal .bidding f own =
    if f.laneSet = 0 then some .badValue else if subsetOf f.laneSet own then none else some .badValue := rfl
  rw [unfolded]
  rcases bad with empty | outside
  · rw [if_pos empty]
  · rw [if_neg (c := subsetOf f.laneSet own = true) (by simpa [subsetOf] using outside), ite_self]

theorem State.laneRefusal_bidding_passes (nonempty : f.laneSet ≠ 0) (within : f.laneSet &&& own = f.laneSet) :
    s.laneRefusal .bidding f own = none := by
  have unfolded : s.laneRefusal .bidding f own =
    if f.laneSet = 0 then some .badValue else if subsetOf f.laneSet own then none else some .badValue := rfl
  rw [unfolded, if_neg nonempty, if_pos (by simpa [subsetOf] using within)]

/-- The checks of a cadenced request's lane. -/
theorem State.laneRefusal_cadenced_eq : s.laneRefusal .cadenced f own =
    match laneOfByte f.lane with
    | none => some .badValue
    | some l =>
      match (s.lane l).setup with
      | none => some .badState
      | some u => if f.z.toNat < u.P + 1 then some .badValue else if inSet own l then none else some .badValue := by
  unfold State.laneRefusal fieldLane
  cases laneOfByte f.lane <;> rfl

theorem State.laneRefusal_above (above : 7 < f.lane.toNat) : s.laneRefusal .cadenced f own = some .badValue := by
  rw [State.laneRefusal_cadenced_eq, laneOfByte_of_above above]

variable {l : LaneId} (lane : f.lane.toNat = l.val)
include lane

theorem fieldLane_cadenced : fieldLane .cadenced f = some l := laneOfByte_of_eq lane

theorem State.laneRefusal_unset (unset : (s.lane l).setup = none) : s.laneRefusal .cadenced f own = some .badState := by
  simp only [State.laneRefusal_cadenced_eq, laneOfByte_of_eq lane, unset]

variable {u : LaneSetup} (setup : (s.lane l).setup = some u)
include setup

theorem State.laneRefusal_setup : s.laneRefusal .cadenced f own =
    if f.z.toNat < u.P + 1 then some .badValue else if inSet own l then none else some .badValue := by
  simp only [State.laneRefusal_cadenced_eq, laneOfByte_of_eq lane, setup]

theorem State.laneRefusal_cadenced (bad : f.z.toNat < u.P + 1 ∨ inSet own l = false) :
    s.laneRefusal .cadenced f own = some .badValue := by
  rw [State.laneRefusal_setup lane setup]
  rcases bad with short | outside
  · rw [if_pos short]
  · rw [outside, if_neg Bool.false_ne_true, ite_self]

theorem State.laneRefusal_cadenced_passes (long : u.P + 1 ≤ f.z.toNat) (within : inSet own l = true) :
    s.laneRefusal .cadenced f own = none := by
  rw [State.laneRefusal_setup lane setup, if_neg (Nat.not_lt.2 long), if_pos within]

end

/-! ### The reserve cap (R77) -/

section
variable {s : State} {l : LaneId} {sum share : Nat}

theorem State.overCap_bidding : s.overCap .bidding l sum share = false := rfl

theorem State.setupOf_of_setup {u : LaneSetup} (setup : (s.lane l).setup = some u) : s.setupOf l = u := by
  rw [State.setupOf, setup]
  rfl

theorem State.overCap_cadenced {u : LaneSetup} (setup : (s.lane l).setup = some u) :
    s.overCap .cadenced l sum share = decide (u.Rc < sum + share) := by
  rw [State.overCap, State.setupOf_of_setup setup]
  rfl

/-- The share of a cadenced stream: ceil(z × 1024 / c). -/
theorem askedShare_cadenced (f : StreamFields) : askedShare .cadenced f =
    (f.z.toNat * 1024 + max (max 16 f.c.toNat) f.z.toNat - 1) / max (max 16 f.c.toNat) f.z.toNat := by
  rw [askedShare, cadenceOf_eq]
  rfl

/-- A stream of at least one quantum has a share. -/
theorem share_pos {z c : Nat} (size : 1 ≤ z) (cadence : 16 ≤ c) : (z * 1024 + c - 1) / c ≠ 0 :=
  (Nat.div_pos (by omega) (by omega)).ne'

theorem State.nextUnbuilt_eq {u : LaneSetup} (setup : (s.lane l).setup = some u) :
    s.nextUnbuilt l = (s.lane l).nextSpan * BitVec.ofNat 32 u.S := by
  rw [State.nextUnbuilt, State.setupOf_of_setup setup]
  rfl

/-- A share is recorded beside the stream, and its lane's sum rises by it. -/
theorem State.recordShare_spec (hs : s.tablesCanonical) (i : Nat) (positive : share ≠ 0) :
    (s.recordShare i l share).reservedOf i = { lane := l, amount := share } ∧
      (∀ j, j ≠ i → (s.recordShare i l share).reservedOf j = s.reservedOf j) ∧
      ∀ m, (s.recordShare i l share).shareSum m = if m = l then s.shareSum l + share else s.shareSum m := by
  have reserved : ∀ j, (s.recordShare i l share).reservedOf j =
      if j = i then { lane := l, amount := share } else s.reservedOf j := fun j => by
    rw [← if_neg (c := share = 0) (t := Reserved.none) (e := { lane := l, amount := share }) positive]
    exact Table.get_set _ i j _ _ hs.2.2.1
  exact ⟨(reserved i).trans (if_pos rfl), fun j hj => (reserved j).trans (if_neg hj), fun m => s.shareSum_setShareSum l m _⟩

theorem State.recordShare_tables (s : State) (i : Nat) (l : LaneId) (share : Nat) :
    (s.recordShare i l share).streams.entries = s.streams.entries ∧
      (s.recordShare i l share).streams.service = s.streams.service ∧
      (s.recordShare i l share).stations = s.stations := ⟨rfl, rfl, rfl⟩

end

end Sys2Proof.Machine
end

section
/-! PROOFS. STREAM_ADD (R78, R79): the branches of its rule, and what the entry of a new stream leaves. -/

namespace Sys2Proof.Machine

/-! ### A stream that stands on no list -/

section
variable {s : State} {i : Nat}

theorem State.setList_list (s : State) (l : LaneId) (c : Fin 4) : s.setList l c (s.list l c) = s := by
  simp [State.setList, State.list]

theorem State.leaveList_absent {l : LaneId} {c : Fin 4} (absent : i ∉ s.list l c) : s.leaveList l c i = s := by
  have kept : (s.list l c).filter (· ≠ i) = s.list l c := List.filter_eq_self.2 fun j on =>
    decide_eq_true fun same => absent (same ▸ on)
  rw [State.leaveList, kept, State.setList_list]

theorem State.onLane_of_streams {t : State} (h : t.streams = s.streams) (l : LaneId) : t.onLane l i = s.onLane l i := by
  simp only [State.onLane, State.list, h]

/-- A stream that stands on no list has none to leave. -/
theorem State.leaveLists_absent (absent : ∀ l : LaneId, s.onLane l i = false) : s.leaveLists i = s :=
  List.foldl_fixed' (fun l => List.foldl_fixed' (fun c =>
    State.leaveList_absent (State.onLane_eq_false_iff.1 (absent l) c)) allClasses) allLanes

end

/-! ### The entry of a new stream (R79) -/

/-- What the entry of stream `i` in the owner's slot leaves. -/
structure State.Entered (s t : State) (i k : Nat) (slot : Fin 8) : Prop where
  slots : (t.station k).refs = (s.station k).refs.set slot (some i)
  state : (t.station k).state = (s.station k).state
  stations : ∀ j, j ≠ k → t.station j = s.station j
  streams : ∀ j, j ≠ i → t.stream j = s.stream j ∧ t.reservedOf j = s.reservedOf j
  lists : ∀ l : LaneId, t.onLane l i = false
  service : (∀ l : LaneId, s.onLane l i = false) → t.streams.service = s.streams.service
  lanes : t.lanes = s.lanes
  refs : t.refs = s.refs
  port : t.port = s.port
  builder : t.builder = s.builder

section
variable {s : State} {i k : Nat} {slot : Fin 8} {kind : StreamKind} {f : StreamFields} {l : LaneId}

/-- The free values of the fields that one kind alone uses (R75). -/
theorem StreamEntry.free_unused : StreamEntry.free.kind = .bidding ∧ StreamEntry.free.laneSet = 0 ∧ StreamEntry.free.lane = 0 ∧
    StreamEntry.free.c = 16 ∧ StreamEntry.free.z = 1 ∧ StreamEntry.free.phase = 0 ∧ StreamEntry.free.jitter = 0 ∧
    StreamEntry.free.N = 0 := ⟨rfl, rfl, rfl, rfl, rfl, rfl, rfl, rfl⟩

/-- The fields of both kinds in a new stream's entry. -/
def StreamEntry.fresh (k : Nat) (slot : Fin 8) (f : StreamFields) : StreamEntry :=
  { StreamEntry.free with
    state := .inUse, owner := some (k, slot), cls := classOf f.cls, weight := max 1 (min f.weight.toNat 64),
    maxTurn := max 1 f.maxTurn.toNat, fragmentable := f.fragmentable != 0 }

theorem State.addedEntry_bidding :
    s.addedEntry k slot .bidding f l = { StreamEntry.fresh k slot f with laneSet := f.laneSet } := by
  simp only [State.addedEntry, StreamEntry.withFields_bidding, StreamEntry.shared, StreamEntry.fresh, StreamEntry.free_unused,
    reduceCtorEq, if_false]

theorem State.addedEntry_cadenced {u : LaneSetup} {c : Nat} (setup : (s.lane l).setup = some u)
    (cadence : c = max (max 16 f.c.toNat) f.z.toNat) : s.addedEntry k slot .cadenced f l =
    { StreamEntry.fresh k slot f with
      kind := .cadenced, lane := l, c := c, z := f.z.toNat, phase := f.phase.toNat % c, jitter := f.jitter.toNat
      N := firstNominal ((s.lane l).nextSpan * BitVec.ofNat 32 u.S) c (f.phase.toNat % c) } := by
  simp only [State.addedEntry, StreamEntry.withFields_cadenced, StreamEntry.shared, StreamEntry.fresh, StreamEntry.free_unused,
    if_true, State.nextUnbuilt_eq setup, cadence]

theorem State.enterStream_tables (s : State) (i k : Nat) (slot : Fin 8) (kind : StreamKind) (f : StreamFields) (l : LaneId) :
    s.enterStream i k slot kind f l = { s with
      stations := { s.stations with entries := (s.enterStream i k slot kind f l).stations.entries }
      streams := { s.streams with
        entries := (s.enterStream i k slot kind f l).streams.entries
        service := (s.leaveLists i).streams.service } } := by
  rw [State.enterStream, State.leaveLists_service]
  rfl

theorem State.enterStream_streams (s : State) (i k : Nat) (slot : Fin 8) (kind : StreamKind) (f : StreamFields) (l : LaneId) :
    (s.enterStream i k slot kind f l).streams = ((s.leaveLists i).putStream i (s.addedEntry k slot kind f l)).streams := by
  rw [State.enterStream, State.modStation_streams]

variable (hs : s.tablesCanonical)
include hs

theorem State.stream_enterStream (j : Nat) : (s.enterStream i k slot kind f l).stream j =
    if j = i then (s.addedEntry k slot kind f l).seal else s.stream j := by
  rw [State.stream_of_streams (s.enterStream_streams i k slot kind f l),
    State.stream_putStream _ i j _ (State.StreamWork.leaveLists hs k i).canonical.2.1, State.leaveLists_stream]

omit hs in
theorem State.putStream_canonical (hs : s.tablesCanonical) (i : Nat) (e : StreamEntry) : (s.putStream i e).tablesCanonical :=
  ⟨hs.1, s.putStream_wf i e hs.2.1, hs.2.2⟩

theorem State.enterStream_canonical : (s.enterStream i k slot kind f l).tablesCanonical := by
  rw [State.enterStream]
  exact State.modStation_canonical (State.putStream_canonical (State.StreamWork.leaveLists hs k i).canonical i _) k _

theorem State.enterStream_entered : s.Entered (s.enterStream i k slot kind f l) i k slot := by
  have tables := s.enterStream_tables i k slot kind f l
  have left := State.StreamWork.leaveLists hs k i
  have wrote := State.putStream_canonical left.canonical i (s.addedEntry k slot kind f l)
  have entry : ∀ j, ((s.leaveLists i).putStream i (s.addedEntry k slot kind f l)).station j = s.station j := fun j => by
    rw [State.station_of_stations (State.putStream_stations _ i _), State.station_of_stations (s.leaveLists_stations i)]
  have slots : (s.enterStream i k slot kind f l).station k =
      ({ s.station k with refs := (s.station k).refs.set slot (some i) } : StationEntry).seal := by
    rw [State.enterStream, State.station_modStation_same wrote, entry]
  exact
    { slots := by rw [slots]; rfl
      state := by rw [slots]; rfl
      stations := fun j hj => by
        rw [State.enterStream, State.station_modStation_other wrote k _ hj, entry]
      streams := fun j hj =>
        ⟨(State.stream_enterStream hs j).trans (if_neg hj), by rw [State.reservedOf, tables, State.reservedOf]⟩
      lists := fun m => by
        rw [State.onLane_of_streams (s.enterStream_streams i k slot kind f l), State.onLane_putStream, State.onLane_leaveLists]
      service := fun absent => by rw [tables, State.leaveLists_absent absent]
      lanes := by rw [tables]
      refs := by rw [tables]
      port := by rw [tables]
      builder := by rw [tables] }

end

section
variable {s t : State} {i k : Nat} {slot : Fin 8} {kind : StreamKind} {f : StreamFields} {l : LaneId} {share : Nat}

/-- A share recorded beside the new stream is all that follows for a cadenced one. -/
theorem State.Entered.recordShare (h : s.Entered t i k slot) (ht : t.tablesCanonical) (positive : share ≠ 0) :
    s.Entered (t.recordShare i l share) i k slot where
  slots := h.slots
  state := h.state
  stations := h.stations
  streams j hj := ⟨(h.streams j hj).1, ((State.recordShare_spec ht i positive).2.1 j hj).trans (h.streams j hj).2⟩
  lists := h.lists
  service := h.service
  lanes := h.lanes
  refs := h.refs
  port := h.port
  builder := h.builder

theorem State.shareSums_enterStream (s : State) (i k : Nat) (slot : Fin 8) (kind : StreamKind) (f : StreamFields) (l : LaneId) :
    (s.enterStream i k slot kind f l).streams.shareSums = s.streams.shareSums := by
  rw [State.enterStream_tables]

theorem State.shareSum_enterStream (s : State) (i k : Nat) (slot : Fin 8) (kind : StreamKind) (f : StreamFields) (l m : LaneId) :
    (s.enterStream i k slot kind f l).shareSum m = s.shareSum m := by
  rw [State.shareSum, State.shareSums_enterStream, State.shareSum]

/-- A bidding stream added. -/
theorem State.addStream_bidding (hs : s.tablesCanonical) :
    (s.addStream i k slot .bidding f l).stream i = { StreamEntry.fresh k slot f with laneSet := f.laneSet }.seal ∧
      (s.addStream i k slot .bidding f l).streams.shareSums = s.streams.shareSums ∧
      s.Entered (s.addStream i k slot .bidding f l) i k slot := by
  rw [State.addStream_eq, if_neg (by decide), State.stream_enterStream hs, if_pos rfl, State.addedEntry_bidding]
  exact ⟨rfl, s.shareSums_enterStream .., State.enterStream_entered hs⟩

/-- A cadenced stream added. -/
theorem State.addStream_cadenced (hs : s.tablesCanonical) {u : LaneSetup} {c : Nat} (setup : (s.lane l).setup = some u)
    (cadence : c = max (max 16 f.c.toNat) f.z.toNat) (size : 1 ≤ f.z.toNat)
    (amount : share = (f.z.toNat * 1024 + c - 1) / c) :
    (s.addStream i k slot .cadenced f l).stream i =
        { StreamEntry.fresh k slot f with
          kind := .cadenced, lane := l, c := c, z := f.z.toNat, phase := f.phase.toNat % c, jitter := f.jitter.toNat
          N := firstNominal ((s.lane l).nextSpan * BitVec.ofNat 32 u.S) c (f.phase.toNat % c) }.seal ∧
      (s.addStream i k slot .cadenced f l).reservedOf i = { lane := l, amount := share } ∧
      (s.addStream i k slot .cadenced f l).shareSum l = s.shareSum l + share ∧
      (∀ m, m ≠ l → (s.addStream i k slot .cadenced f l).shareSum m = s.shareSum m) ∧
      s.Entered (s.addStream i k slot .cadenced f l) i k slot := by
  have positive : share ≠ 0 := amount ▸ share_pos size (by omega)
  have canonical := State.enterStream_canonical (i := i) (k := k) (slot := slot) (kind := .cadenced) (f := f) (l := l) hs
  obtain ⟨reserved, -, sums⟩ := State.recordShare_spec (l := l) canonical i positive
  have added : s.addStream i k slot .cadenced f l = (s.enterStream i k slot .cadenced f l).recordShare i l share := by
    rw [State.addStream_eq, if_pos rfl, askedShare_cadenced, ← cadence, ← amount]
  have entry : (s.addStream i k slot .cadenced f l).stream i = (s.addedEntry k slot .cadenced f l).seal := by
    rw [added, State.stream, (State.recordShare_tables _ i l share).1, ← State.stream, State.stream_enterStream hs, if_pos rfl]
  have sums' : ∀ m, (s.addStream i k slot .cadenced f l).shareSum m = if m = l then s.shareSum l + share else s.shareSum m :=
    fun m => by rw [added, sums, State.shareSum_enterStream, State.shareSum_enterStream]
  refine ⟨by rw [entry, State.addedEntry_cadenced setup cadence], by rw [added, reserved], (sums' l).trans (if_pos rfl),
    fun m hm => (sums' m).trans (if_neg hm), ?_⟩
  rw [added]
  exact (State.enterStream_entered hs).recordShare canonical positive

end

/-! ### The branches of the rule (R78) -/

theorem StationState.servable_iff {st : StationState} : st.servable = true ↔ st ∈ [StationState.ready, .active, .held] := by
  simp [StationState.servable, or_assoc]

theorem StationState.servable_eq_false {st : StationState} (h : st ∉ [StationState.ready, .active, .held]) :
    st.servable = false := Bool.eq_false_iff.2 fun served => h (StationState.servable_iff.1 served)

theorem StationState.ne_free_of_servable {st : StationState} (h : st.servable = true) : st ≠ .free := by
  rintro rfl
  exact absurd h (by decide)

/-- Checks 2 to 8 of R78 for a tag whose entry passed its check, and the add. -/
def State.addChecked (s : State) (k : Nat) (slot : Fin 8) (kind : StreamKind) (f : StreamFields) : Answer :=
  if (s.station k).state = .free then refuse .unknownTag s
  else if (s.station k).state.servable = false then refuse .badState s
  else if (s.slotStream k slot).isSome then refuse .badValue s
  else
    match s.laneRefusal kind f (s.station k).laneSet with
    | some o => refuse o s
    | none =>
      if s.overCap kind ((fieldLane kind f).getD 0) (s.shareSum ((fieldLane kind f).getD 0)) (askedShare kind f) then
        refuse .noRoom s
      else
        match s.lowestFree with
        | none => refuse .noRoom s
        | some i =>
          carryOut (.streamAdd i ((s.addStream i k slot kind f ((fieldLane kind f).getD 0)).stream i)
            (if kind = .cadenced then
              some ((s.addStream i k slot kind f ((fieldLane kind f).getD 0)).shareSum ((fieldLane kind f).getD 0))
            else none)) (s.addStream i k slot kind f ((fieldLane kind f).getD 0))

/-- The tag, the slot or a field of the request is out of range. -/
def AddOutside (tag : BitVec 16) (byte : Byte) (f : StreamFields) : Prop :=
  tag = 0 ∨ 4095 < tag.toNat ∨ 7 < byte.toNat ∨ FieldsOutside f

section
variable {d : State} {tag : BitVec 16} {byte : Byte} {f : StreamFields}

theorem addInside {slot : Fin 8} (low : 1 ≤ tag.toNat) (high : tag.toNat ≤ 4095) (slotIs : byte.toNat = slot.val)
    (inside : ¬FieldsOutside f) : ¬AddOutside tag byte f := by
  rintro (rfl | above | above | fields)
  · exact absurd low (by decide)
  · omega
  · omega
  · exact inside fields

/-- A request in range names a kind and a slot. -/
theorem named_of_addInside (good : ¬AddOutside tag byte f) :
    ∃ (kind : StreamKind) (slot : Fin 8), kindOfByte f.kind = some kind ∧ byte.toNat = slot.val := by
  simp only [AddOutside, not_or] at good
  obtain ⟨-, -, inSlots, inside⟩ := good
  obtain ⟨kind, kindIs⟩ := kind_of_inside inside
  exact ⟨kind, ⟨byte.toNat, Nat.lt_succ_of_le (Nat.not_lt.1 inSlots)⟩, kindIs, rfl⟩

theorem streamAddRule_badValue (bad : AddOutside tag byte f) : streamAddRule tag byte f d = refuse .badValue d := by
  unfold streamAddRule
  split
  · rename_i k kind inTags _
    split
    · rename_i inSlots
      refine if_pos (fieldsInRange_of_outside ?_)
      rcases bad with zero | above | above | fields
      · rw [tagOfWord_of_outside (.inl zero)] at inTags
        cases inTags
      · rw [tagOfWord_of_outside (.inr above)] at inTags
        cases inTags
      · omega
      · exact fields
    · rfl
  · rfl

/-- With its tag, its slot and its fields in range, the request streamAddRule_eq the later checks. -/
theorem streamAddRule_eq {kind : StreamKind} {slot : Fin 8} (kindIs : kindOfByte f.kind = some kind)
    (slotIs : byte.toNat = slot.val) (good : ¬AddOutside tag byte f) (checks : (d.station tag.toNat).checks = true) :
    streamAddRule tag byte f d = d.addChecked tag.toNat slot kind f := by
  simp only [AddOutside, not_or] at good
  obtain ⟨nonzero, inTags, -, inside⟩ := good
  have tagIs := tagOfWord_of_inside (one_le_toNat_of_ne_zero nonzero) (Nat.not_lt.1 inTags)
  have inSlots : byte.toNat < 8 := slotIs ▸ slot.isLt
  have same : (⟨byte.toNat, inSlots⟩ : Fin 8) = slot := Fin.ext slotIs
  simp only [streamAddRule, tagIs, kindIs, dif_pos inSlots, same, fieldsInRange_of_inside inside,
    Bool.true_eq_false, if_false, d.checkStation_passes _ _ checks]
  rfl

end

section
variable {d : State} {k : Nat} {slot : Fin 8} {kind : StreamKind} {f : StreamFields}

theorem State.addChecked_unknownTag (free : (d.station k).state = .free) :
    d.addChecked k slot kind f = refuse .unknownTag d := if_pos free

theorem State.addChecked_badState (kept : (d.station k).state ≠ .free) (closed : (d.station k).state.servable = false) :
    d.addChecked k slot kind f = refuse .badState d := (if_neg kept).trans (if_pos closed)

variable (served : (d.station k).state.servable = true)
include served

theorem State.addChecked_taken (taken : (d.slotStream k slot).isSome = true) :
    d.addChecked k slot kind f = refuse .badValue d := by
  rw [State.addChecked, if_neg (StationState.ne_free_of_servable served), if_neg (by simp [served]), if_pos taken]

variable (vacant : d.slotStream k slot = none)
include vacant

theorem State.addChecked_refused {o : ReqOutcome} (lanes : d.laneRefusal kind f (d.station k).laneSet = some o) :
    d.addChecked k slot kind f = refuse o d := by
  simp only [State.addChecked, if_neg (StationState.ne_free_of_servable served), served, vacant, lanes, Option.isSome_none,
    Bool.true_eq_false, Bool.false_eq_true, if_false]

variable {l : LaneId} (lanes : d.laneRefusal kind f (d.station k).laneSet = none) (lane : (fieldLane kind f).getD 0 = l)
include lanes lane

theorem State.addChecked_noRoom
    (full : d.overCap kind l (d.shareSum l) (askedShare kind f) = true ∨ d.lowestFree = none) :
    d.addChecked k slot kind f = refuse .noRoom d := by
  simp only [State.addChecked, if_neg (StationState.ne_free_of_servable served), served, vacant, lanes, Option.isSome_none,
    Bool.true_eq_false, Bool.false_eq_true, if_false, lane]
  rcases full with capped | none
  · rw [if_pos capped]
  · rw [none, ite_self]

theorem State.addChecked_done {i : Nat} (fits : d.overCap kind l (d.shareSum l) (askedShare kind f) = false)
    (lowest : d.lowestFree = some i) : d.addChecked k slot kind f =
      carryOut (.streamAdd i ((d.addStream i k slot kind f l).stream i)
        (if kind = .cadenced then some ((d.addStream i k slot kind f l).shareSum l) else none))
        (d.addStream i k slot kind f l) := by
  simp only [State.addChecked, if_neg (StationState.ne_free_of_servable served), served, vacant, lanes, Option.isSome_none,
    Bool.true_eq_false, Bool.false_eq_true, if_false, lane, fits, lowest]

end

theorem State.lowestFree_none {d : State} (full : ∀ i, i < 8192 → (d.stream i).state ≠ .free) : d.lowestFree = none :=
  List.find?_eq_none.2 fun i inTable => by
    simpa using full i (List.mem_range'_1.1 inTable).2

end Sys2Proof.Machine

open Sys2Proof Sys2Proof.Machine

/-- Settles O36: `streamAddRule_eq` and the branches of `addChecked` give the outcome, and `enterStream_entered` says what the
new stream leaves. -/
theorem streamAddWritesTheLowestFreeEntry : Obligations.StreamAddWritesTheLowestFreeEntry := by
  refine ⟨?_, ?_⟩
  · rintro s d req tag byte f k i slot h ho hd rfl low high slotIs cls checks served vacant lowest
    have done {t : State} {body : ReplyBody} (ans : streamAddRule tag byte f d = carryOut body t) :=
      State.request_done (kind := kindStreamAdd) (len := 17) h ho ans
    have servable := StationState.servable_iff.2 served
    refine ⟨fun kind nonempty within => ?_, fun l u c share kind jitter lane setup long within cadence amount room => ?_⟩
    · have ans := (streamAddRule_eq (kindOfByte_bidding kind) slotIs
          (addInside low high slotIs (inside_bidding kind cls)) checks).trans <|
        State.addChecked_done servable vacant (State.laneRefusal_bidding_passes nonempty within) rfl State.overCap_bidding lowest
      obtain ⟨entry, sums, slots, state, stations, streams, lists, service, lanes, refs, port, builder⟩ :=
        State.addStream_bidding (i := i) (k := tag.toNat) (slot := slot) (f := f) (l := 0) hd
      exact ⟨_, done ans, entry, sums, slots, state, stations, streams, lists, service, lanes, refs, port, builder⟩
    · have fits : d.shareSum l + askedShare .cadenced f ≤ u.Rc := by rwa [askedShare_cadenced, ← cadence, ← amount]
      have lane' : (fieldLane .cadenced f).getD 0 = l := by rw [fieldLane_cadenced lane, Option.getD_some]
      have ans := (streamAddRule_eq (kindOfByte_cadenced kind) slotIs
          (addInside low high slotIs (inside_cadenced kind cls jitter)) checks).trans <|
        State.addChecked_done servable vacant (State.laneRefusal_cadenced_passes lane setup long within) lane'
          ((State.overCap_cadenced setup).trans (decide_eq_false (Nat.not_lt.2 fits))) lowest
      obtain ⟨entry, reserved, sum, sums, slots, state, stations, streams, lists, service, lanes, refs, port, builder⟩ :=
        State.addStream_cadenced (i := i) (k := tag.toNat) (slot := slot) hd setup cadence (by omega) amount
      rw [if_pos rfl, sum] at ans
      refine ⟨_, done ans, entry, reserved, sum, fun dist inside leaves least => ?_, sums, slots, state, stations, streams,
        lists, service, lanes, refs, port, builder⟩
      rw [entry]
      exact firstNominal_least inside leaves least
  · intro s d req tag byte f h ho
    have refused {o : ReqOutcome} (ans : streamAddRule tag byte f d = refuse o d) :=
      State.request_refused (kind := kindStreamAdd) (len := 17) h ho ans
    refine ⟨fun bad => refused (streamAddRule_badValue bad), fun good checks free => ?_, fun good checks kept closed => ?_,
      fun slot slotIs good checks served => ?_⟩
    · obtain ⟨kind, slot, kindIs, slotIs⟩ := named_of_addInside good
      exact refused ((streamAddRule_eq kindIs slotIs good checks).trans (State.addChecked_unknownTag free))
    · obtain ⟨kind, slot, kindIs, slotIs⟩ := named_of_addInside good
      exact refused ((streamAddRule_eq kindIs slotIs good checks).trans
        (State.addChecked_badState kept (StationState.servable_eq_false closed)))
    have servable := StationState.servable_iff.2 served
    refine ⟨fun taken => ?_, fun vacant => ⟨fun kind bad => ?_, fun kind nonempty within full => ?_, fun kind above => ?_,
      fun l kind lane => ⟨fun unset => ?_, fun u c setup cadence => ⟨fun bad => ?_, fun long within full => ?_⟩⟩⟩⟩
    · obtain ⟨kind, -, kindIs, -⟩ := named_of_addInside good
      exact refused ((streamAddRule_eq kindIs slotIs good checks).trans (State.addChecked_taken servable taken))
    · exact refused <| (streamAddRule_eq (kindOfByte_bidding kind) slotIs good checks).trans <|
        State.addChecked_refused servable vacant (State.laneRefusal_bidding bad)
    · exact refused <| (streamAddRule_eq (kindOfByte_bidding kind) slotIs good checks).trans <|
        State.addChecked_noRoom servable vacant (State.laneRefusal_bidding_passes nonempty within) rfl
          (.inr (State.lowestFree_none full))
    · exact refused <| (streamAddRule_eq (kindOfByte_cadenced kind) slotIs good checks).trans <|
        State.addChecked_refused servable vacant (State.laneRefusal_above above)
    · exact refused <| (streamAddRule_eq (kindOfByte_cadenced kind) slotIs good checks).trans <|
        State.addChecked_refused servable vacant (State.laneRefusal_unset lane unset)
    · exact refused <| (streamAddRule_eq (kindOfByte_cadenced kind) slotIs good checks).trans <|
        State.addChecked_refused servable vacant (State.laneRefusal_cadenced lane setup bad)
    · refine refused <| (streamAddRule_eq (kindOfByte_cadenced kind) slotIs good checks).trans <|
        State.addChecked_noRoom servable vacant (State.laneRefusal_cadenced_passes lane setup long within)
          (by rw [fieldLane_cadenced lane, Option.getD_some]) (full.imp (fun capped => ?_) State.lowestFree_none)
      rw [State.overCap_cadenced setup, askedShare_cadenced, ← cadence]
      exact decide_eq_true capped
end

section
/-! PROOFS. STREAM_CHANGE (R80): the branches of its rule, the list places of a bidding stream and the share of a cadenced one
after the change. -/

namespace Sys2Proof.Machine

/-! ### The entry rewritten (R80) -/

/-- The entry `e'` is `e` with the fields of the request: its identity, its demand, its credit and its counts are kept. -/
structure StreamEntry.Rewritten (e e' : StreamEntry) (f : StreamFields) : Prop where
  owner : e'.owner = e.owner
  state : e'.state = e.state
  kind : e'.kind = e.kind
  D : e'.D = e.D
  G : e'.G = e.G
  credit : e'.credit = e.credit
  lastBid : e'.lastBid = e.lastBid
  relist : e'.relist = e.relist
  slips : e'.slips = e.slips
  cls : e'.cls = classOf f.cls
  weight : e'.weight = max 1 (min f.weight.toNat 64)
  maxTurn : e'.maxTurn = max 1 f.maxTurn.toNat
  fragmentable : e'.fragmentable = (f.fragmentable != 0)

namespace StreamEntry.Rewritten

variable {e e' : StreamEntry} {f : StreamFields}

theorem withFields {k : StreamKind} (kind : e.kind = k) (l : LaneId) : e.Rewritten (e.withFields k f l) f := by
  cases k
  · rw [StreamEntry.withFields_bidding]
    exact ⟨rfl, rfl, kind.symm, rfl, rfl, rfl, rfl, rfl, rfl, rfl, rfl, rfl, rfl⟩
  · rw [StreamEntry.withFields_cadenced]
    exact ⟨rfl, rfl, kind.symm, rfl, rfl, rfl, rfl, rfl, rfl, rfl, rfl, rfl, rfl⟩

theorem sealed (h : e.Rewritten e' f) : e.Rewritten e'.seal f := { h with }

theorem nominal (h : e.Rewritten e' f) (n : Quantum) : e.Rewritten { e' with N := n } f := { h with }

end StreamEntry.Rewritten

/-! ### The list places of a bidding stream (R80) -/

section
variable {s : State} {i : Nat} {old new : Fin 4}

/-- On the lane of the step the stream leaves its old class list. -/
theorem State.mem_reclass_old (apart : new ≠ old) {l m : LaneId} :
    i ∈ (State.reclass i old new s m).list l old ↔ i ∈ s.list l old ∧ l ≠ m := by
  unfold State.reclass
  split
  · rw [State.mem_joinList, State.mem_leaveList]
    simp [apart.symm]
  · rename_i absent
    exact ⟨fun on => ⟨on, fun same => absent (same ▸ on)⟩, fun on => on.1⟩

/-- On the lane of the step the stream stands on its new class list where it stood on the old. -/
theorem State.mem_reclass_new (apart : new ≠ old) {l m : LaneId} :
    i ∈ (State.reclass i old new s m).list l new ↔ i ∈ s.list l new ∨ (l = m ∧ i ∈ s.list l old) := by
  unfold State.reclass
  split
  · rename_i on
    rw [State.mem_joinList, State.mem_leaveList]
    constructor
    · rintro (⟨there, -⟩ | ⟨-, rfl, -⟩)
      exacts [.inl there, .inr ⟨rfl, on⟩]
    · rintro (there | ⟨rfl, -⟩)
      exacts [.inl ⟨there, fun _ same => absurd same apart⟩, .inr ⟨rfl, rfl, rfl⟩]
  · rename_i absent
    exact ⟨.inl, Or.rec id fun on => absurd (on.1 ▸ on.2) absent⟩

theorem State.mem_reclassAll (apart : new ≠ old) {ls : List LaneId} {l : LaneId} :
    i ∈ (ls.foldl (State.reclass i old new) s).list l new ↔ i ∈ s.list l new ∨ (l ∈ ls ∧ i ∈ s.list l old) := by
  induction ls generalizing s with
  | nil => simp
  | cons m rest ih =>
    rw [List.foldl_cons, ih, State.mem_reclass_new apart, State.mem_reclass_old apart, List.mem_cons]
    tauto

theorem State.Relisted.listable {t : State} (h : s.Relisted t) (i : Nat) : t.listable i = s.listable i := by
  simp only [State.listable, State.ownerIs, h.stream, h.station]

/-- A stream that may be listed joins its class list on the lanes given. -/
theorem State.mem_joinListable {ls : List LaneId} {j : Nat} {l : LaneId} {c q : Fin 4} :
    j ∈ (ls.foldl (fun s m => if s.listable i then s.joinList m q i else s) s).list l c ↔
      j ∈ s.list l c ∨ (s.listable i = true ∧ j = i ∧ l ∈ ls ∧ c = q) := by
  induction ls generalizing s with
  | nil => simp
  | cons m rest ih =>
    rw [List.foldl_cons, ih]
    cases able : s.listable i
    · simp [able]
    · rw [if_pos rfl, (State.Relisted.joinList s m q i).listable, State.mem_joinList, List.mem_cons, able]
      tauto

/-- The stream's class lists after the first step of a change. -/
def State.reclassed (s : State) (i : Nat) (old new : Fin 4) : State :=
  if new = old then s else allLanes.foldl (State.reclass i old new) s

theorem State.replaceLists_eq (s : State) (i : Nat) (old : StreamEntry) : s.replaceLists i old =
    (lanesOf ((s.stream i).laneSet &&& ~~~old.laneSet)).foldl
      (fun t l => if t.listable i then t.joinList l (s.stream i).cls i else t)
      ((s.reclassed i old.cls (s.stream i).cls).leaveTaken (s.stream i).laneSet i old.laneSet) := rfl

theorem State.Relisted.reclassed (s : State) (i : Nat) (old new : Fin 4) : s.Relisted (s.reclassed i old new) := by
  unfold State.reclassed
  split
  · exact refl s
  · exact foldl (fun s l => Relisted.reclass s i _ _ l) _ s

/-- A stream on its old class list stands on its new one. -/
theorem State.mem_reclassed {l : LaneId} (on : i ∈ s.list l old) : i ∈ (s.reclassed i old new).list l new := by
  unfold State.reclassed
  split
  · rename_i same
    rwa [same]
  · rename_i apart
    exact (State.mem_reclassAll apart).2 (.inr ⟨mem_allLanes l, on⟩)

variable {e : StreamEntry}

theorem State.mem_replaceLists {l : LaneId} {c : Fin 4} : i ∈ (s.replaceLists i e).list l c ↔
    (i ∈ (s.reclassed i e.cls (s.stream i).cls).list l c ∧ (inSet e.laneSet l = true → inSet (s.stream i).laneSet l = true)) ∨
      (s.listable i = true ∧ inSet (s.stream i).laneSet l = true ∧ inSet e.laneSet l = false ∧ c = (s.stream i).cls) := by
  have relisted := (State.Relisted.reclassed s i e.cls (s.stream i).cls).trans
    (State.relisted_leaveTaken _ (s.stream i).laneSet i e.laneSet)
  rw [State.replaceLists_eq, State.mem_joinListable, relisted.listable, State.mem_leaveTaken, mem_lanesOf, inSet_and, inSet_not]
  simp [and_assoc]

end

/-! ### The change carried out (R80) -/

/-- The change of stream `i` writes its entry; the other streams, the stations and the lanes are as they were. -/
structure State.Changed (s t : State) (i : Nat) (f : StreamFields) : Prop where
  entry : (s.stream i).Rewritten (t.stream i) f
  others : ∀ j, j ≠ i → t.stream j = s.stream j
  stations : t.stations = s.stations
  lanes : t.lanes = s.lanes
  refs : t.refs = s.refs
  builder : t.builder = s.builder

section
variable {s : State} {i : Nat} {k : StreamKind} {f : StreamFields} {l : LaneId}

/-- The fields written over the entry of the stream, the first write of a change. -/
def State.rewriteStream (s : State) (i : Nat) (k : StreamKind) (f : StreamFields) (l : LaneId) : State :=
  s.modStream i fun e => e.withFields k f l

theorem State.lane_rewriteStream (s : State) (i : Nat) (k : StreamKind) (f : StreamFields) (l m : LaneId) :
    (s.rewriteStream i k f l).lane m = s.lane m := rfl

theorem State.changeStream_bidding :
    s.changeStream i .bidding f l = (s.rewriteStream i .bidding f l).replaceLists i (s.stream i) :=
  rfl

theorem State.changeStream_cadenced :
    s.changeStream i .cadenced f l = (s.rewriteStream i .cadenced f l).replaceCadence i (s.stream i) := rfl

variable (hs : s.tablesCanonical)
include hs

theorem State.rewriteStream_canonical : (s.rewriteStream i k f l).tablesCanonical :=
  State.putStream_canonical hs i _

theorem State.stream_rewriteStream : (s.rewriteStream i k f l).stream i = ((s.stream i).withFields k f l).seal :=
  State.stream_modStream_same hs i _

theorem State.rewriteStream_changed (kind : (s.stream i).kind = k) : s.Changed (s.rewriteStream i k f l) i f where
  entry := by
    rw [State.stream_rewriteStream hs]
    exact (StreamEntry.Rewritten.withFields kind l).sealed
  others _ hj := State.stream_modStream_other hs _ hj
  stations := rfl
  lanes := rfl
  refs := rfl
  builder := rfl

omit hs in
theorem State.Changed.of_relisted {t u : State} (h : s.Changed t i f) (listed : t.Relisted u) : s.Changed u i f where
  entry := by rw [listed.stream]; exact h.entry
  others j hj := (listed.stream j).trans (h.others j hj)
  stations := listed.stations.trans h.stations
  lanes := by rw [listed]; exact h.lanes
  refs := by rw [listed]; exact h.refs
  builder := by rw [listed]; exact h.builder

/-- The stream of an ACTIVE owner with available demand may be listed after the change. -/
theorem State.listable_rewriteStream {n : Nat} {slot : Fin 8} (inUse : (s.stream i).state = .inUse)
    (owner : (s.stream i).owner = some (n, slot)) (active : (s.station n).state = .active)
    (available : (s.stream i).G < (s.stream i).D) : (s.rewriteStream i .bidding f l).listable i = true := by
  have entry : (s.rewriteStream i .bidding f l).stream i = ((s.stream i).withFields .bidding f l).seal :=
    State.stream_rewriteStream hs
  have station : ∀ n, (s.rewriteStream i .bidding f l).station n = s.station n := fun n => rfl
  rw [State.listable, State.ownerIs, entry]
  generalize s.stream i = e at inUse owner available
  simp [StreamEntry.withFields_bidding, StreamEntry.shared, StreamEntry.seal, StreamEntry.avail, inUse, owner, station, active,
    available]

/-- What the change of a bidding stream leaves of its list places. -/
theorem State.changeStream_lists (kind : (s.stream i).kind = .bidding) :
    s.Changed (s.changeStream i .bidding f l) i f ∧ ((s.changeStream i .bidding f l).stream i).laneSet = f.laneSet ∧
      (s.changeStream i .bidding f l).streams.shareSums = s.streams.shareSums ∧
      ∀ m c, i ∈ (s.changeStream i .bidding f l).list m c ↔
        (i ∈ ((s.rewriteStream i .bidding f l).reclassed i (s.stream i).cls (classOf f.cls)).list m c ∧
          (inSet (s.stream i).laneSet m = true → inSet f.laneSet m = true)) ∨
        ((s.rewriteStream i .bidding f l).listable i = true ∧ inSet f.laneSet m = true ∧
          inSet (s.stream i).laneSet m = false ∧ c = classOf f.cls) := by
  have listed := State.Relisted.replaceLists (s.rewriteStream i .bidding f l) i (s.stream i)
  have wrote := State.rewriteStream_changed (f := f) (l := l) hs kind
  have laneSet : ((s.rewriteStream i .bidding f l).stream i).laneSet = f.laneSet := by
    rw [State.stream_rewriteStream hs, StreamEntry.withFields_bidding]
    rfl
  rw [State.changeStream_bidding]
  refine ⟨wrote.of_relisted listed, by rw [listed.stream, laneSet], by rw [listed]; rfl, fun m c => ?_⟩
  rw [State.mem_replaceLists, laneSet, wrote.entry.cls]

end

/-! ### The share of a cadenced stream (R80) -/

section
variable {s : State} {i : Nat} {l : LaneId} {share : Nat}

/-- The stream's share given back, and its new share recorded. -/
def State.recharge (s : State) (i : Nat) (l : LaneId) (share : Nat) : State := (s.dropShare i).recordShare i l share

theorem State.recharge_spec (hs : s.tablesCanonical) (positive : share ≠ 0) :
    (s.recharge i l share).reservedOf i = { lane := l, amount := share } ∧
      ∀ m, (s.recharge i l share).shareSum m = s.shareSum m -
        (if m = (s.reservedOf i).lane then (s.reservedOf i).amount else 0) + (if m = l then share else 0) := by
  obtain ⟨reserved, -, sums⟩ :=
    State.recordShare_spec (l := l) (State.StreamWork.dropShare hs 0 i).canonical i positive
  refine ⟨reserved, fun m => ?_⟩
  have dropped : ∀ m, (s.dropShare i).shareSum m =
      s.shareSum m - (if m = (s.reservedOf i).lane then (s.reservedOf i).amount else 0) := fun m => by
    rw [State.shareSum_dropShare]
    split
    · rename_i same
      rw [same]
    · rw [Nat.sub_zero]
  rw [State.recharge, sums, dropped, dropped]
  split
  · rename_i same
    rw [same]
  · rw [Nat.add_zero]

/-- The shares and their sums are all that changes. -/
theorem State.recharge_frame (s : State) (i : Nat) (l : LaneId) (share : Nat) : ∃ reserved sums, s.recharge i l share =
    { s with streams := { s.streams with reserved := reserved, shareSums := sums } } := ⟨_, _, rfl⟩

theorem State.recharge_lanes (s : State) (i : Nat) (l : LaneId) (share : Nat) : (s.recharge i l share).lanes = s.lanes := by
  obtain ⟨reserved, sums, frame⟩ := s.recharge_frame i l share
  rw [frame]

theorem State.recharge_service (s : State) (i : Nat) (l : LaneId) (share : Nat) :
    (s.recharge i l share).streams.service = s.streams.service := by
  obtain ⟨reserved, sums, frame⟩ := s.recharge_frame i l share
  rw [frame]

theorem State.stream_recharge (s : State) (i j : Nat) (l : LaneId) (share : Nat) :
    (s.recharge i l share).stream j = s.stream j := by
  obtain ⟨reserved, sums, frame⟩ := s.recharge_frame i l share
  rw [frame, State.stream, State.stream]

theorem State.recharge_canonical (hs : s.tablesCanonical) (i : Nat) (l : LaneId) (share : Nat) :
    (s.recharge i l share).tablesCanonical :=
  ⟨hs.1, hs.2.1, Table.set_wf _ _ _ _ (State.StreamWork.dropShare hs 0 i).canonical.2.2.1, hs.2.2.2⟩

/-- The first nominal quantum written over an entry, from the next unbuilt span start of its lane. -/
def State.renominate (s : State) (e : StreamEntry) : StreamEntry :=
  { e with N := firstNominal (s.nextUnbuilt e.lane) e.c e.phase }

theorem State.replaceCadence_eq (s : State) (i : Nat) (old : StreamEntry) : s.replaceCadence i old =
    if (s.stream i).lane = old.lane ∧ (s.stream i).c = old.c ∧ (s.stream i).phase = old.phase then
      s.recharge i (s.stream i).lane (laneShare (s.stream i).z (s.stream i).c)
    else
      (s.recharge i (s.stream i).lane (laneShare (s.stream i).z (s.stream i).c)).modStream i
        (s.recharge i (s.stream i).lane (laneShare (s.stream i).z (s.stream i).c)).renominate := rfl

theorem State.renominate_of_lanes {t : State} (h : t.lanes = s.lanes) (e : StreamEntry) : t.renominate e = s.renominate e := by
  simp only [State.renominate, State.nextUnbuilt, State.setupOf, State.lane, h]

theorem State.renominate_nominal {u : LaneSetup} {e : StreamEntry} (setup : (s.lane e.lane).setup = some u) :
    (s.renominate e).N = firstNominal ((s.lane e.lane).nextSpan * BitVec.ofNat 32 u.S) e.c e.phase := by
  rw [State.renominate, State.nextUnbuilt_eq setup]

theorem State.Changed.recharge {t : State} {f : StreamFields} (h : s.Changed t i f) (l : LaneId) (share : Nat) :
    s.Changed (t.recharge i l share) i f := by
  obtain ⟨reserved, sums, frame⟩ := t.recharge_frame i l share
  rw [frame]
  exact ⟨h.entry, h.others, h.stations, h.lanes, h.refs, h.builder⟩

theorem State.Changed.renominate {t : State} {f : StreamFields} (h : s.Changed t i f) (ht : t.tablesCanonical) :
    s.Changed (t.modStream i t.renominate) i f where
  entry := by
    rw [State.stream_modStream_same ht]
    exact (h.entry.nominal _).sealed
  others j hj := (State.stream_modStream_other ht _ hj).trans (h.others j hj)
  stations := h.stations
  lanes := h.lanes
  refs := h.refs
  builder := h.builder

/-- The parts of a cadenced entry that the request gives beside its class. -/
structure StreamEntry.Cadence (e : StreamEntry) (f : StreamFields) (l : LaneId) (n : Nat) : Prop where
  lane : e.lane = l
  c : e.c = n
  z : e.z = f.z.toNat
  phase : e.phase = f.phase.toNat % n
  jitter : e.jitter = f.jitter.toNat

/-- What the steps behind the write of the fields do with the share and the first nominal quantum. -/
theorem State.replaceCadence_spec (hs : s.tablesCanonical) {f : StreamFields} {c : Nat} {u : LaneSetup} {old : StreamEntry}
    (cadence : (s.stream i).Cadence f l c) (size : 1 ≤ f.z.toNat) (least : 16 ≤ c) (setup : (s.lane l).setup = some u)
    (amount : share = (f.z.toNat * 1024 + c - 1) / c) :
    ((s.replaceCadence i old).stream i).Cadence f l c ∧
      (s.replaceCadence i old).reservedOf i = { lane := l, amount := share } ∧
      (s.replaceCadence i old).streams.service = s.streams.service ∧
      (∀ m, (s.replaceCadence i old).shareSum m = s.shareSum m -
        (if m = (s.reservedOf i).lane then (s.reservedOf i).amount else 0) + (if m = l then share else 0)) ∧
      (old.lane = l → old.c = c → old.phase = f.phase.toNat % c → (s.replaceCadence i old).stream i = s.stream i) ∧
      (old.lane ≠ l ∨ old.c ≠ c ∨ old.phase ≠ f.phase.toNat % c → ((s.replaceCadence i old).stream i).N =
        firstNominal ((s.lane l).nextSpan * BitVec.ofNat 32 u.S) c (f.phase.toNat % c)) := by
  obtain ⟨reserved, sums⟩ := State.recharge_spec (i := i) (l := l) hs (amount ▸ share_pos size least : share ≠ 0)
  have charge : laneShare f.z.toNat c = share := amount.symm
  rw [State.replaceCadence_eq, cadence.lane, cadence.c, cadence.phase, cadence.z, charge]
  split
  · rename_i same
    have entry := s.stream_recharge i i l share
    refine ⟨by rwa [entry], reserved, s.recharge_service i l share, sums, fun _ _ _ => entry, ?_⟩
    rintro (apart | apart | apart)
    exacts [absurd same.1.symm apart, absurd same.2.1.symm apart, absurd same.2.2.symm apart]
  · rename_i apart
    have entry := State.stream_modStream_same (State.recharge_canonical hs i l share) i (s.recharge i l share).renominate
    rw [State.renominate_of_lanes (t := s.recharge i l share) (s.recharge_lanes i l share), State.stream_recharge] at entry
    refine ⟨?_, reserved, s.recharge_service i l share, sums,
      fun lane c phase => absurd ⟨lane.symm, c.symm, phase.symm⟩ apart, fun _ => ?_⟩
    · rw [entry]
      exact ⟨cadence.lane, cadence.c, cadence.z, cadence.phase, cadence.jitter⟩
    · have nominal := State.renominate_nominal (e := s.stream i) (by rw [cadence.lane, setup])
      rw [cadence.lane, cadence.c, cadence.phase] at nominal
      rw [entry, ← nominal]
      rfl

theorem State.Changed.replaceCadence {t : State} {f : StreamFields} (h : s.Changed t i f) (ht : t.tablesCanonical)
    (old : StreamEntry) : s.Changed (t.replaceCadence i old) i f := by
  rw [State.replaceCadence_eq]
  split
  · exact h.recharge _ _
  · exact (h.recharge _ _).renominate (State.recharge_canonical ht i _ _)

end

section
variable {s : State} {i : Nat} {f : StreamFields} {l : LaneId} {u : LaneSetup} {c share : Nat}

/-- What the change of a cadenced stream leaves. -/
theorem State.changeStream_share (hs : s.tablesCanonical) (kind : (s.stream i).kind = .cadenced)
    (setup : (s.lane l).setup = some u) (cadence : c = max (max 16 f.c.toNat) f.z.toNat) (size : 1 ≤ f.z.toNat)
    (amount : share = (f.z.toNat * 1024 + c - 1) / c) :
    s.Changed (s.changeStream i .cadenced f l) i f ∧ ((s.changeStream i .cadenced f l).stream i).Cadence f l c ∧
      (s.changeStream i .cadenced f l).reservedOf i = { lane := l, amount := share } ∧
      (s.changeStream i .cadenced f l).streams.service = s.streams.service ∧
      (∀ m, (s.changeStream i .cadenced f l).shareSum m = s.shareSum m -
        (if m = (s.reservedOf i).lane then (s.reservedOf i).amount else 0) + (if m = l then share else 0)) ∧
      ((s.stream i).lane = l → (s.stream i).c = c → (s.stream i).phase = f.phase.toNat % c →
        ((s.changeStream i .cadenced f l).stream i).N = (s.stream i).N) ∧
      ((s.stream i).lane ≠ l ∨ (s.stream i).c ≠ c ∨ (s.stream i).phase ≠ f.phase.toNat % c →
        ((s.changeStream i .cadenced f l).stream i).N =
          firstNominal ((s.lane l).nextSpan * BitVec.ofNat 32 u.S) c (f.phase.toNat % c)) := by
  have canonical := State.rewriteStream_canonical (i := i) (k := .cadenced) (f := f) (l := l) hs
  have wrote := State.stream_rewriteStream (i := i) (k := .cadenced) (f := f) (l := l) hs
  have fields : ((s.rewriteStream i .cadenced f l).stream i).Cadence f l c := by
    rw [wrote, StreamEntry.withFields_cadenced, ← cadence]
    exact ⟨rfl, rfl, rfl, rfl, rfl⟩
  obtain ⟨cadence', reserved, service, sums, kept, new⟩ := State.replaceCadence_spec canonical (old := s.stream i) fields size
    (by omega) (by rw [State.lane_rewriteStream, setup]) amount
  rw [State.lane_rewriteStream] at new
  rw [State.changeStream_cadenced]
  refine ⟨(State.rewriteStream_changed hs kind).replaceCadence canonical _, cadence', reserved, service, sums,
    fun lane c phase => ?_, new⟩
  rw [kept lane c phase, wrote, StreamEntry.withFields_cadenced]
  rfl

end

/-! ### The branches of the rule (R80) -/

/-- The index or a field of the request is out of range. -/
def ChangeOutside (index : BitVec 16) (f : StreamFields) : Prop := 8191 < index.toNat ∨ FieldsOutside f

/-- The checks of R80 behind the first for a stream whose entry passed its check, and the change. -/
def State.changeChecked (s : State) (i : Nat) (k : StreamKind) (f : StreamFields) : Answer :=
  match (s.stream i).state with
  | .free | .retiring => refuse .unknownStream s
  | .quarantined | .corrupt _ => refuse .badState s
  | .inUse => if (s.stream i).kind ≠ k then refuse .badValue s else changeOwn i k f s

section
variable {d : State} {index : BitVec 16} {f : StreamFields}

theorem streamChangeRule_badValue (bad : ChangeOutside index f) : streamChangeRule index f d = refuse .badValue d := by
  unfold streamChangeRule
  split
  · rfl
  · exact if_pos (bad.imp Nat.succ_le_of_lt fieldsInRange_of_outside)

variable {k : StreamKind} (kindIs : kindOfByte f.kind = some k) (good : ¬ChangeOutside index f)
  (checks : (d.stream index.toNat).checks = true)
include kindIs good checks

/-- With its index and its fields in range, the request goes to the later checks. -/
theorem streamChangeRule_reaches : streamChangeRule index f d = d.changeChecked index.toNat k f := by
  obtain ⟨inTable, inside⟩ := not_or.1 good
  have range : ¬(Config.streams ≤ index.toNat ∨ fieldsInRange f = false) := by
    rw [fieldsInRange_of_inside inside]
    exact not_or.2 ⟨fun above => inTable above, Bool.true_eq_false.mp⟩
  simp only [streamChangeRule, kindIs, if_neg range, d.checkStream_passes _ _ checks]
  rfl

theorem streamChangeRule_unknownStream (gone : (d.stream index.toNat).state ∈ [StreamState.free, .retiring]) :
    streamChangeRule index f d = refuse .unknownStream d := by
  rw [streamChangeRule_reaches kindIs good checks, State.changeChecked]
  simp only [List.mem_cons, List.not_mem_nil, or_false] at gone
  rcases gone with gone | gone <;> rw [gone]

theorem streamChangeRule_badState (state : (d.stream index.toNat).state = .quarantined) :
    streamChangeRule index f d = refuse .badState d := by
  rw [streamChangeRule_reaches kindIs good checks, State.changeChecked, state]

variable (inUse : (d.stream index.toNat).state = .inUse)
include inUse

theorem streamChangeRule_otherKind (other : (d.stream index.toNat).kind ≠ k) :
    streamChangeRule index f d = refuse .badValue d := by
  rw [streamChangeRule_reaches kindIs good checks, State.changeChecked, inUse]
  exact if_pos other

variable {n : Nat} {slot : Fin 8} (kind : (d.stream index.toNat).kind = k)
  (owner : (d.stream index.toNat).owner = some (n, slot)) (checks' : (d.station n).checks = true)
include kind owner checks'

/-- A stream of the request's kind goes to its owner. -/
theorem streamChangeRule_owner : streamChangeRule index f d =
    if (d.station n).state.servable = false then refuse .badState d
    else d.changeWithin index.toNat k f (d.station n).laneSet := by
  have read : d.checkOwner index.toNat = d := State.checkOwner_passes fun n' slot' owner' _ _ => by
    obtain ⟨rfl, -⟩ := Prod.mk.inj (Option.some.inj (owner.symm.trans owner'))
    exact checks'
  have entry : d.ownerEntry index.toNat = d.station n := by
    rw [State.ownerEntry, owner]
  rw [streamChangeRule_reaches kindIs good checks, State.changeChecked, inUse]
  simp only [kind, ne_eq, not_true, if_false, State.changeOwn_eq, read, entry]

theorem streamChangeRule_closed (closed : (d.station n).state.servable = false) :
    streamChangeRule index f d = refuse .badState d :=
  (streamChangeRule_owner kindIs good checks inUse kind owner checks').trans (if_pos closed)

theorem streamChangeRule_within (served : (d.station n).state.servable = true) :
    streamChangeRule index f d = d.changeWithin index.toNat k f (d.station n).laneSet :=
  (streamChangeRule_owner kindIs good checks inUse kind owner checks').trans (if_neg (by simp [served]))

end

section
variable {d : State} {i : Nat} {k : StreamKind} {f : StreamFields} {own : LaneSet}

theorem State.changeWithin_refused {o : ReqOutcome} (lanes : d.laneRefusal k f own = some o) :
    d.changeWithin i k f own = refuse o d := by
  rw [State.changeWithin, lanes]

variable {l : LaneId} (lanes : d.laneRefusal k f own = none) (lane : (fieldLane k f).getD 0 = l)
include lanes lane

theorem State.changeWithin_noRoom (capped : d.overCap k l (d.sumWithout i l) (askedShare k f) = true) :
    d.changeWithin i k f own = refuse .noRoom d := by
  simp only [State.changeWithin, lanes, lane, if_pos capped]

theorem State.changeWithin_done (fits : d.overCap k l (d.sumWithout i l) (askedShare k f) = false) :
    d.changeWithin i k f own =
      carryOut (.streamChange ((d.changeStream i k f l).stream i)) (d.changeStream i k f l) := by
  simp only [State.changeWithin, lanes, lane, fits, Bool.false_eq_true, if_false]

end

end Sys2Proof.Machine

open Sys2Proof Sys2Proof.Machine

/-- Settles O37: the branches of `streamChangeRule` and `changeWithin` give the outcome; `changeStream_lists` and
`changeStream_share` say what the change of each kind leaves. -/
theorem streamChangeKeepsDemandAndCredit : Obligations.StreamChangeKeepsDemandAndCredit := by
  refine ⟨?_, ?_⟩
  · rintro s d req index f i k slot h ho hd rfl inTable cls checks inUse owner low high checks' served
    have done {t : State} {body : ReplyBody} (ans : streamChangeRule index f d = carryOut body t) :=
      State.request_done (kind := kindStreamChange) (len := 16) h ho ans
    have servable := StationState.servable_iff.2 served
    have above : ¬8191 < index.toNat := Nat.not_lt.2 inTable
    refine ⟨fun kind kindIs nonempty within => ?_,
      fun l u c kind kindIs jitter lane setup long within cadence charged room => ?_⟩
    · have ans := (streamChangeRule_within (kindOfByte_bidding kindIs) (not_or.2 ⟨above, inside_bidding kindIs cls⟩) checks inUse
        kind owner checks' servable).trans <|
        State.changeWithin_done (l := 0) (State.laneRefusal_bidding_passes nonempty within) rfl State.overCap_bidding
      obtain ⟨⟨entry, others, stations, lanes, refs, builder⟩, laneSet, sums, lists⟩ :=
        State.changeStream_lists (f := f) (l := 0) hd kind
      generalize d.changeStream index.toNat .bidding f 0 = t at *
      refine ⟨t, done ans, ⟨entry.owner, entry.state.trans inUse, entry.kind, entry.D, entry.G, entry.credit, entry.lastBid,
        entry.relist, entry.slips, entry.cls, entry.weight, entry.maxTurn, entry.fragmentable, others, stations, lanes, refs,
        builder⟩, laneSet, sums, fun l taken left => ?_, fun l absent added active available => ?_, fun l stays on => ?_⟩
      · refine State.onLane_eq_false_iff.2 fun c on => ?_
        rcases (lists l c).1 on with ⟨-, kept⟩ | ⟨-, joined, -⟩
        · exact Bool.noConfusion ((kept taken).symm.trans left)
        · exact Bool.noConfusion (joined.symm.trans left)
      · exact (lists l _).2 (.inr ⟨State.listable_rewriteStream hd inUse owner active available, added, absent, rfl⟩)
      · exact (lists l _).2 (.inl ⟨State.mem_reclassed on, fun _ => stays⟩)
    · have fits : d.sumWithout index.toNat l + askedShare .cadenced f ≤ u.Rc := by
        rwa [askedShare_cadenced, ← cadence, State.sumWithout, charged]
      have ans := (streamChangeRule_within (kindOfByte_cadenced kindIs) (not_or.2 ⟨above, inside_cadenced kindIs cls jitter⟩)
        checks inUse kind owner checks' servable).trans <|
        State.changeWithin_done (State.laneRefusal_cadenced_passes lane setup long within)
          (by rw [fieldLane_cadenced lane, Option.getD_some])
          ((State.overCap_cadenced setup).trans (decide_eq_false (Nat.not_lt.2 fits)))
      obtain ⟨⟨entry, others, stations, lanes, refs, builder⟩, fields, reserved, service, sums, kept, new⟩ :=
        State.changeStream_share hd kind setup cadence (by omega) rfl
      generalize d.changeStream index.toNat .cadenced f l = t at *
      rw [charged] at sums
      refine ⟨t, done ans, ⟨entry.owner, entry.state.trans inUse, entry.kind, entry.D, entry.G, entry.credit, entry.lastBid,
        entry.relist, entry.slips, entry.cls, entry.weight, entry.maxTurn, entry.fragmentable, others, stations, lanes, refs,
        builder⟩, fields.lane, fields.c, fields.z, fields.phase, fields.jitter, reserved, service, sums, kept,
        fun changed => ⟨new changed, fun dist inside leaves least => ?_⟩⟩
      rw [new changed]
      exact firstNominal_least inside leaves least
  · rintro s d req index f i h ho rfl
    have refused {o : ReqOutcome} (ans : streamChangeRule index f d = refuse o d) :=
      State.request_refused (kind := kindStreamChange) (len := 16) h ho ans
    refine ⟨fun bad => refused (streamChangeRule_badValue bad), fun good checks => ?_⟩
    obtain ⟨named, namedIs⟩ := kind_of_inside (not_or.1 good).2
    refine ⟨fun gone => refused (streamChangeRule_unknownStream namedIs good checks gone),
      fun state => refused (streamChangeRule_badState namedIs good checks state), fun inUse other => ?_,
      fun k slot inUse owner low high same checks' => ⟨fun closed => ?_, fun served => ?_⟩⟩
    · rcases other with ⟨one, kind⟩ | ⟨two, kind⟩
      · exact refused (streamChangeRule_otherKind (kindOfByte_bidding one) good checks inUse (by simp [kind]))
      · exact refused (streamChangeRule_otherKind (kindOfByte_cadenced two) good checks inUse (by simp [kind]))
    · have shut := StationState.servable_eq_false closed
      rcases same with ⟨one, kind⟩ | ⟨two, kind⟩
      · exact refused (streamChangeRule_closed (kindOfByte_bidding one) good checks inUse kind owner checks' shut)
      · exact refused (streamChangeRule_closed (kindOfByte_cadenced two) good checks inUse kind owner checks' shut)
    have servable := StationState.servable_iff.2 served
    have bidding (one : f.kind = 1) : streamChangeRule index f d =
        d.changeWithin index.toNat .bidding f (d.station k).laneSet := by
      rcases same with ⟨-, kind⟩ | ⟨two, -⟩
      · exact streamChangeRule_within (kindOfByte_bidding one) good checks inUse kind owner checks' servable
      · exact absurd (one.symm.trans two) (by decide)
    have cadenced (two : f.kind = 2) : streamChangeRule index f d =
        d.changeWithin index.toNat .cadenced f (d.station k).laneSet := by
      rcases same with ⟨one, -⟩ | ⟨-, kind⟩
      · exact absurd (one.symm.trans two) (by decide)
      · exact streamChangeRule_within (kindOfByte_cadenced two) good checks inUse kind owner checks' servable
    refine ⟨fun one bad => ?_, fun two above => ?_, fun l two lane => ⟨fun unset => ?_, fun u c setup cadence =>
      ⟨fun bad => ?_, fun long within charged capped => ?_⟩⟩⟩
    · exact refused ((bidding one).trans (State.changeWithin_refused (State.laneRefusal_bidding bad)))
    · exact refused ((cadenced two).trans (State.changeWithin_refused (State.laneRefusal_above above)))
    · exact refused ((cadenced two).trans (State.changeWithin_refused (State.laneRefusal_unset lane unset)))
    · exact refused ((cadenced two).trans (State.changeWithin_refused (State.laneRefusal_cadenced lane setup bad)))
    · refine refused <| (cadenced two).trans <| State.changeWithin_noRoom
        (State.laneRefusal_cadenced_passes lane setup long within) (by rw [fieldLane_cadenced lane, Option.getD_some]) ?_
      rw [State.overCap_cadenced setup, askedShare_cadenced, ← cadence, State.sumWithout, charged]
      exact decide_eq_true capped
end

section
/-! PROOFS. CLAIM_SETUP (R99, R100) and the two steps of the claim target (R106, R107). -/

namespace Sys2Proof.Machine

/-! ### The clamps of R99 -/

theorem clampN_mem {lo hi : Nat} (x : Nat) (h : lo ≤ hi) : lo ≤ clampN lo hi x ∧ clampN lo hi x ≤ hi := by
  unfold clampN
  split_ifs <;> omega

/-- The ranges of R99's clamps are not empty, and the eight settings are these. -/
theorem claimClamp_eq {b : ClaimSetupBody} {n : ClaimSettings} (cMin : n.cMin = max 1 (min b.cMin.toNat 64))
    (cMax : n.cMax = max n.cMin (min b.cMax.toNat 512)) (cOpen : n.cOpen = max n.cMin (min b.cOpen.toNat n.cMax))
    (gain : n.gain = b.gain.toNat) (boost : n.boost = b.boost.toNat) (Gs : n.Gs = max 1 (min b.Gs.toNat 16))
    (K : n.K = max 3 (min b.K.toNat 6)) (bs : n.bs = min b.bs.toNat 9) : claimClamp b = n := by
  have min_eq : clampN 1 64 b.cMin.toNat = n.cMin := by rw [clampN_eq _ (by decide), cMin]
  have max_eq : clampN n.cMin 512 b.cMax.toNat = n.cMax := by rw [clampN_eq _ (by omega), cMax]
  have open_eq : clampN n.cMin n.cMax b.cOpen.toNat = n.cOpen := by rw [clampN_eq _ (by omega), cOpen]
  have rest : clampN 1 16 b.Gs.toNat = n.Gs ∧ clampN 3 6 b.K.toNat = n.K ∧ clampN 0 9 b.bs.toNat = n.bs := by
    refine ⟨?_, ?_, ?_⟩ <;> rw [clampN_eq _ (by decide)] <;> omega
  obtain ⟨Gs_eq, K_eq, bs_eq⟩ := rest
  simp only [claimClamp, min_eq, max_eq, open_eq, Gs_eq, K_eq, bs_eq, ← gain, ← boost]

theorem claimClamp_inOrder (b : ClaimSetupBody) : (claimClamp b).inOrder := by
  have min_mem := clampN_mem (lo := 1) (hi := 64) b.cMin.toNat (by decide)
  have max_mem := clampN_mem (lo := clampN 1 64 b.cMin.toNat) (hi := 512) b.cMax.toNat (by omega)
  have open_mem := clampN_mem b.cOpen.toNat max_mem.1
  exact ⟨min_mem.1, open_mem.1, open_mem.2, max_mem.2⟩

/-! ### The settings replaced (R100) -/

/-- Of two writes of one Claim Controller the later stands. -/
@[simp] theorem State.setClaim_setClaim (s : State) (l : LaneId) (v w : Claim) :
    (s.setClaim l v).setClaim l w = s.setClaim l w := by
  simp [State.setClaim]

theorem State.enterOpen_setClaim (s : State) (l : LaneId) (c : Claim) : (s.setClaim l c).enterOpen l =
    (s.setClaim l { c with mode := .opening, target := some c.settings.cOpen }).raise
      (.claimMode l .opening c.settings.cOpen .missing) := by
  simp [State.enterOpen]

section
variable {s : State} {l : LaneId} {n : ClaimSettings}

theorem State.replaceClaim_absent (absent : (s.claim l).target = none) :
    s.replaceClaim l n = s.setClaim l { s.claim l with settings := n } := by
  simp [State.replaceClaim, Claim.replace, absent]

theorem State.replaceClaim_opening (present : (s.claim l).target.isSome = true) (mode : (s.claim l).mode = .opening) :
    s.replaceClaim l n = s.setClaim l
      { mode := .opening, target := some n.cOpen, missing := min (s.claim l).missing n.K, settings := n } := by
  obtain ⟨T, target⟩ := Option.isSome_iff_exists.1 present
  simp [State.replaceClaim, Claim.replace, target, mode]

theorem State.replaceClaim_tracking {T : Nat} (target : (s.claim l).target = some T) (mode : (s.claim l).mode = .tracking)
    (below : (s.claim l).missing < n.K) : s.replaceClaim l n = s.setClaim l
      { mode := .tracking, target := some (clampN n.cMin n.cMax T), missing := (s.claim l).missing, settings := n } := by
  have least : min (s.claim l).missing n.K = (s.claim l).missing := Nat.min_eq_left below.le
  simp [State.replaceClaim, Claim.replace, target, mode, least, below.ne]

/-- A count that meets the new K takes the lane to OPEN. -/
theorem State.replaceClaim_missing (present : (s.claim l).target.isSome = true) (mode : (s.claim l).mode = .tracking)
    (met : n.K ≤ (s.claim l).missing) : s.replaceClaim l n =
      (s.setClaim l { mode := .opening, target := some n.cOpen, missing := n.K, settings := n }).raise
        (.claimMode l .opening n.cOpen .missing) := by
  obtain ⟨T, target⟩ := Option.isSome_iff_exists.1 present
  have least : min (s.claim l).missing n.K = n.K := Nat.min_eq_right met
  simp [State.replaceClaim, Claim.replace, target, mode, least, State.enterOpen_setClaim]

end

/-- A report leaves the Claim Controllers. -/
@[simp] theorem State.claim_raise (s : State) (b : ReportBody) (l : LaneId) : (s.raise b).claim l = s.claim l := by
  simp [State.claim]

/-- CLAIM_SETUP's own rule with its checks passed: the settings replaced, and the reply's body from what then stands. -/
theorem claimSetupRule_done {d : State} {b : ClaimSetupBody} {l : LaneId} (lane : b.lane.toNat = l.val)
    (gain : b.gain.toNat ≤ 3) (boost : b.boost.toNat ≤ 7) : claimSetupRule b d =
      carryOut (.claimSetup ((d.replaceClaim l (claimClamp b)).claim l).settings ((d.replaceClaim l (claimClamp b)).claim l).mode
        ((d.replaceClaim l (claimClamp b)).claim l).target ((d.replaceClaim l (claimClamp b)).claim l).missing)
        (d.replaceClaim l (claimClamp b)) := by
  simp [claimSetupRule, laneOfByte_of_eq lane, Nat.not_lt.2 gain, Nat.not_lt.2 boost]

/-! ### The steps of the target (R106, R107) -/

theorem gainNumerator_eq {gain : Nat} (h : gain ≤ 3) : gainNumerator gain = [1, 2, 4, 6].getD gain 0 := by
  interval_cases gain <;> rfl

theorem boostMultiplier_eq {boost : Nat} (h : boost ≤ 7) : boostMultiplier boost = [1, 2, 3, 4, 6, 8, 16, 1].getD boost 0 := by
  interval_cases boost <;> rfl

theorem gainNumerator_mem (gain : Nat) : 1 ≤ gainNumerator gain ∧ gainNumerator gain ≤ 6 := by
  unfold gainNumerator
  split <;> decide

theorem boostMultiplier_pos (boost : Nat) : 1 ≤ boostMultiplier boost := by
  unfold boostMultiplier
  split <;> decide

section
variable {c : ClaimSettings} {ce B T : Nat}

theorem claimMove_growth (h : T < B) : claimMove c ce B T =
    min (T + ((B - T) * gainNumerator c.gain * boostMultiplier c.boost + 7) / 8) ce := by
  simp [claimMove, h, ceilDiv]

theorem claimMove_held (h : B < T) (boost : c.boost = 7) : claimMove c ce B T = T := by
  simp [claimMove, h, Nat.not_lt.2 h.le, holdsDecreases, boost]

theorem claimMove_shrink (h : B < T) (boost : c.boost ≠ 7) : claimMove c ce B T =
    max (T - max 1 ((T - B) * gainNumerator c.gain / 8)) c.cMin := by
  simp [claimMove, h, Nat.not_lt.2 h.le, holdsDecreases, boost]

theorem claimMove_self : claimMove c ce T T = T := by simp [claimMove]

end

/-- A growth step is at least 1. -/
theorem growthStep_pos {B T : Nat} (h : T < B) (c : ClaimSettings) :
    1 ≤ ((B - T) * gainNumerator c.gain * boostMultiplier c.boost + 7) / 8 := by
  have product : 0 < (B - T) * gainNumerator c.gain * boostMultiplier c.boost :=
    Nat.mul_pos (Nat.mul_pos (Nat.sub_pos_of_lt h) (gainNumerator_mem _).1) (boostMultiplier_pos _)
  omega

/-- A shrink step does not pass the estimate, gn being at most 6. -/
theorem shrinkStep_le {B T : Nat} (h : B < T) (c : ClaimSettings) : max 1 ((T - B) * gainNumerator c.gain / 8) ≤ T - B := by
  have product : (T - B) * gainNumerator c.gain ≤ (T - B) * 6 := Nat.mul_le_mul_left _ (gainNumerator_mem _).2
  omega

end Sys2Proof.Machine

open Sys2Proof Sys2Proof.Machine

/-- Settles O28: the growth, the held and the shrink case of `claimMove`. -/
theorem targetMovesByTheSteps : Obligations.TargetMovesByTheSteps := by
  rintro c ce B T _ _ gain boost rfl rfl
  rw [← gainNumerator_eq gain, ← boostMultiplier_eq boost]
  refine ⟨fun above => ⟨claimMove_growth above, growthStep_pos above c⟩, fun below least =>
    ⟨claimMove_held below, fun free => ?_⟩⟩
  have step := shrinkStep_le below c
  rw [claimMove_shrink below free]
  exact ⟨rfl, by omega⟩

/-- Settles O27: R99's refusals, and R100 by the cases of T and the mode. -/
theorem claimSetupReplacesTheSettings : Obligations.ClaimSetupReplacesTheSettings := by
  intro s d req b n h ho cMin cMax cOpen gain boost Gs K bs
  have clamped : claimClamp b = n := claimClamp_eq cMin cMax cOpen gain boost Gs K bs
  refine ⟨fun above => State.request_refused h ho (o := .badValue) (by simp [claimSetupRule, laneOfByte_of_above above]),
    fun l lane => ⟨fun bad => State.request_refused h ho (o := .badValue) ?_, fun gainOk boostOk => ?_⟩⟩
  · simp [claimSetupRule, laneOfByte_of_eq lane, bad]
  have rule := claimSetupRule_done (d := d) lane gainOk boostOk
  rw [clamped] at rule
  refine ⟨fun absent => ?_, fun present mode => ?_, fun T target mode below => ?_, fun present mode met => ?_⟩
  · refine State.request_done h ho ?_
    rw [rule, State.replaceClaim_absent absent, State.claim_setClaim_same, absent]
  · refine State.request_done h ho ?_
    rw [rule, State.replaceClaim_opening present mode, State.claim_setClaim_same]
  · refine State.request_done h ho ?_
    rw [rule, State.replaceClaim_tracking target mode below, State.claim_setClaim_same, clampN_eq T (by omega)]
  · refine State.request_done h ho ?_
    rw [rule, State.replaceClaim_missing present mode met, State.claim_raise, State.claim_setClaim_same]
end

section
/-! PROOFS. TALLY (R101, R103 to R105, R111): what a tally of a history entry does, and what it leaves unchanged. -/

namespace Sys2Proof.Machine

/-! ### The update (R105) -/

/-- The ceiling of R101 is not below C_min, so the clamp of the estimate has a range. -/
theorem claimEstimate_eq (c : ClaimSettings) (u : LaneSetup) (clean collided : Nat) :
    claimEstimate c (claimCeiling c u) clean collided =
      max c.cMin (min (clean + (5 * collided + 1) / 2) (claimCeiling c u)) :=
  clampN_eq _ (Nat.le_max_left _ _)

/-- T stays below the sample gate, and where the estimate is T itself. -/
theorem claimUpdate_eq {c : ClaimSettings} {u : LaneSetup} {T offered clean collided B : Nat}
    (estimate : B = claimEstimate c (claimCeiling c u) clean collided) :
    claimUpdate c u T offered clean collided =
      if offered < c.Gs ∨ B = T then T else claimMove c (claimCeiling c u) B T := by
  subst estimate
  unfold claimUpdate
  by_cases same : claimEstimate c (claimCeiling c u) clean collided = T
  · simp only [same, claimMove_self, or_true, ite_self]
  · simp only [same, or_false]

/-! ### The tally discarded or used (R103, R104) -/

/-- The entry with its tally arrived. -/
def HistEntry.arrived (h : HistEntry) : HistEntry := { h with tallyArrived := true }

section
variable {s : State} {l : LaneId} {h : HistEntry} {n c x : Nat}

theorem State.takeTally_discarded (bad : h.slots = 0 ∨ h.tallyArrived = true ∨ n ≠ h.slots) :
    s.takeTally l h n c x = s.count l fun k => { k with talliesDiscarded := raiseBy 1 k.talliesDiscarded } :=
  if_pos bad

theorem State.takeTally_used (slots : 0 < h.slots) (fresh : h.tallyArrived = false) (agrees : n = h.slots) :
    s.takeTally l h n c x = (s.modHistory l h.seq HistEntry.arrived).useTally l n c x :=
  if_neg (by simp [slots.ne', fresh, agrees])

/-- The Claim Controller after a used tally that takes T to `T'`. -/
def Claim.tracked (c : Claim) (T' : Nat) : Claim := { c with mode := .tracking, target := some T', missing := 0 }

/-- A used tally writes the Claim Controller, and leaving OPEN is reported. -/
theorem State.useTally_eq {T T' : Nat} (target : (s.claim l).target = some T)
    (moved : claimUpdate (s.claim l).settings (s.setupOf l) T n c x = T') : s.useTally l n c x =
      if (s.claim l).mode = .opening then
        (s.setClaim l ((s.claim l).tracked T')).raise (.claimMode l .tracking T' .firstTally)
      else s.setClaim l ((s.claim l).tracked T') := by
  subst moved
  simp only [State.useTally, target, Option.getD_some]
  rfl

/-- Either way the Control Port alone is written besides the Claim Controller. -/
theorem State.useTally_port {T T' : Nat} (target : (s.claim l).target = some T)
    (moved : claimUpdate (s.claim l).settings (s.setupOf l) T n c x = T') : s.useTally l n c x =
      { s.setClaim l ((s.claim l).tracked T') with port := (s.useTally l n c x).port } := by
  rw [State.useTally_eq target moved]
  split
  · exact State.raise_port _ _
  · rfl

end

/-- The entry that the plan sequence finds has that sequence. -/
theorem State.historyEntry_seq {s : State} {l : LaneId} {q : PlanSeq} {e : HistEntry} (found : s.historyEntry l q = some e) :
    e.seq = q := by
  simpa using List.find?_some found

/-- The state in which a used tally is applied: the record seen, and the entry's tally arrived (R31, R104). -/
def State.tallied (s : State) (h : RecordHead) : State := (s.seen h).modHistory h.port h.planSeq HistEntry.arrived

section
variable (s : State) (h : RecordHead)

@[simp] theorem State.tallied_claim (l : LaneId) : (s.tallied h).claim l = s.claim l := rfl

theorem State.tallied_lane : (s.tallied h).lane h.port = { s.lane h.port with
    history := (s.lane h.port).history.map fun g => if g.seq = h.planSeq then g.arrived else g } :=
  (s.seen h).lane_modLane_same h.port _

theorem State.tallied_lane_other {l : LaneId} (other : l ≠ h.port) : (s.tallied h).lane l = s.lane l :=
  (s.seen h).lane_modLane_other h.port l _ other

theorem State.tallied_setupOf : (s.tallied h).setupOf h.port = s.setupOf h.port := by
  rw [State.setupOf, State.tallied_lane, State.setupOf]

end

/-- A well-formed tally of an open lane that matches an entry reaches it (R27). -/
theorem exec_tally_matched {s : State} {h : RecordHead} {n c x e : BitVec 16} {E : HistEntry} (pin : s.resetPin = false)
    (isOpen : s.laneOpen h.port = true) (good : (Instr.tally h n c x e).recordMalformed = false)
    (found : s.historyEntry h.port h.planSeq = some E) :
    exec (.tally h n c x e) s = .next ((s.seen h).takeTally h.port E n.toNat c.toNat x.toNat) := by
  have wellFormed : tallyMalformed h n c x e = false := good
  have found' : (s.seen h).historyEntry h.port h.planSeq = some E := found
  have acts : exec (.tally h n c x e) s = .next (State.admitRecord h (tallyMalformed h n c x e) (State.matchHistory h
    fun g s => s.takeTally h.port g n.toNat c.toNat x.toNat) s) := s.unlessReset_free _ pin
  rw [acts, wellFormed, s.admitRecord_wellFormed h isOpen, State.matchHistory, found']

end Sys2Proof.Machine

open Sys2Proof Sys2Proof.Machine

/-- Settles O29: `takeTally` discards the tally or uses it, and `useTally` writes the Claim Controller and the report. -/
theorem tallyIsUsedOrDiscarded : Obligations.TallyIsUsedOrDiscarded := by
  intro s h n c x e E T T' B ce pin isOpen good found target hT' hce hB
  have matched := exec_tally_matched pin isOpen good found
  refine ⟨fun bad => by rw [matched, State.takeTally_discarded bad]; rfl, fun slots fresh agrees => ?_⟩
  rw [State.takeTally_used slots fresh agrees, State.historyEntry_seq found] at matched
  have moved : claimUpdate ((s.tallied h).claim h.port).settings ((s.tallied h).setupOf h.port) T n.toNat c.toNat x.toNat =
      T' := by
    rw [State.tallied_setupOf, State.tallied_claim, claimUpdate_eq (B := B) (by rw [claimEstimate_eq, hB, hce]; rfl), hT', hce]
    rfl
  have used := State.useTally_eq (s := s.tallied h) target moved
  have frame := State.useTally_port (s := s.tallied h) target moved
  refine ⟨(s.tallied h).useTally h.port n.toNat c.toNat x.toNat, matched, ?_, ?_, fun tracking => ?_, fun opening room => ?_,
    fun l other => ⟨?_, ?_⟩, ?_⟩
  · rw [frame]
    exact State.claim_setClaim_same _ _ _
  · rw [frame]
    exact congrArg Lane.history (s.tallied_lane h)
  · rw [used, if_neg (by simp [tracking])]
    rfl
  · rw [used, State.tallied_claim, if_pos opening]
    exact congrArg (fun t : State => t.port.reports) (((s.tallied h).setClaim _ _).raise_room _ room)
  · rw [frame]
    exact State.claim_setClaim_other _ _ _ _ other
  · rw [frame]
    exact s.tallied_lane_other h other
  · rw [frame]
    exact ⟨rfl, rfl, rfl, rfl, rfl⟩
end

section
/-! PROOFS. What the rules of the station and stream requests, the verdicts and the visits leave as it was: besides the tables they
write the due queue, the service lists and the report queue alone. -/

namespace Sys2Proof.Machine.State

variable (s : State)

/-! ### Service lists and references -/

/-- An operation that writes the service lists alone. -/
theorem Relisted.keeps {s t : State} (h : s.Relisted t) : s.Keeps t := by
  rw [h]
  exact .of_tables rfl

theorem keeps_unlistStreams (t : Nat) : s.Keeps (s.unlistStreams t) := (s.unlistStreams_spec t).1.keeps

theorem keeps_raiseRefs (stations streams : List Nat) : s.Keeps (s.raiseRefs stations streams) :=
  (Keeps.foldl (fun s t => s.keeps_setStationRefs t _) stations s).trans
    (.foldl (fun s i => s.keeps_setStreamRefs i _) streams _)

theorem keeps_dropQuietly (p : Plan) : s.Keeps (s.dropQuietly p) := (s.keeps_clearMarks p.record).trans (keeps_lowerRefs _ _ _)

/-! ### Verdicts and the schedule -/

theorem keeps_verdictDone (l : LaneId) (t : Nat) : s.Keeps (s.verdictDone l t) := by
  unfold State.verdictDone
  dsimp only
  split
  · exact (s.keeps_modStation t _).trans <| (keeps_modStation _ t _).trans <| (keeps_setDueLater _ t _).trans <|
      (Keeps.ite (fun _ => (keeps_tidyRefs _ t).trans (keeps_relistStreams _ t)) fun _ => .refl _).trans (keeps_raise _ _)
  iterate 3
    exact (s.keeps_modStation t _).trans (keeps_setDueLater _ t _)
  · exact (s.keeps_modStation t _).trans <| (keeps_modStation _ t _).trans (keeps_setDueNow _ t)
  iterate 3
    exact s.keeps_modStation t _

theorem keeps_becomeDue (t : Nat) : s.Keeps (State.becomeDue t s) :=
  .ite (fun _ => (s.keeps_checkStation .other t).trans (.ite (fun _ => keeps_joinDue _ t) fun _ => .refl _)) fun _ => .refl s

/-! ### Visits and bids -/

theorem keeps_skipVisit (l : LaneId) (k : Fin 4) (i : Nat) (credit : Int) : s.Keeps (s.skipVisit l k i credit) :=
  (s.keeps_modStream i _).trans (keeps_setList _ l k _)

theorem keeps_serveVisit (l : LaneId) (k : Fin 4) (i : Nat) (credit : Int) (cover : Nat) :
    s.Keeps (s.serveVisit l k i credit cover) :=
  (s.keeps_modStream i _).trans <|
    .ite (fun _ => (keeps_modStream _ i _).trans (keeps_leaveLists _ i)) fun _ => keeps_setList _ l k _

theorem keeps_applyBid (i seq amount : Nat) : s.Keeps (s.applyBid i seq amount) :=
  .ite (fun _ => s.keeps_modStream i _) fun _ =>
    (s.keeps_modStream i _).trans (.ite (fun _ => keeps_joinLists _ i) fun _ => .refl _)

/-! ### The rules of the station requests -/

theorem Keeps.carriedOut {s t : State} {body : ReplyBody} (h : s.Keeps t) : s.Keeps (carryOut body t).state := h

theorem keeps_onStation (tag : BitVec 16) {own : Nat → State → Answer} (h : ∀ t (s : State), s.Keeps (own t s).state) :
    s.Keeps (onStation tag own s).state := by
  unfold onStation
  split
  · exact .refl s
  · dsimp only
    split
    · exact s.keeps_checkStation .request _
    · exact (s.keeps_checkStation .request _).trans (h _ _)

theorem keeps_fitStream (m : LaneSet) (i : Nat) : s.Keeps (State.fitStream m s i) := by
  unfold State.fitStream
  dsimp only
  split
  · exact .ite (fun _ => s.keeps_removeStream i) fun _ => (s.keeps_modStream i _).trans (Relisted.leaveLanes _ i _).keeps
  · exact .ite (fun _ => .refl s) fun _ => s.keeps_removeStream i

theorem keeps_placeHome (t : Nat) (m : LaneSet) : s.Keeps (s.placeHome t m) :=
  .ite (fun _ => .refl s) fun _ => (s.keeps_modStation t _).trans (.ite (fun _ => .refl _) fun _ => keeps_rehome _ t)

theorem keeps_admitHome (t : Nat) (m : LaneSet) : s.Keeps (s.admitHome t m) := by
  rw [admitHome_eq]
  split
  · exact (s.keeps_placeHome t m).trans (keeps_resumeOn _ t _)
  · exact s.keeps_placeHome t m

theorem keeps_prepared (t : Nat) (clear : Bool) : s.Keeps (s.prepared t clear) :=
  .ite (fun _ => (s.keeps_tidyRefs t).trans (keeps_clearStreams _ t)) fun _ => s.keeps_tidyRefs t

theorem keeps_activated (t : Nat) : s.Keeps (s.activated t) :=
  .ite (fun _ => (s.keeps_modStation t _).trans (keeps_relistStreams _ t)) fun _ => .refl s

theorem keeps_admission (t : Nat) (m : LaneSet) (clear : Bool) : s.Keeps (s.admission t m clear).1 := by
  rw [State.admission_eq]
  exact (s.keeps_prepared t clear).trans <| (keeps_modStation _ t _).trans <|
    (Keeps.foldl (fun s i => s.keeps_fitStream m i) _ _).trans <| (keeps_admitHome _ t m).trans <|
    (keeps_modStation _ t _).trans (keeps_activated _ t)

theorem keeps_admitOwn (m : LaneSet) (clear : Bool) (t : Nat) : s.Keeps (admitOwn m clear t s).state := by
  unfold admitOwn
  split
  iterate 3
    split
    · exact .refl s
    · exact .carriedOut (s.keeps_admission t m clear)
  exact .refl s

theorem keeps_holdOwn (t : Nat) : s.Keeps (holdOwn t s).state := by
  unfold holdOwn
  split
  · exact .carriedOut ((s.keeps_tidyRefs t).trans <| (keeps_modStation _ t _).trans (keeps_unlistStreams _ t))
  · exact .refl s

theorem keeps_resumeOwn (t : Nat) : s.Keeps (resumeOwn t s).state := by
  unfold resumeOwn
  split
  · exact .carriedOut ((s.keeps_tidyRefs t).trans <| (keeps_modStation _ t _).trans (keeps_relistStreams _ t))
  · exact .refl s

theorem keeps_releaseOwn (t : Nat) : s.Keeps (releaseOwn t s).state := by
  unfold releaseOwn
  split
  · exact .refl s
  · exact .carriedOut (s.keeps_release t _)

theorem keeps_stationReadRule (first : BitVec 16) (count : Byte) : s.Keeps (stationReadRule first count s).state := by
  unfold stationReadRule
  split
  · exact .refl s
  · split
    · exact .refl s
    · exact .carriedOut (.foldl (fun s t => s.keeps_checkStation .request t) _ s)

/-! ### The rules of the stream requests -/

theorem keeps_recordShare (i : Nat) (l : LaneId) (share : Nat) : s.Keeps (s.recordShare i l share) :=
  (s.keeps_setShareSum l _).trans (keeps_setReserved _ i _)

theorem keeps_enterStream (i t : Nat) (slot : Fin 8) (k : StreamKind) (f : StreamFields) (l : LaneId) :
    s.Keeps (s.enterStream i t slot k f l) :=
  (s.keeps_leaveLists i).trans <| (keeps_putStream _ i _).trans (keeps_modStation _ t _)

theorem keeps_addStream (i t : Nat) (slot : Fin 8) (k : StreamKind) (f : StreamFields) (l : LaneId) :
    s.Keeps (s.addStream i t slot k f l) := by
  have entered := s.keeps_enterStream i t slot k f l
  rw [addStream_eq]
  exact .ite (fun _ => entered.trans (keeps_recordShare _ i l _)) fun _ => entered

theorem keeps_streamAddRule (tag : BitVec 16) (slot : Byte) (f : StreamFields) : s.Keeps (streamAddRule tag slot f s).state := by
  unfold streamAddRule
  split
  · rename_i t k _ _
    have read := s.keeps_checkStation .request t
    dsimp only
    by_cases inRange : slot.toNat < 8
    · rw [dif_pos inRange]
      repeat' split
      · exact .refl s
      iterate 6
        exact read
      all_goals exact .carriedOut (read.trans (keeps_addStream _ _ _ _ _ _ _))
    · rw [dif_neg inRange]
      exact .refl s
  · exact .refl s

theorem keeps_replaceCadence (i : Nat) (old : StreamEntry) : s.Keeps (s.replaceCadence i old) :=
  (s.keeps_dropShare i).trans <| (keeps_recordShare _ i _ _).trans (.ite (fun _ => .refl _) fun _ => keeps_modStream _ i _)

theorem keeps_changeStream (i : Nat) (k : StreamKind) (f : StreamFields) (l : LaneId) : s.Keeps (s.changeStream i k f l) := by
  have wrote := s.keeps_modStream i fun e => e.withFields k f l
  cases k with
  | bidding => exact wrote.trans (Relisted.replaceLists _ i _).keeps
  | cadenced => exact wrote.trans (keeps_replaceCadence _ i _)

theorem keeps_checkOwner (i : Nat) : s.Keeps (s.checkOwner i) := by
  unfold State.checkOwner
  split
  · exact .ite (fun _ => s.keeps_checkStation .request _) fun _ => .refl s
  · exact .refl s

theorem keeps_changeWithin (i : Nat) (k : StreamKind) (f : StreamFields) (own : LaneSet) :
    s.Keeps (s.changeWithin i k f own).state := by
  unfold changeWithin
  split
  · exact .refl s
  · split
    · exact .refl s
    · exact .carriedOut (s.keeps_changeStream i k f _)

theorem keeps_changeOwn (i : Nat) (k : StreamKind) (f : StreamFields) : s.Keeps (changeOwn i k f s).state := by
  have read := s.keeps_checkOwner i
  rw [changeOwn_eq]
  split
  · exact read
  · exact read.trans (keeps_changeWithin _ i k f _)

theorem keeps_streamChangeRule (index : BitVec 16) (f : StreamFields) : s.Keeps (streamChangeRule index f s).state := by
  unfold streamChangeRule
  split
  · exact .refl s
  · rename_i k _
    have read := s.keeps_checkStream .request index.toNat
    dsimp only
    split
    · exact .refl s
    · split
      iterate 4
        exact read
      split
      · exact read
      · exact read.trans (keeps_changeOwn _ _ k f)

theorem keeps_streamRemoveRule (index : BitVec 16) : s.Keeps (streamRemoveRule index s).state := by
  have read := s.keeps_checkStream .request index.toNat
  have owned := read.trans (keeps_checkOwner _ index.toNat)
  unfold streamRemoveRule
  dsimp only
  split
  · exact .refl s
  · split
    iterate 2
      exact read
    split
    · exact owned
    · exact .carriedOut (owned.trans (keeps_removeStream _ _))

theorem keeps_streamReadRule (first : BitVec 16) (count : Byte) : s.Keeps (streamReadRule first count s).state := by
  unfold streamReadRule
  split
  · exact .refl s
  · exact .carriedOut (.foldl (fun s i => s.keeps_checkStream .request i) _ s)

end Sys2Proof.Machine.State
end

section
/-! PROOFS. Claim targets within their bounds (R98 to R100, R106, R107): what is asked of one Claim Controller, and the operations that
keep it so. -/

namespace Sys2Proof.Machine

/-! ### One Claim Controller -/

/-- What is asked of a Claim Controller whose lane is in the state: settings in order, T within C_min and C_max wherever it is
present, and T present unless the lane is IDLE. -/
structure Claim.Sound (c : Claim) (st : LaneState) : Prop where
  order : c.settings.inOrder
  range : ∀ T ∈ c.target, c.settings.cMin ≤ T ∧ T ≤ c.settings.cMax
  present : st ≠ .idle → c.target.isSome = true

theorem State.claimsSound_iff {s : State} : s.claimsSound ↔ ∀ l, (s.claim l).Sound (s.lane l).state :=
  forall_congr' fun _ => ⟨fun ⟨order, range, present⟩ => ⟨order, range, present⟩, fun h => ⟨h.order, h.range, h.present⟩⟩

/-- The target stays between C_min and C_max at every move: the ceiling and the estimate's side of T bound it (R101, R106, R107). -/
theorem claimMove_mem {c : ClaimSettings} (u : LaneSetup) (B : Nat) {T : Nat} (low : c.cMin ≤ T) (high : T ≤ c.cMax) :
    c.cMin ≤ claimMove c (claimCeiling c u) B T ∧ claimMove c (claimCeiling c u) B T ≤ c.cMax := by
  have ceiling : c.cMin ≤ claimCeiling c u ∧ claimCeiling c u ≤ c.cMax := by unfold claimCeiling; omega
  rcases Nat.lt_trichotomy T B with above | rfl | below
  · rw [claimMove_growth above]
    omega
  · rw [claimMove_self]
    exact ⟨low, high⟩
  · by_cases boost : c.boost = 7
    · rw [claimMove_held below boost]
      exact ⟨low, high⟩
    · rw [claimMove_shrink below boost]
      omega

theorem claimUpdate_mem {c : ClaimSettings} (u : LaneSetup) {T : Nat} (offered clean collided : Nat) (low : c.cMin ≤ T)
    (high : T ≤ c.cMax) :
    c.cMin ≤ claimUpdate c u T offered clean collided ∧ claimUpdate c u T offered clean collided ≤ c.cMax := by
  rw [claimUpdate_eq rfl]
  split
  · exact ⟨low, high⟩
  · exact claimMove_mem u _ low high

namespace Claim.Sound

variable {c : Claim} {st : LaneState}

theorem of_target {T : Nat} (order : c.settings.inOrder) (target : c.target = some T) (low : c.settings.cMin ≤ T)
    (high : T ≤ c.settings.cMax) (st : LaneState) : c.Sound st where
  order := order
  range T' h := by
    obtain rfl := Option.some.inj (target.symm.trans h)
    exact ⟨low, high⟩
  present _ := by rw [target]; rfl

/-- T at C_open is within its bounds (R99). -/
theorem opened (order : c.settings.inOrder) (missing : Nat) (st : LaneState) :
    { c with mode := .opening, target := some c.settings.cOpen, missing := missing : Claim }.Sound st :=
  of_target (c := { c with mode := .opening, target := some c.settings.cOpen, missing := missing }) order rfl order.2.1
    order.2.2.1 st

/-- A used tally meets a lane that is not IDLE, so a T that is present (R104). -/
theorem tracked (h : c.Sound st) (busy : st ≠ .idle) (u : LaneSetup) (offered clean collided : Nat) :
    (c.tracked (claimUpdate c.settings u (c.target.getD 0) offered clean collided)).Sound st := by
  obtain ⟨T, target⟩ := Option.isSome_iff_exists.1 (h.present busy)
  obtain ⟨low, high⟩ := h.range T target
  have moved := claimUpdate_mem u offered clean collided low high
  rw [target]
  exact of_target (c := c.tracked _) h.order rfl moved.1 moved.2 st

/-- New settings bring T within their own bounds (R100). -/
theorem replace (h : c.Sound st) {n : ClaimSettings} (order : n.inOrder) : (c.replace n).Sound st := by
  unfold Claim.replace
  split
  · rename_i absent
    exact ⟨order, fun T hT => absurd (absent.symm.trans hT) nofun, h.present⟩
  · rename_i T _
    cases c.mode with
    | opening => exact opened (c := { c with settings := n }) order _ st
    | tracking =>
      have clamped := clampN_mem T (order.2.1.trans order.2.2.1)
      exact of_target order rfl clamped.1 clamped.2 st

end Claim.Sound

/-! ### The relation -/

/-- From `s` to `t`, no Claim Controller loses its soundness. -/
def State.KeepsTargets (s t : State) : Prop := ∀ l, (s.claim l).Sound (s.lane l).state → (t.claim l).Sound (t.lane l).state

namespace State.KeepsTargets

variable {s t u : State}

theorem refl (s : State) : s.KeepsTargets s := fun _ => id

theorem trans (h : s.KeepsTargets t) (k : t.KeepsTargets u) : s.KeepsTargets u := fun l => k l ∘ h l

/-- An operation that writes no Claim Controller and gives no lane another state. -/
theorem of_frame (claims : t.claims = s.claims) (state : ∀ l, (t.lane l).state = (s.lane l).state) : s.KeepsTargets t :=
  fun l sound => by
    rw [State.claim, claims, state]
    exact sound

/-- An operation that writes neither a Claim Controller nor a lane. -/
theorem of_rest (claims : t.claims = s.claims) (lanes : t.lanes = s.lanes) : s.KeepsTargets t :=
  of_frame claims fun l => by rw [State.lane, lanes]; rfl

/-- What each step of a walk keeps, the walk keeps. -/
theorem foldl {α : Type} {f : State → α → State} (step : ∀ (s : State) (a : α), s.KeepsTargets (f s a)) (l : List α)
    (s : State) : s.KeepsTargets (l.foldl f s) :=
  List.foldlRecOn l f (refl s) fun _ h a _ => h.trans (step _ a)

theorem ite {p : Prop} [Decidable p] (ht : p → s.KeepsTargets t) (hu : ¬p → s.KeepsTargets u) :
    s.KeepsTargets (if p then t else u) := by
  split
  · exact ht ‹_›
  · exact hu ‹_›

end State.KeepsTargets

theorem State.Keeps.targets {s t : State} (h : s.Keeps t) : s.KeepsTargets t := .of_frame h.claims fun l => by rw [h.lane l]

namespace State

variable (s : State)

/-! ### Single writes -/

theorem targets_setClaim (l : LaneId) (v : Claim) (sound : (s.claim l).Sound (s.lane l).state → v.Sound (s.lane l).state) :
    s.KeepsTargets (s.setClaim l v) := fun m h => by
  by_cases same : m = l
  · subst same
    rw [claim_setClaim_same]
    exact sound h
  · rw [claim_setClaim_other _ _ _ _ same]
    exact h

/-- A write of a lane that leaves its state. -/
theorem targets_modLane (l : LaneId) (f : Lane → Lane) (same : ∀ v, (f v).state = v.state := by exact fun _ => rfl) :
    s.KeepsTargets (s.modLane l f) := .of_frame rfl fun m => by
  by_cases at_ : m = l
  · subst at_
    rw [lane_modLane_same, same]
  · rw [lane_modLane_other _ _ _ _ at_]

/-- A lane that is not IDLE may be given any state, and every lane may be made IDLE. -/
theorem targets_setLaneState (l : LaneId) (st : LaneState) (busy : st ≠ .idle → (s.lane l).state ≠ .idle) :
    s.KeepsTargets (s.setLaneState l st) := fun m sound => by
  rw [State.claim, setLaneState_claims]
  refine ⟨sound.order, sound.range, fun other => sound.present ?_⟩
  by_cases at_ : m = l
  · subst at_
    rw [setLaneState_lane_same] at other
    exact busy other
  · rwa [setLaneState_lane_other _ _ _ at_] at other

theorem targets_raise (b : ReportBody) : s.KeepsTargets (s.raise b) := (s.keeps_raise b).targets

theorem targets_count (l : LaneId) (f : LaneCounters → LaneCounters) : s.KeepsTargets (s.count l f) := s.targets_modLane l _

theorem targets_modHistory (l : LaneId) (q : PlanSeq) (f : HistEntry → HistEntry) : s.KeepsTargets (s.modHistory l q f) :=
  s.targets_modLane l _

theorem targets_setRx (l : LaneId) (v : RxPort) : s.KeepsTargets (s.setRx l v) := .of_rest rfl rfl
theorem targets_setPort (p : ControlPort) : s.KeepsTargets { s with port := p } := .of_rest rfl rfl
theorem targets_setDraft (d : Option Draft) : s.KeepsTargets (s.setDraft d) := .of_rest rfl rfl
theorem targets_modDraft (f : Draft → Draft) : s.KeepsTargets (s.modDraft f) := .of_rest rfl rfl
theorem targets_setBuilder (b : PlanBuilder) : s.KeepsTargets { s with builder := b } := .of_rest rfl rfl
theorem targets_setLink (k : PlanLink) : s.KeepsTargets { s with link := k } := .of_rest rfl rfl
theorem targets_setIntegrity (i : IntegrityUnit) : s.KeepsTargets { s with integrity := i } := .of_rest rfl rfl

theorem targets_refreshPart : s.KeepsTargets s.refreshPart := by
  rw [refreshPart_eq]
  exact s.targets_setPort _

/-! ### Claim Controllers -/

theorem targets_useTally (l : LaneId) (offered clean collided : Nat) (busy : (s.lane l).state ≠ .idle) :
    s.KeepsTargets (s.useTally l offered clean collided) :=
  (s.targets_setClaim l _ fun sound => sound.tracked busy _ _ _ _).trans (.ite (fun _ => targets_raise _ _) fun _ => .refl _)

theorem targets_takeTally (l : LaneId) (h : HistEntry) (offered clean collided : Nat) (busy : (s.lane l).state ≠ .idle) :
    s.KeepsTargets (s.takeTally l h offered clean collided) :=
  .ite (fun _ => s.targets_count l _) fun _ => (s.targets_modHistory l h.seq _).trans <| targets_useTally _ l _ _ _ <| by
    rw [State.modHistory, lane_modLane_same]
    exact busy

theorem targets_enterOpen (l : LaneId) : s.KeepsTargets (s.enterOpen l) := by
  refine (s.targets_setClaim l _ fun sound => ?_).trans (targets_raise _ _)
  exact .opened sound.order _ _

theorem targets_missingTally (l : LaneId) : s.KeepsTargets (s.missingTally l) := by
  refine (s.targets_setClaim l _ fun sound => ?_).trans (.ite (fun _ => targets_enterOpen _ l) fun _ => .refl _)
  exact ⟨sound.order, sound.range, sound.present⟩

theorem targets_replaceClaim (l : LaneId) {n : ClaimSettings} (order : n.inOrder) : s.KeepsTargets (s.replaceClaim l n) :=
  (s.targets_setClaim l _ fun sound => sound.replace order).trans (.ite (fun _ => targets_enterOpen _ l) fun _ => .refl _)

/-! ### A lane's start, stop and fault (R14 to R18) -/

/-- A start sets T to C_open (R14). -/
theorem targets_startLane (l : LaneId) : s.KeepsTargets (s.startLane l) := fun m sound => by
  rw [startLane_claim]
  by_cases same : m = l
  · subst same
    rw [if_pos rfl]
    exact .opened sound.order 0 _
  · rw [if_neg same, startLane_lane_other _ _ same]
    exact sound

theorem targets_clearHistory (l : LaneId) : s.KeepsTargets (s.clearHistory l) :=
  (s.targets_modLane l _).trans (s.keeps_clearHistory l).targets

theorem targets_reachIdle (l : LaneId) : s.KeepsTargets (s.reachIdle l) :=
  (s.targets_setLaneState l .idle fun other => absurd rfl other).trans <| (targets_clearHistory _ l).trans <|
    (keeps_emptyNotices _ l).targets.trans <| (targets_modLane _ l _).trans (targets_raise _ _)

theorem targets_settleDraining (l : LaneId) : s.KeepsTargets (s.settleDraining l) :=
  .ite (fun _ => s.targets_reachIdle l) fun _ => .refl s

theorem targets_withdraw (l : LaneId) : s.KeepsTargets (s.withdraw l) := s.targets_setBuilder _

theorem targets_stopLive (l : LaneId) (live : (s.lane l).state = .live) : s.KeepsTargets (s.stopLive l) :=
  (s.targets_setLaneState l .draining fun _ => by rw [live]; decide).trans <| (targets_withdraw _ l).trans <|
    (keeps_rehomeAll _ l).targets.trans (targets_settleDraining _ l)

theorem targets_stopFaulted (l : LaneId) : s.KeepsTargets (s.stopFaulted l) :=
  (s.targets_setLaneState l .idle fun other => absurd rfl other).trans <| (targets_modLane _ l _).trans (targets_raise _ _)

theorem targets_enterFaulted (l : LaneId) (live : (s.lane l).state = .live) : s.KeepsTargets (s.enterFaulted l) :=
  (s.targets_setLaneState l .faulted fun _ => by rw [live]; decide).trans <| (targets_withdraw _ l).trans <|
    (targets_setLink _ _).trans <| (keeps_restoreData _ _).targets.trans <| (Keeps.foldl keeps_dropQuietly _ _).targets.trans <|
    (targets_clearHistory _ l).trans <|
    ((keeps_emptyNotices _ l).trans <| (keeps_rehomeAll _ l).trans (keeps_raise _ _)).targets

theorem targets_faultIfDue (l : LaneId) : s.KeepsTargets (s.faultIfDue l) :=
  .ite (fun due => s.targets_enterFaulted l due.1) fun _ => .refl s

end State

end Sys2Proof.Machine
end

section
/-! PROOFS. The records, builds and transmissions keep claim targets within their bounds. -/

namespace Sys2Proof.Machine.State

variable (s : State)

/-! ### Reception records -/

theorem targets_pushNotice (l : LaneId) (b : NoticeBody) : s.KeepsTargets (s.pushNotice l b) := s.targets_modLane l _

theorem targets_discardResult (l : LaneId) : s.KeepsTargets (s.discardResult l) := s.targets_count l _

theorem targets_giveVerdict (l : LaneId) (t : Nat) (dt dp : Int) (v : Verdict) : s.KeepsTargets (s.giveVerdict l t dt dp v) :=
  (s.targets_pushNotice l _).trans (keeps_modStation _ t _).targets

theorem targets_measure (l : LaneId) (t : Nat) (et ep : Int) : s.KeepsTargets (s.measure l t et ep) :=
  (s.keeps_modStation t _).targets.trans <|
    .ite (fun _ => (targets_giveVerdict _ l t _ _ _).trans (keeps_verdictDone _ l t).targets) fun _ =>
      (keeps_modStation _ t _).targets.trans <|
        .ite (fun _ => (targets_giveVerdict _ l t _ _ _).trans (keeps_verdictAbort _ l t).targets) fun _ =>
          (targets_giveVerdict _ l t _ _ _).trans (keeps_setDueNow _ t).targets

theorem targets_takeTurnReport (l : LaneId) (t : Nat) (r : TurnReport) : s.KeepsTargets (s.takeTurnReport l t r) := by
  cases r with
  | none => exact (s.keeps_noShow l t).targets
  | some m =>
    exact .ite (fun _ => (s.keeps_noShow l t).targets) fun _ =>
      .ite (fun _ => (s.targets_discardResult l).trans (keeps_noShow _ l t).targets) fun _ => s.targets_measure l t _ _

theorem targets_alignmentRecord (l : LaneId) (h : HistEntry) (t : Nat) (r : TurnReport) :
    s.KeepsTargets (s.alignmentRecord l h t r) := by
  unfold State.alignmentRecord
  split
  · exact s.targets_discardResult l
  · exact .ite (fun _ => s.targets_discardResult l) fun _ =>
      (s.keeps_checkStation .record t).targets.trans <| (targets_modHistory _ l h.seq _).trans <|
        (keeps_clearMark _ l h.seq t).targets.trans <|
          .ite (fun _ => targets_takeTurnReport _ l t r) fun _ => targets_discardResult _ l

theorem targets_takeBid (l : LaneId) (t : Nat) (slot : Fin 8) (seq amount : Nat) :
    s.KeepsTargets (s.takeBid l t slot seq amount) := by
  refine (s.keeps_checkStation .record t).targets.trans (.ite (fun _ => targets_count _ l _) fun _ => ?_)
  split
  · exact targets_count _ l _
  · exact .ite (fun _ => targets_count _ l _) fun _ => (keeps_checkStream _ .record _).targets.trans <|
      .ite (fun _ => (keeps_applyBid _ _ _ _).targets.trans (targets_count _ l _)) fun _ => targets_count _ l _

theorem targets_refuseJoin (l : LaneId) (a : HwAddr) (r : JoinRefusal) : s.KeepsTargets (s.refuseJoin l a r) :=
  (s.targets_discardResult l).trans (targets_raise _ _)

theorem targets_newJoin (l : LaneId) (h : HistEntry) (a : HwAddr) (t : Nat) (et ep : Int) :
    s.KeepsTargets (s.newJoin l h a t et ep) :=
  (KeepsTargets.of_rest rfl rfl : s.KeepsTargets { s with stations := { s.stations with
      freeTags := s.stations.freeTags.tail, joinMap := s.stations.joinMap ++ [(a, t)] } }).trans <|
    ((keeps_putStation _ t _).trans (keeps_setDueNow _ t)).targets.trans <| (targets_pushNotice _ l _).trans <|
    (targets_modHistory _ l h.seq _).trans (targets_raise _ _)

theorem targets_rejoin (l : LaneId) (h : HistEntry) (a : HwAddr) (t : Nat) (et ep : Int) :
    s.KeepsTargets (s.rejoin l h a t et ep) :=
  ((s.keeps_modStation t _).trans <| (keeps_tidyRefs _ t).trans <| (keeps_clearStreams _ t).trans
    (keeps_setDueNow _ t)).targets.trans <|
    (targets_pushNotice _ l _).trans <| (targets_modHistory _ l h.seq _).trans (targets_raise _ _)

theorem targets_joinRecord (l : LaneId) (h : HistEntry) (a : HwAddr) (et ep : Int) (quality : Nat) :
    s.KeepsTargets (s.joinRecord l h a et ep quality) := by
  refine .ite (fun _ => s.targets_discardResult l) fun _ => ?_
  split
  · exact (s.keeps_checkStation .record _).targets.trans <| .ite (fun _ => targets_refuseJoin _ l a _) fun _ =>
      .ite (fun _ => targets_refuseJoin _ l a _) fun _ => targets_rejoin _ l h a _ et ep
  · refine .ite (fun _ => s.targets_refuseJoin l a _) fun _ => ?_
    split
    · exact s.targets_refuseJoin l a _
    · exact .ite (fun _ => s.targets_refuseJoin l a _) fun _ => s.targets_newJoin l h a _ et ep

theorem laneOpen_busy {l : LaneId} (isOpen : s.laneOpen l = true) : (s.lane l).state ≠ .idle := fun idle => by
  simp [laneOpen, idle] at isOpen

/-- What follows check 1 of R27 meets a lane that is not IDLE. -/
theorem targets_admitRecord (h : RecordHead) (bad : Bool) {go : State → State}
    (kept : ∀ s : State, (s.lane h.port).state ≠ .idle → s.KeepsTargets (go s)) :
    s.KeepsTargets (State.admitRecord h bad go s) :=
  .ite (fun isOpen => (s.targets_setRx _ _).trans <| .ite (fun _ => targets_setRx _ _ _) fun _ => kept _ (s.laneOpen_busy isOpen))
    fun _ => s.targets_setRx _ _

theorem targets_checkTag (h : RecordHead) (w : BitVec 16) {go : State → State} (kept : s.KeepsTargets (go s)) :
    s.KeepsTargets (State.checkTag h w go s) := .ite (fun _ => kept) fun _ => s.targets_setRx _ _

theorem targets_matchHistory (h : RecordHead) {own : HistEntry → State → State} (kept : ∀ e, s.KeepsTargets (own e s)) :
    s.KeepsTargets (State.matchHistory h own s) := by
  unfold State.matchHistory
  split
  · exact kept _
  · exact s.targets_setRx _ _

/-! ### Spans -/

theorem targets_skipSpan (w : WaitingSpan) : s.KeepsTargets (s.skipSpan w) :=
  (s.targets_setBuilder _).trans <| (targets_modLane _ w.lane _).trans <| (targets_raise _ _).trans (targets_faultIfDue _ w.lane)

theorem targets_expireSpan (l : LaneId) (k : BitVec 32) : s.KeepsTargets (State.expireSpan l k s) := by
  unfold State.expireSpan
  split
  · exact .refl s
  · exact .ite (fun _ => s.targets_skipSpan _) fun _ => .refl s

theorem targets_handOver (l : LaneId) : s.KeepsTargets (State.handOver l s) :=
  .ite (fun _ => (s.targets_setBuilder _).trans (targets_modLane _ l _)) fun _ => .refl s

theorem targets_endCovered (l : LaneId) : s.KeepsTargets (State.endCovered l s) :=
  .ite (fun _ => s.targets_modLane l _) fun _ => .refl s

/-! ### The stages of a build -/

/-- Work on the draft at its stage. -/
theorem targets_atStage (st : Stage) {f : Draft → State} (kept : ∀ d, s.KeepsTargets (f d)) :
    s.KeepsTargets (s.atStage st f) := by
  unfold State.atStage
  split
  · exact .ite (fun _ => kept _) fun _ => .refl s
  · exact .refl s

theorem targets_buildReadStation (t : Nat) : s.KeepsTargets (s.buildReadStation t) := by
  unfold State.buildReadStation
  split
  · exact .refl s
  · exact .ite (fun _ => .refl s) fun _ => (s.targets_setDraft _).trans (keeps_checkStation _ .build t).targets

theorem targets_buildReadStream (i : Nat) : s.KeepsTargets (s.buildReadStream i) := by
  unfold State.buildReadStream
  split
  · exact .refl s
  · exact .ite (fun _ => .refl s) fun _ => (s.targets_setDraft _).trans (keeps_checkStream _ .build i).targets

theorem targets_buildReadOwner (i : Nat) : s.KeepsTargets (s.buildReadOwner i) := by
  unfold State.buildReadOwner
  split
  · exact s.targets_buildReadStation _
  · exact .refl s

theorem targets_considerCandidate (t : Nat) : s.KeepsTargets (s.considerCandidate t) := by
  unfold State.considerCandidate
  split
  · exact .refl s
  · exact .ite (fun _ => .refl s) fun _ =>
      (s.targets_buildReadStation t).trans (.ite (fun _ => targets_modDraft _ _) fun _ => .refl _)

theorem targets_considerNotice (n : Notice) : s.KeepsTargets (s.considerNotice n) := by
  unfold State.considerNotice
  split
  · exact .refl s
  · exact .ite (fun _ => .refl s) fun _ => (s.targets_buildReadStation _).trans <|
      .ite (fun _ => .refl _) fun _ => (targets_modDraft _ _).trans (targets_modLane _ _ _)

theorem targets_beginBuild (w : WaitingSpan) : s.KeepsTargets (s.beginBuild w) :=
  (s.targets_setBuilder _).trans <| (keeps_setJoined _ w.lane []).targets.trans <|
    (KeepsTargets.foldl targets_considerCandidate _ _).trans <|
    (KeepsTargets.foldl targets_considerNotice _ _).trans (targets_modDraft _ _)

theorem targets_takeSpan : s.KeepsTargets s.takeSpan := by
  unfold State.takeSpan
  split
  · exact .ite (fun _ => s.targets_skipSpan _) fun _ => s.targets_beginBuild _
  · exact .refl s

theorem targets_walkCadenced : s.KeepsTargets s.walkCadenced :=
  s.targets_atStage _ fun _ =>
    (KeepsTargets.foldl (fun s i => (s.targets_buildReadStream i).trans (targets_buildReadOwner _ i)) _ s).trans <|
      (Keeps.foldl (fun s i => s.keeps_modStream i _) _ _).targets.trans <| (targets_count _ _ _).trans (targets_modDraft _ _)

theorem targets_visit (d : Draft) (k : Fin 4) (i : Nat) : s.KeepsTargets (s.visit d k i) := by
  unfold State.visit
  dsimp only
  split
  · exact (s.keeps_skipVisit _ _ _ _).targets
  · exact (s.keeps_serveVisit _ _ _ _ _).targets.trans (targets_modDraft _ _)

theorem targets_visitNext : s.KeepsTargets s.visitNext := by
  refine s.targets_atStage _ fun d => ?_
  split
  · exact s.targets_setDraft _
  · exact (s.targets_setDraft _).trans <| (targets_buildReadStream _ _).trans <| (targets_buildReadOwner _ _).trans <|
      (KeepsTargets.ite (fun _ => targets_visit _ _ _ _) fun _ => .refl _).trans (targets_modDraft _ _)

theorem targets_choosePending (i : Nat) : s.KeepsTargets (s.choosePending i) := by
  unfold State.choosePending
  split
  · exact .refl s
  · exact .ite (fun _ => .refl s) fun _ =>
      (s.targets_buildReadStream i).trans (.ite (fun _ => targets_modDraft _ _) fun _ => .refl _)

theorem targets_selectPending : s.KeepsTargets s.selectPending :=
  s.targets_atStage _ fun _ => (KeepsTargets.foldl targets_choosePending _ s).trans (targets_modDraft _ _)

theorem targets_queuePlan (p : Plan) : s.KeepsTargets (s.queuePlan p) :=
  (s.targets_setLink _).trans <| ((keeps_raiseRefs _ _ _).trans <| (keeps_mapNotices _ _ _).trans <|
    .foldl (fun s t => s.keeps_modStation t _) _ _).targets

theorem targets_completeBuild : s.KeepsTargets s.completeBuild :=
  s.targets_atStage _ fun _ => (s.targets_setDraft none).trans <|
    (KeepsTargets.ite (fun _ => targets_queuePlan _ _) fun _ =>
      ((keeps_restoreData _ _).trans (keeps_mapNotices _ _ _)).targets).trans <|
      ((Keeps.foldl keeps_settleStation _ _).trans (.foldl keeps_settleStream _ _)).targets.trans (targets_settleDraining _ _)

/-! ### Transmit start (R144 to R147) -/

theorem targets_evict (l : LaneId) (h : HistEntry) : s.KeepsTargets (s.evict l h) :=
  ((s.keeps_lowerRefs _ _).trans (.foldl (fun s a => s.keeps_evictTurn l h.seq a) _ _)).targets.trans <|
    .ite (fun _ => targets_missingTally _ l) fun _ => .refl _

theorem targets_pushHistory (l : LaneId) (h : HistEntry) : s.KeepsTargets (s.pushHistory l h) := by
  refine .ite (fun _ => ?_) fun _ => s.targets_modLane l _
  split
  · exact .refl s
  · exact (s.targets_modLane l _).trans (targets_evict _ l _)

theorem targets_judgeLate (r : PlanRecord) (M : Int) : s.KeepsTargets (s.judgeLate r M) :=
  .ite (fun _ => .ite (fun _ => .refl s) fun _ => (s.targets_modLane _ _).trans (targets_raise _ _))
    fun _ => s.targets_modLane _ _

theorem targets_reportSlips (r : PlanRecord) (n : Nat) (lowest : Option Nat) : s.KeepsTargets (s.reportSlips r n lowest) :=
  .ite (fun _ => s.targets_raise _) fun _ => .refl s

theorem targets_commit (p : Plan) (M : Int) : s.KeepsTargets (s.commit p M) :=
  ((s.keeps_commitStreams p).trans (keeps_commitNotices _ p.record)).targets.trans <|
    (targets_pushHistory _ p.record.lane p.entry).trans <| (targets_modLane _ p.record.lane _).trans <|
    (targets_judgeLate _ p.record M).trans <| (targets_reportSlips _ p.record _ _).trans (targets_setLink _ _)

theorem targets_loseCadence (l : LaneId) (i : Nat) : s.KeepsTargets (State.loseCadence l s i) :=
  (s.keeps_modStream i _).targets.trans (targets_count _ l _)

theorem targets_drop (p : Plan) (M : Int) : s.KeepsTargets (s.drop p M) :=
  (s.keeps_restoreData p.data).targets.trans <| (KeepsTargets.foldl (fun s i => s.targets_loseCadence _ i) p.cadence _).trans <|
    (keeps_dropQuietly _ p).targets.trans <| (targets_modLane _ p.record.lane _).trans <| (targets_raise _ _).trans <|
    (targets_reportSlips _ p.record _ _).trans (targets_faultIfDue _ _)

theorem targets_startTransmit : s.KeepsTargets s.startTransmit := by
  unfold State.startTransmit
  split
  · exact .ite (fun _ => (s.targets_setLink _).trans <|
      (KeepsTargets.ite (fun _ => targets_drop _ _ _) fun _ => targets_commit _ _ _).trans (targets_settleDraining _ _)) fun _ =>
        .refl s
  · exact .refl s

end Sys2Proof.Machine.State
end

section
/-! PROOFS. Every command keeps claim targets within their bounds, and so does every step. -/

namespace Sys2Proof.Machine

namespace State

variable (s : State)

/-! ### Reset values and tables cleared (R161, R172) -/

/-- A Claim Controller at its reset values is sound on an IDLE lane (R98). -/
theorem KeepsTargets.of_reset {s t : State} (claims : t.claims = State.reset.claims) (lanes : t.lanes = State.reset.lanes) :
    s.KeepsTargets t := fun l _ => by
  have claim : t.claim l = Claim.reset := by simp [State.claim, claims, State.reset]
  have lane : t.lane l = Lane.reset := by simp [State.lane, lanes, State.reset]
  rw [claim, lane]
  exact ⟨by decide, nofun, fun busy => absurd rfl busy⟩

theorem targets_restarted (cause : Cause) (pin : Bool) : s.KeepsTargets (s.restarted cause pin) := .of_reset rfl rfl

theorem targets_clearTables : s.KeepsTargets s.clearTables := .of_rest rfl rfl

theorem targets_completeClearing : s.KeepsTargets s.completeClearing := by
  unfold State.completeClearing
  split
  · exact s.targets_clearTables.trans <| (targets_setPort _ _).trans (targets_raise _ _)
  iterate 3
    exact .refl s

/-! ### The Integrity Unit -/

theorem targets_endScrub : s.KeepsTargets s.endScrub := by
  unfold State.endScrub
  split
  · exact .refl s
  · exact (s.targets_setIntegrity _).trans (targets_raise _ _)

theorem targets_scrubOne : s.KeepsTargets s.scrubOne := by
  unfold State.scrubOne
  split
  · exact .refl s
  · split
    · exact (s.keeps_checkStation .scrub _).targets.trans (targets_setIntegrity _ _)
    · exact .ite (fun _ => (s.keeps_checkStream .scrub _).targets.trans (targets_setIntegrity _ _))
        fun _ => (s.keeps_checkStream .scrub _).targets.trans (targets_endScrub _)

theorem targets_endMemoryTest (m : Option Mismatch) : s.KeepsTargets (State.endMemoryTest m s) := by
  refine .ite (fun _ => KeepsTargets.trans ?_ (targets_refreshPart _)) fun _ => .refl s
  exact (s.targets_raise _).trans (.of_rest rfl rfl)

/-! ### Frames (R163, R164) -/

theorem targets_armGate (h : BitVec 16) : s.KeepsTargets (s.armGate h) :=
  .ite (fun _ => s.targets_setPort _) fun _ => .ite (fun _ => s.targets_setPort _) fun _ => s.targets_setPort _

theorem targets_deliver (o : Outgoing) (n : Nat) : s.KeepsTargets (s.deliver o n) := by
  refine .ite (fun _ => .refl s) fun _ => ?_
  split
  · exact .refl s
  · dsimp only
    split
    · exact (s.targets_setPort _).trans (targets_armGate _ _)
    · exact s.targets_setPort _
  · exact (s.targets_setPort _).trans (.ite (fun _ => (targets_setPort _ _).trans (targets_raise _ _)) fun _ => .refl _)

theorem targets_beginFrame : s.KeepsTargets s.beginFrame := by
  unfold State.beginFrame
  split
  · exact .refl s
  · exact s.targets_setPort _

theorem targets_queueReply (kind reference : Byte) (o : ReqOutcome) (body : ReplyBody) :
    s.KeepsTargets (s.queueReply kind reference o body) := s.targets_setPort _

theorem targets_frameEnd (n : Nat) {take : State → State} (kept : ∀ s : State, s.KeepsTargets (take s)) :
    s.KeepsTargets (State.frameEnd n take s) := by
  unfold State.frameEnd
  split
  · exact .refl s
  · exact (s.targets_deliver _ n).trans <| (kept _).trans (.of_rest rfl rfl)

theorem targets_unlessLost (kind reference : Byte) {go : State → State} (kept : s.KeepsTargets (go s)) :
    s.KeepsTargets (State.unlessLost kind reference go s) := .ite (fun _ => s.targets_raise _) fun _ => kept

theorem targets_takeRequest (kind reference : Byte) {own : State → Answer} (kept : s.KeepsTargets (own s).state) :
    s.KeepsTargets (State.takeRequest kind reference own s) := by
  have answered : s.KeepsTargets (s.answer kind reference own) := kept.trans (targets_queueReply _ _ _ _ _)
  refine s.targets_unlessLost kind reference ?_
  split
  · exact s.targets_queueReply _ _ _ _
  · exact .ite (fun _ => answered) fun _ => s.targets_queueReply _ _ _ _
  · exact answered
  · exact answered

/-! ### The rules of the lane, part and test requests -/

theorem KeepsTargets.carriedOut {s t : State} {body : ReplyBody} (h : s.KeepsTargets t) :
    s.KeepsTargets (carryOut body t).state := h

theorem targets_laneSetupRule (b : LaneSetupBody) : s.KeepsTargets (laneSetupRule b s).state := by
  unfold laneSetupRule
  split
  · exact .refl s
  · split
    · exact .refl s
    · split
      · exact .refl s
      · exact .carriedOut (s.targets_modLane _ _)

theorem targets_laneStartRule (lane : Byte) : s.KeepsTargets (laneStartRule lane s).state := by
  unfold laneStartRule
  split
  · exact .refl s
  · dsimp only
    split_ifs
    iterate 4
      exact .refl s
    exact .carriedOut (s.targets_startLane _)

theorem targets_laneStopRule (lane : Byte) : s.KeepsTargets (laneStopRule lane s).state := by
  unfold laneStopRule
  split
  · exact .refl s
  · split
    · exact .carriedOut (s.targets_stopLive _ ‹_›)
    · exact .carriedOut (s.targets_stopFaulted _)
    iterate 2
      exact .refl s

theorem targets_laneReadRule (lane : Byte) : s.KeepsTargets (laneReadRule lane s).state := by
  unfold laneReadRule
  split <;> exact .refl s

theorem targets_claimSetupRule (b : ClaimSetupBody) : s.KeepsTargets (claimSetupRule b s).state := by
  unfold claimSetupRule
  split
  · exact .refl s
  · split
    · exact .refl s
    · exact .carriedOut (s.targets_replaceClaim _ (claimClamp_inOrder b))

theorem targets_setPart (p : PartSettings) : s.KeepsTargets (s.setPart p) := by
  have settings : s.KeepsTargets { s with align := { s.align with settings := p } } := .of_rest rfl rfl
  exact .ite (fun _ => settings.trans (Keeps.foldl (fun s t => s.keeps_modStation t _) _ _).targets) fun _ => settings

theorem targets_partSetupRule (b : PartSetupBody) : s.KeepsTargets (partSetupRule b s).state := by
  unfold partSetupRule
  split
  · exact .refl s
  · exact .carriedOut (s.targets_setPart _)

theorem targets_scrubRule : s.KeepsTargets (scrubRule s).state := by
  unfold scrubRule
  split
  · exact .refl s
  · exact .carriedOut (s.targets_setIntegrity _)

theorem targets_memoryTestRule : s.KeepsTargets (memoryTestRule s).state := by
  unfold memoryTestRule
  split_ifs
  iterate 3
    exact .refl s
  exact .of_rest rfl rfl

end State

/-! ### The commands -/

/-- The command's next state keeps claim targets. -/
def OutcomeKeepsTargets (s : State) (o : Host.Outcome State Fault Refusal) : Prop := ∀ t, o = .next t → s.KeepsTargets t

section
variable (s : State)

theorem State.targets_unlessReset {f : State → State} (kept : s.KeepsTargets (f s)) :
    OutcomeKeepsTargets s (s.unlessReset f) := by
  rintro t ⟨⟩
  exact .ite (fun _ => .refl s) fun _ => kept

theorem State.targets_frame (n : Nat) {take : State → State} (kept : ∀ s : State, s.KeepsTargets (take s)) :
    OutcomeKeepsTargets s (s.unlessReset (State.frameEnd n take)) :=
  s.targets_unlessReset (s.targets_frameEnd n kept)

theorem State.targets_request (kind : Byte) (len : Nat) (req : Req) {own : State → Answer}
    (kept : ∀ s : State, s.KeepsTargets (own s).state) : OutcomeKeepsTargets s (s.request kind len req own) :=
  s.targets_frame _ fun s => s.targets_takeRequest kind req.reference (kept s)

/-- A request whose rule writes what an operation over the tables may write. -/
theorem State.targets_tableRequest (kind : Byte) (len : Nat) (req : Req) {own : State → Answer}
    (kept : ∀ s : State, s.Keeps (own s).state) : OutcomeKeepsTargets s (s.request kind len req own) :=
  s.targets_request kind len req fun s => (kept s).targets

/-- A stage that writes the draft alone. -/
theorem State.targets_stage (st : Stage) (f : Draft → Draft) :
    OutcomeKeepsTargets s (s.unlessReset fun s => s.atStage st fun d => s.setDraft (some (f d))) :=
  s.targets_unlessReset (f := fun s => s.atStage st fun d => s.setDraft (some (f d)))
    (s.targets_atStage st fun _ => s.targets_setDraft _)

theorem targets_exec (c : Instr) : OutcomeKeepsTargets s (exec c s) := by
  cases c with
  | plantTimeCount => exact s.targets_unlessReset (f := fun s => { s with now := _, align := _ }) (.of_rest rfl rfl)
  | resetAssert =>
    rintro t ⟨⟩
    exact s.targets_restarted _ _
  | resetRelease =>
    rintro t ⟨⟩
    exact .ite (fun _ => s.targets_restarted _ _) fun _ => .refl s
  | startingClearingCompletes => exact s.targets_unlessReset s.targets_completeClearing
  | frameStart => exact s.targets_unlessReset s.targets_beginFrame
  | noneFrame extra => exact s.targets_frame _ .refl
  | headerIncomplete bytes => exact s.targets_frame _ .refl
  | malformedRequest kind reference bodyLen frameBytes =>
    refine s.targets_frame _ fun s => ?_
    split
    · exact s.targets_unlessLost kind reference (s.targets_queueReply _ _ _ _)
    · exact .refl s
  | laneSetup req body => exact s.targets_request _ _ req fun s => s.targets_laneSetupRule body
  | laneStart req lane => exact s.targets_request _ _ req fun s => s.targets_laneStartRule lane
  | laneStop req lane => exact s.targets_request _ _ req fun s => s.targets_laneStopRule lane
  | laneRead req lane => exact s.targets_request _ _ req fun s => s.targets_laneReadRule lane
  | claimSetup req body => exact s.targets_request _ _ req fun s => s.targets_claimSetupRule body
  | partSetup req body => exact s.targets_request _ _ req fun s => s.targets_partSetupRule body
  | stationAdmit req body => exact s.targets_tableRequest _ _ req fun s => s.keeps_onStation _ fun t s => s.keeps_admitOwn _ _ t
  | stationHold req tag => exact s.targets_tableRequest _ _ req fun s => s.keeps_onStation tag fun t s => s.keeps_holdOwn t
  | stationResume req tag => exact s.targets_tableRequest _ _ req fun s => s.keeps_onStation tag fun t s => s.keeps_resumeOwn t
  | stationRelease req tag => exact s.targets_tableRequest _ _ req fun s => s.keeps_onStation tag fun t s => s.keeps_releaseOwn t
  | stationRead req first count => exact s.targets_tableRequest _ _ req fun s => s.keeps_stationReadRule first count
  | streamAdd req tag slot fields => exact s.targets_tableRequest _ _ req fun s => s.keeps_streamAddRule tag slot fields
  | streamChange req index fields => exact s.targets_tableRequest _ _ req fun s => s.keeps_streamChangeRule index fields
  | streamRemove req index => exact s.targets_tableRequest _ _ req fun s => s.keeps_streamRemoveRule index
  | streamRead req first count => exact s.targets_tableRequest _ _ req fun s => s.keeps_streamReadRule first count
  | scrub req => exact s.targets_request _ _ req State.targets_scrubRule
  | memoryTest req => exact s.targets_request _ _ req State.targets_memoryTestRule
  | attentionArm req h => exact s.targets_request _ _ req .refl
  | fetch req => exact s.targets_request _ _ req .refl
  | restart req => exact s.targets_frame _ fun s => s.targets_restarted _ _
  | receptionFrameShort port frameLen => exact s.targets_unlessReset (.refl s)
  | receptionUnknownKind head kind => exact s.targets_unlessReset (s.targets_admitRecord head _ fun s _ => .refl s)
  | bid head tagWord slot seq amount source =>
    exact s.targets_unlessReset <| s.targets_admitRecord head _ fun s _ => s.targets_checkTag head tagWord <|
      s.targets_matchHistory head fun _ => s.targets_takeBid _ _ _ _ _
  | tally head offered clean collided empty =>
    exact s.targets_unlessReset <| s.targets_admitRecord head _ fun s busy =>
      s.targets_matchHistory head fun e => s.targets_takeTally _ e _ _ _ busy
  | resultTagged head form tagWord et ep quality =>
    exact s.targets_unlessReset <| s.targets_admitRecord head _ fun s _ => s.targets_checkTag head tagWord <|
      s.targets_matchHistory head fun e => s.targets_alignmentRecord _ e _ _
  | resultAddressForm head addr et ep quality =>
    exact s.targets_unlessReset <| s.targets_admitRecord head _ fun s _ =>
      s.targets_matchHistory head fun e => s.targets_joinRecord _ e addr _ _ _
  | noShow head tagWord =>
    exact s.targets_unlessReset <| s.targets_admitRecord head _ fun s _ => s.targets_checkTag head tagWord <|
      s.targets_matchHistory head fun e => s.targets_alignmentRecord _ e _ _
  | mark head => exact s.targets_unlessReset (s.targets_admitRecord head _ fun s _ => .refl s)
  | spanHandover lane => exact s.targets_unlessReset (s.targets_handOver lane)
  | spanSkip lane span => exact s.targets_unlessReset (s.targets_expireSpan lane span)
  | buildBegin => exact s.targets_unlessReset s.targets_takeSpan
  | stageA1CadencedWalk => exact s.targets_unlessReset s.targets_walkCadenced
  | stageA2AlignmentTurns => exact s.targets_stage _ _
  | stageA3OpenWindow => exact s.targets_stage _ _
  | stageBClaimFloor => exact s.targets_stage _ _
  | stageCVisit => exact s.targets_unlessReset s.targets_visitNext
  | stageDLeftoverClaims => exact s.targets_stage _ _
  | pendingSelection => exact s.targets_unlessReset s.targets_selectPending
  | buildCompletion => exact s.targets_unlessReset s.targets_completeBuild
  | planExpiry lane seq => exact s.targets_unlessReset (s.targets_setLink _)
  | framerReady level =>
    rintro t ⟨⟩
    exact .of_rest rfl rfl
  | transmitStart => exact s.targets_unlessReset s.targets_startTransmit
  | transmitEnd => exact s.targets_unlessReset (f := fun s => { s with link := _ }) (s.targets_setLink _)
  | coveredUntilExpiry lane => exact s.targets_unlessReset (s.targets_endCovered lane)
  | maintenanceDue tag => exact s.targets_unlessReset (s.keeps_becomeDue _).targets
  | holdoffExpiry => exact s.targets_unlessReset (.ite (fun _ => s.targets_setPort _) fun _ => .refl s)
  | scrubStep => exact s.targets_unlessReset s.targets_scrubOne
  | memoryTestEnd mismatch => exact s.targets_unlessReset (s.targets_endMemoryTest mismatch)

/-- The step runs the command at the front of the queue, or idles. -/
theorem targets_step : OutcomeKeepsTargets s (step s) := by
  unfold step
  split
  · rintro t ⟨⟩
    rw [s.idle_memTest]
    exact s.targets_setIntegrity _
  · rename_i c rest _
    exact fun t h => (State.KeepsTargets.of_rest rfl rfl : s.KeepsTargets (s.withPending rest)).trans (targets_exec _ c t h)

end

end Sys2Proof.Machine

open Sys2Proof Sys2Proof.Machine

/-- Settles O58: `targets_exec` goes through the commands; what moves T, the settings or a lane out of IDLE keeps each Claim
Controller sound. -/
theorem everyStepKeepsTargetsInRange : Obligations.EveryStepKeepsTargetsInRange := fun s t sound h =>
  State.claimsSound_iff.2 fun l => targets_step s t h l (State.claimsSound_iff.1 sound l)
end

section
/-! PROOFS. Free runs and first fit (R113): a place is free exactly when it lies in a free run, so first fit is the lowest free
place; and a turn that takes a free place keeps the turns apart. -/

namespace Sys2Proof.Machine

/-! ### Free places -/

/-- The `g` quanta from offset `p` on lie within the span and are free. -/
def Fits (S : Nat) (turns : List Turn) (p g : Nat) : Prop := p + g ≤ S ∧ ∀ t ∈ turns, t.stop ≤ p ∨ p + g ≤ t.start

/-- The turns stand one behind another within the span, each of at least one quantum. -/
structure Placed (S : Nat) (turns : List Turn) : Prop where
  behind : turns.Pairwise fun t u => t.stop ≤ u.start
  within : ∀ t ∈ turns, 1 ≤ t.len ∧ t.stop ≤ S

theorem turnsShaped.placed {S b : Nat} {turns : List Turn} (h : turnsShaped S b turns) : Placed S turns := by
  obtain ⟨-, pairs, each⟩ := h
  refine ⟨pairs.imp_of_mem fun {t u} ht hu pair => ?_, fun t ht => ⟨(each t ht).1, (each t ht).2.1⟩⟩
  have len := (each u hu).1
  have stop : u.stop = u.start + u.len := rfl
  obtain ⟨order, apart⟩ := pair
  unfold Turn.apart at apart
  omega

section
variable {S pos p g : Nat} {t : Turn} {l : List Turn}

theorem Fits.shorter {k : Nat} (h : Fits S l p g) (le : k ≤ g) : Fits S l p k := by
  refine ⟨by have := h.1; omega, fun t ht => ?_⟩
  have := h.2 t ht
  omega

theorem isFree_iff : isFree l p g = true ↔ ∀ t ∈ l, t.stop ≤ p ∨ p + g ≤ t.start := by simp [isFree]

theorem Placed.tail (h : Placed S (t :: l)) : Placed S l :=
  ⟨h.behind.of_cons, fun u hu => h.within u (List.mem_cons_of_mem _ hu)⟩

theorem Placed.head_stop_le (h : Placed S (t :: l)) : ∀ u ∈ l, t.stop ≤ u.start := fun _ hu =>
  List.rel_of_pairwise_cons h.behind hu

theorem Placed.start_lt_stop (h : Placed S l) (ht : t ∈ l) : t.start < t.stop := by
  have := (h.within t ht).1
  unfold Turn.stop
  omega

/-! ### Free runs -/

/-- A free run past `pos` is free as a whole. -/
theorem freeRunsFrom_fits (h : Placed S l) (low : ∀ t ∈ l, pos ≤ t.start) {r : Nat × Nat} (hr : r ∈ freeRunsFrom S pos l) :
    pos ≤ r.1 ∧ 1 ≤ r.2 ∧ Fits S l r.1 r.2 := by
  induction l generalizing pos with
  | nil =>
    unfold freeRunsFrom at hr
    split at hr
    · obtain rfl := List.mem_singleton.1 hr
      exact ⟨le_rfl, by dsimp only; omega, by dsimp only; omega, nofun⟩
    · cases hr
  | cons t rest ih =>
    have behind := h.head_stop_le
    have stop := h.start_lt_stop List.mem_cons_self
    rw [freeRunsFrom, List.mem_append] at hr
    rcases hr with before | after
    · split at before
      · obtain rfl := List.mem_singleton.1 before
        have inside := (h.within t List.mem_cons_self).2
        refine ⟨le_rfl, by dsimp only; omega, by dsimp only; omega, fun u hu => .inr ?_⟩
        rcases List.mem_cons.1 hu with rfl | later
        · dsimp only; omega
        · have := behind u later
          dsimp only; omega
      · cases before
    · obtain ⟨past, len, fits⟩ := ih h.tail
        (fun u hu => max_le (low u (List.mem_cons_of_mem _ hu)) (behind u hu)) after
      refine ⟨(le_max_left _ _).trans past, len, fits.1, fun u hu => ?_⟩
      rcases List.mem_cons.1 hu with rfl | later
      · exact .inl ((le_max_right _ _).trans past)
      · exact fits.2 u later

/-- A free place past `pos` lies in a free run. -/
theorem Fits.in_run (h : Fits S l p g) (pos_le : pos ≤ p) (some_ : 1 ≤ g) :
    ∃ r ∈ freeRunsFrom S pos l, r.1 ≤ p ∧ p + g ≤ r.1 + r.2 := by
  obtain ⟨inside, free⟩ := h
  induction l generalizing pos with
  | nil =>
    rw [freeRunsFrom, if_pos (by omega)]
    exact ⟨_, List.mem_singleton_self _, pos_le, by dsimp only; omega⟩
  | cons t rest ih =>
    rcases free t List.mem_cons_self with past | before
    · obtain ⟨r, hr, within⟩ := ih (max_le pos_le past) fun u hu => free u (List.mem_cons_of_mem _ hu)
      exact ⟨r, List.mem_append_right _ hr, within⟩
    · rw [freeRunsFrom, if_pos (by omega : pos < t.start)]
      exact ⟨_, List.mem_append_left _ (List.mem_singleton_self _), pos_le, by dsimp only; omega⟩

/-- The free runs stand in order of place, a turn between any two. -/
theorem freeRunsFrom_pairwise (h : Placed S l) (low : ∀ t ∈ l, pos ≤ t.start) :
    (freeRunsFrom S pos l).Pairwise fun r q => r.1 + r.2 < q.1 := by
  induction l generalizing pos with
  | nil => unfold freeRunsFrom; split <;> simp
  | cons t rest ih =>
    have stop := h.start_lt_stop List.mem_cons_self
    have low' : ∀ u ∈ rest, max pos t.stop ≤ u.start := fun u hu =>
      max_le (low u (List.mem_cons_of_mem _ hu)) (h.head_stop_le u hu)
    refine List.pairwise_append.2 ⟨by split <;> simp, ih h.tail low', fun r hr q hq => ?_⟩
    have past := (freeRunsFrom_fits h.tail low' hq).1
    split at hr
    · obtain rfl := List.mem_singleton.1 hr
      dsimp only
      omega
    · cases hr

theorem freeRuns_fits (h : Placed S l) {r : Nat × Nat} (hr : r ∈ freeRuns S l) : 1 ≤ r.2 ∧ Fits S l r.1 r.2 :=
  (freeRunsFrom_fits h (fun _ _ => Nat.zero_le _) hr).2

theorem Fits.in_freeRuns (h : Fits S l p g) (some_ : 1 ≤ g) : ∃ r ∈ freeRuns S l, r.1 ≤ p ∧ p + g ≤ r.1 + r.2 :=
  h.in_run (Nat.zero_le _) some_

theorem freeRuns_pairwise (h : Placed S l) : (freeRuns S l).Pairwise fun r q => r.1 + r.2 < q.1 :=
  freeRunsFrom_pairwise h fun _ _ => Nat.zero_le _

/-! ### First fit -/

/-- First fit takes the start of a free run that is long enough, and no run before it is. -/
theorem firstFit_eq_some_iff : firstFit S l g = some p ↔
    ∃ m as bs, freeRuns S l = as ++ (p, m) :: bs ∧ g ≤ m ∧ ∀ r ∈ as, r.2 < g := by
  simp only [firstFit, Option.map_eq_some_iff, List.find?_eq_some_iff_append, decide_eq_true_eq, Bool.not_eq_true',
    decide_eq_false_iff_not, Nat.not_le]
  constructor
  · rintro ⟨⟨p, m⟩, ⟨long, as, bs, eq, short⟩, rfl⟩
    exact ⟨m, as, bs, eq, long, short⟩
  · rintro ⟨m, as, bs, eq, long, short⟩
    exact ⟨(p, m), ⟨long, as, bs, eq, short⟩, rfl⟩

theorem firstFit_eq_none_iff : firstFit S l g = none ↔ ∀ r ∈ freeRuns S l, r.2 < g := by
  simp [firstFit]

/-- First fit finds a free place. -/
theorem fits_of_firstFit (h : Placed S l) (found : firstFit S l g = some p) : Fits S l p g := by
  obtain ⟨m, as, bs, eq, long, -⟩ := firstFit_eq_some_iff.1 found
  exact (freeRuns_fits h (r := (p, m)) (by simp [eq])).2.shorter long

/-- No lower place is free. -/
theorem le_of_firstFit (h : Placed S l) (found : firstFit S l g = some p) (some_ : 1 ≤ g) {q : Nat} (free : Fits S l q g) :
    p ≤ q := by
  obtain ⟨m, as, bs, eq, -, short⟩ := firstFit_eq_some_iff.1 found
  obtain ⟨r, hr, start, stop⟩ := free.in_freeRuns some_
  have order := freeRuns_pairwise h
  rw [eq, List.pairwise_append, List.pairwise_cons] at order
  rw [eq, List.mem_append, List.mem_cons] at hr
  rcases hr with before | rfl | after
  · have := short r before
    omega
  · exact start
  · have := order.2.1.1 r after
    dsimp only at this
    omega

theorem not_fits_of_firstFit_none (found : firstFit S l g = none) (some_ : 1 ≤ g) (q : Nat) : ¬Fits S l q g := fun free => by
  obtain ⟨r, hr, start, stop⟩ := free.in_freeRuns some_
  have := firstFit_eq_none_iff.1 found r hr
  omega

end

/-! ### A turn that takes a free place -/

section
variable {S p g : Nat} {t : Turn} {l : List Turn}

/-- What is free after a turn has been placed was free before, and lies apart from the turn. -/
theorem fits_insertTurn_iff : Fits S (insertTurn t l) p g ↔ Fits S l p g ∧ (t.stop ≤ p ∨ p + g ≤ t.start) := by
  simp only [Fits, mem_insertTurn, forall_eq_or_imp]
  tauto

theorem Placed.insertTurn (h : Placed S l) (len : 1 ≤ t.len) (fits : Fits S l t.start t.len) : Placed S (insertTurn t l) := by
  have stop : t.stop = t.start + t.len := rfl
  refine ⟨?_, fun u hu => ?_⟩
  · have apart : ∀ u ∈ l, u.stop ≤ t.start ∨ t.stop ≤ u.start := fits.2
    clear fits
    induction l with
    | nil => exact List.pairwise_singleton _ _
    | cons u rest ih =>
      have least := h.head_stop_le
      have positive := h.start_lt_stop List.mem_cons_self
      have here := apart u List.mem_cons_self
      rw [Sys2Proof.Machine.insertTurn]
      split
      · refine List.pairwise_cons.2 ⟨fun v hv => ?_, h.behind⟩
        rcases List.mem_cons.1 hv with rfl | later
        · omega
        · have := least v later
          omega
      · refine List.pairwise_cons.2 ⟨fun v hv => ?_, ih h.tail fun v hv => apart v (List.mem_cons_of_mem _ hv)⟩
        rcases (mem_insertTurn ..).1 hv with rfl | later
        · omega
        · exact least v later
  · rcases (mem_insertTurn ..).1 hu with rfl | old
    · exact ⟨len, fits.1⟩
    · exact h.within u old

end

end Sys2Proof.Machine

open Sys2Proof Sys2Proof.Machine

/-- Settles O45: a place is free exactly when it lies in a free run, and the free runs stand in order of place. -/
theorem firstFitIsTheLowestPlace : Obligations.FirstFitIsTheLowestPlace := by
  intro S b g turns shaped some_
  have h := shaped.placed
  refine ⟨fun p => ⟨fun found => ?_, fun ⟨free, least⟩ => ?_⟩, fun none_ q => ?_, fun never => ?_⟩
  · exact ⟨fits_of_firstFit h found, fun q lower free => Nat.not_le.2 lower (le_of_firstFit h found some_ free)⟩
  · cases found : firstFit S turns g with
    | none => exact absurd free (not_fits_of_firstFit_none found some_ p)
    | some q =>
      have upper := le_of_firstFit h found some_ free
      have lower := Nat.not_lt.1 fun lt => least q lt (fits_of_firstFit h found)
      rw [Nat.le_antisymm upper lower]
  · exact not_fits_of_firstFit_none none_ some_ q
  · exact Option.eq_none_iff_forall_ne_some.2 fun p found => never p (fits_of_firstFit h found)
end

section
/-! PROOFS. What each stage of a build places (R113, R118 to R128) keeps the turns of the draft apart, within the span and at most
240. -/

namespace Sys2Proof.Machine

/-! ### A draft in shape -/

/-- A claim window is a whole number of slots, and a floor window is a claim window. -/
structure Turn.Made (b : Nat) (t : Turn) : Prop where
  slots : t.kind = .claim → t.len = t.slots * b
  floor : t.floor = true → t.kind = .claim

theorem Turn.Made.of_kind {b : Nat} {t : Turn} (kind : t.kind ≠ .claim) (floor : t.floor = false) : t.Made b :=
  ⟨fun h => absurd h kind, fun h => absurd (floor.symm.trans h) nofun⟩

/-- What `plansShaped` asks of the draft. -/
structure Draft.Shaped (d : Draft) : Prop where
  room : d.turns.length ≤ Config.turns
  placed : Placed d.setup.S d.turns
  made : ∀ t ∈ d.turns, t.Made d.setup.b

theorem Draft.shaped_iff {d : Draft} :
    d.Shaped ↔ turnsShaped d.setup.S d.setup.b d.turns ∧ ∀ t ∈ d.turns, t.floor = true → t.kind = .claim := by
  constructor
  · rintro ⟨room, placed, made⟩
    refine ⟨⟨room, ?_, fun t ht => ⟨(placed.within t ht).1, (placed.within t ht).2, (made t ht).slots⟩⟩,
      fun t ht => (made t ht).floor⟩
    exact placed.behind.imp_of_mem fun ht _ stop => ⟨(placed.start_lt_stop ht).le.trans stop, .inl stop⟩
  · rintro ⟨shaped, floor⟩
    exact ⟨shaped.1, shaped.placed, fun t ht => ⟨(shaped.2.2 t ht).2.2, floor t ht⟩⟩

theorem Draft.full_eq_false {d : Draft} : d.full = false ↔ d.turns.length < Config.turns := by
  simp [Draft.full]

theorem Draft.full_eq_true {d : Draft} : d.full = true ↔ Config.turns ≤ d.turns.length := by
  simp [Draft.full]

/-- The drafts agree in their setup and their turns. -/
theorem Draft.Shaped.of_turns {d e : Draft} (h : d.Shaped) (setup : e.setup = d.setup) (turns : e.turns = d.turns) :
    e.Shaped := by
  obtain ⟨room, placed, made⟩ := h
  exact ⟨turns ▸ room, setup ▸ turns ▸ placed, setup ▸ turns ▸ made⟩

/-! ### A turn placed -/

theorem Draft.place_setup (d : Draft) (t : Turn) : (d.place t).setup = d.setup := by
  unfold Draft.place
  split <;> rfl

theorem Draft.place_of_pos {d : Draft} {t : Turn} (len : 1 ≤ t.len) :
    d.place t = { d with turns := insertTurn t d.turns } := by
  rw [Draft.place, if_neg (by omega)]

theorem Draft.Shaped.place {d : Draft} {t : Turn} (h : d.Shaped) (room : d.full = false)
    (fits : Fits d.setup.S d.turns t.start t.len) (made : t.Made d.setup.b) : (d.place t).Shaped := by
  unfold Draft.place
  split
  · exact h
  · refine ⟨?_, h.placed.insertTurn (by omega) fits, fun u hu => ?_⟩
    · rw [length_insertTurn]
      exact Draft.full_eq_false.1 room
    · rcases (mem_insertTurn ..).1 hu with rfl | old
      · exact made
      · exact h.made u old

/-! ### Stage A1 (R119) -/

theorem cadencePlace_eq_some {d : Draft} {n j z p : Nat} (h : cadencePlace d n j z = some p) :
    n ≤ p ∧ Fits d.setup.S d.turns p z := by
  have found := List.find?_some h
  have mem := List.mem_of_find?_eq_some h
  rw [Bool.and_eq_true, decide_eq_true_eq, isFree_iff] at found
  exact ⟨(List.mem_range'_1.1 mem).1, found⟩

/-- A nominal start takes the free place found for it while the turn list has room, or is a slip. -/
theorem Draft.takeStart_cases (d : Draft) (ask : CadenceAsk) (n i : Nat) :
    (∃ p, d.full = false ∧ cadencePlace d n ask.jitter ask.z = some p ∧ d.takeStart ask n i =
      ((({ d with cadence := d.cadence ++ [i] }).place
        { kind := .cadence, tag := ask.tag, slot := ask.slot, start := p, len := ask.z, slots := 0, floor := false }).nameStation
          ask.tag).nameStream i) ∨
    ((d.full = true ∨ cadencePlace d n ask.jitter ask.z = none) ∧ d.takeStart ask n i =
      { d with slips := d.slips + 1, lowestSlip := some (min i (d.lowestSlip.getD i)) }) := by
  unfold Draft.takeStart
  split
  · rename_i p found
    rw [Option.ite_none_left_eq_some, Bool.not_eq_true] at found
    exact .inl ⟨p, found.1, found.2, rfl⟩
  · rename_i found
    refine .inr ⟨?_, rfl⟩
    by_cases full : d.full = true
    · exact .inl full
    · rw [if_neg full] at found
      exact .inr found

theorem Draft.Shaped.takeStart {d : Draft} (h : d.Shaped) (ask : CadenceAsk) (n i : Nat) : (d.takeStart ask n i).Shaped := by
  rcases d.takeStart_cases ask n i with ⟨p, room, found, eq⟩ | ⟨-, eq⟩
  · have noted : ({ d with cadence := d.cadence ++ [i] } : Draft).Shaped := h.of_turns rfl rfl
    rw [eq]
    exact (noted.place room (cadencePlace_eq_some found).2 (.of_kind (by exact nofun) rfl)).of_turns rfl rfl
  · rw [eq]
    exact h.of_turns rfl rfl

/-! ### Stages A2 and A3 (R121, R122) -/

/-- The ALIGN turn of a candidate at offset `p`. -/
def Draft.alignTurn (d : Draft) (tag p : Nat) : Turn :=
  { kind := .align, tag := tag, slot := 0, start := p, len := d.setup.Ua, slots := 0, floor := false }

theorem Draft.placeAlign_eq (d : Draft) (tag : Nat) : d.placeAlign tag =
    match (if d.full then none else firstFit d.setup.S d.turns d.setup.Ua) with
    | some p => d.place (d.alignTurn tag p)
    | none => d := rfl

theorem Draft.placeAlign_cases (d : Draft) (tag : Nat) :
    (∃ p, d.full = false ∧ firstFit d.setup.S d.turns d.setup.Ua = some p ∧ d.placeAlign tag = d.place (d.alignTurn tag p)) ∨
    ((d.full = true ∨ firstFit d.setup.S d.turns d.setup.Ua = none) ∧ d.placeAlign tag = d) := by
  rw [Draft.placeAlign_eq]
  split
  · rename_i p found
    rw [Option.ite_none_left_eq_some, Bool.not_eq_true] at found
    exact .inl ⟨p, found.1, found.2, rfl⟩
  · rename_i found
    refine .inr ⟨?_, rfl⟩
    by_cases full : d.full = true
    · exact .inl full
    · rw [if_neg full] at found
      exact .inr found

theorem Draft.Shaped.placeAlign {d : Draft} (h : d.Shaped) (tag : Nat) : (d.placeAlign tag).Shaped := by
  rcases d.placeAlign_cases tag with ⟨p, room, found, eq⟩ | ⟨-, eq⟩
  · rw [eq]
    exact h.place room (fits_of_firstFit h.placed found) (.of_kind nofun rfl)
  · rwa [eq]

theorem Draft.Shaped.alignTurns {d : Draft} (h : d.Shaped) : d.alignTurns.Shaped :=
  (List.foldlRecOn d.candidates Draft.placeAlign h fun _ he t _ => he.placeAlign t).of_turns rfl rfl

/-- The open window at offset `p`. -/
def Draft.openingTurn (d : Draft) (p : Nat) : Turn :=
  { kind := .opening, tag := 0, slot := 0, start := p, len := d.setup.Wo, slots := 0, floor := false }

theorem Draft.openWindowTurn_cases (d : Draft) :
    (∃ p, openWindowDue d.setup.Ao d.index = true ∧ d.full = false ∧ firstFit d.setup.S d.turns d.setup.Wo = some p ∧
      d.openWindowTurn = { d with stage := .floor, openWindow := true }.place (d.openingTurn p)) ∨
    ((openWindowDue d.setup.Ao d.index = false ∨ d.full = true ∨ firstFit d.setup.S d.turns d.setup.Wo = none) ∧
      d.openWindowTurn = { d with stage := .floor }) := by
  have full : ({ d with stage := .floor } : Draft).full = d.full := rfl
  unfold Draft.openWindowTurn
  dsimp only
  rw [full]
  split
  · rename_i p found
    rw [Option.ite_none_right_eq_some, Bool.and_eq_true, Bool.not_eq_true'] at found
    exact .inl ⟨p, found.1.1, found.1.2, found.2, rfl⟩
  · rename_i found
    refine .inr ⟨?_, rfl⟩
    by_cases due : (openWindowDue d.setup.Ao d.index && !d.full) = true
    · rw [if_pos due] at found
      exact .inr (.inr found)
    · rw [Bool.not_eq_true, Bool.and_eq_false_iff, Bool.not_eq_false'] at due
      exact due.imp id .inl

theorem Draft.Shaped.openWindowTurn {d : Draft} (h : d.Shaped) : d.openWindowTurn.Shaped := by
  rcases d.openWindowTurn_cases with ⟨p, -, room, found, eq⟩ | ⟨-, eq⟩
  · have opened : ({ d with stage := .floor, openWindow := true } : Draft).Shaped := h.of_turns rfl rfl
    rw [eq]
    exact opened.place room (fits_of_firstFit h.placed found) (.of_kind nofun rfl)
  · rw [eq]
    exact h.of_turns rfl rfl

/-! ### Runs that are still free -/

/-- The runs stand in order, apart from one another, and are free as a whole. -/
structure RunsFree (S : Nat) (turns : List Turn) (runs : List (Nat × Nat)) : Prop where
  order : runs.Pairwise fun r q => r.1 + r.2 < q.1
  fits : ∀ r ∈ runs, Fits S turns r.1 r.2

theorem Placed.runsFree {S : Nat} {l : List Turn} (h : Placed S l) : RunsFree S l (freeRuns S l) :=
  ⟨freeRuns_pairwise h, fun _ hr => (freeRuns_fits h hr).2⟩

section
variable {S p r : Nat} {l : List Turn} {t : Turn} {runs : List (Nat × Nat)}

theorem RunsFree.tail (h : RunsFree S l ((p, r) :: runs)) : RunsFree S l runs :=
  ⟨h.order.of_cons, fun q hq => h.fits q (List.mem_cons_of_mem _ hq)⟩

theorem RunsFree.head (h : RunsFree S l ((p, r) :: runs)) : Fits S l p r := h.fits _ List.mem_cons_self

theorem RunsFree.past_head (h : RunsFree S l ((p, r) :: runs)) : ∀ q ∈ runs, p + r < q.1 := fun _ hq =>
  List.rel_of_pairwise_cons h.order hq

/-- A turn placed in the first run leaves the others free. -/
theorem RunsFree.insertTurn (h : RunsFree S l ((p, r) :: runs)) (start : t.start = p) (len : t.len ≤ r) :
    RunsFree S (insertTurn t l) runs := by
  refine ⟨h.tail.order, fun q hq => fits_insertTurn_iff.2 ⟨h.tail.fits q hq, .inl ?_⟩⟩
  have := h.past_head q hq
  unfold Turn.stop
  omega

end

/-! ### Stage B (R123) -/

theorem floorWindow_made (b p n : Nat) : (floorWindow b p n).Made b := ⟨fun _ => rfl, fun _ => rfl⟩

/-- One run of the split floor: as many whole slots as it holds and are still wanted, or none where the list is full. -/
theorem Draft.splitFloor_cons (d : Draft) (n p r : Nat) (runs : List (Nat × Nat)) : d.splitFloor n ((p, r) :: runs) =
    if min (r / d.setup.b) n = 0 ∨ d.full then d.splitFloor n runs
    else (d.place (floorWindow d.setup.b p (min (r / d.setup.b) n))).splitFloor (n - min (r / d.setup.b) n) runs := rfl

theorem slots_le_run (r b n : Nat) : min (r / b) n * b ≤ r :=
  (Nat.mul_le_mul_right b (Nat.min_le_left _ _)).trans (Nat.div_mul_le_self r b)

theorem Draft.Shaped.splitFloor {runs : List (Nat × Nat)} {d : Draft} (n : Nat) (h : d.Shaped)
    (free : RunsFree d.setup.S d.turns runs) : (d.splitFloor n runs).Shaped := by
  induction runs generalizing d n with
  | nil => exact h
  | cons run runs ih =>
    obtain ⟨p, r⟩ := run
    rw [Draft.splitFloor_cons]
    split
    · exact ih n h free.tail
    · rename_i some_
      obtain ⟨-, room⟩ := not_or.1 some_
      have within : min (r / d.setup.b) n * d.setup.b ≤ r := slots_le_run _ _ _
      refine ih _ (h.place (Bool.not_eq_true _ ▸ room) (free.head.shorter within) (floorWindow_made _ _ _)) ?_
      rw [Draft.place_setup]
      unfold Draft.place
      split
      · exact free.tail
      · exact free.insertTurn rfl within

theorem Draft.Shaped.claimFloor {d : Draft} (h : d.Shaped) : d.claimFloor.Shaped := by
  have floor : Draft.Shaped (match firstFit d.setup.S d.turns (d.target * d.setup.b) with
      | some p => if d.full then d else d.place (floorWindow d.setup.b p d.target)
      | none => d.splitFloor d.target (freeRuns d.setup.S d.turns)) := by
    split
    · rename_i p found
      split
      · exact h
      · exact h.place (Bool.not_eq_true _ ▸ ‹_›) (fits_of_firstFit h.placed found) (floorWindow_made _ _ _)
    · exact h.splitFloor _ h.placed.runsFree
  exact floor.of_turns rfl rfl

/-! ### Stage C (R125) -/

/-- The largest run is one of the free runs, if there is any. -/
theorem largestRun_mem {S : Nat} {l : List Turn} (some_ : 1 ≤ (largestRun S l).2) : largestRun S l ∈ freeRuns S l := by
  have chosen : ∀ (runs : List (Nat × Nat)) (a : Nat × Nat), runs.foldl largerRun a = a ∨ runs.foldl largerRun a ∈ runs := by
    intro runs
    induction runs with
    | nil => exact fun _ => .inl rfl
    | cons r runs ih =>
      intro a
      rw [List.foldl_cons, List.mem_cons]
      rcases ih (largerRun a r) with first | later
      · rw [first]
        unfold largerRun
        split
        · exact .inr (.inl rfl)
        · exact .inl rfl
      · exact .inr (.inr later)
  rcases chosen (freeRuns S l) (0, 0) with none_ | mem
  · rw [largestRun, none_] at some_
    cases some_
  · exact mem

theorem fits_of_visitPlace {d : Draft} (h : Placed d.setup.S d.turns) {x : Int} {fragmentable : Bool} {p g : Nat}
    (found : visitPlace d x fragmentable = some (p, g)) : Fits d.setup.S d.turns p g := by
  unfold visitPlace at found
  rw [Option.ite_none_left_eq_some] at found
  obtain ⟨-, found⟩ := found
  dsimp only at found
  split at found
  · rename_i q first
    obtain ⟨rfl, rfl⟩ := Prod.mk.inj (Option.some.inj found)
    exact fits_of_firstFit h first
  · rw [Option.ite_none_right_eq_some, Bool.and_eq_true, decide_eq_true_eq] at found
    obtain ⟨⟨-, long⟩, eq⟩ := found
    have mem := largestRun_mem (S := d.setup.S) (l := d.turns) (by omega)
    rw [Option.some.inj eq] at mem
    exact (freeRuns_fits h mem).2

theorem Draft.Shaped.placeData {d : Draft} (h : d.Shaped) (room : d.full = false) {p g : Nat}
    (fits : Fits d.setup.S d.turns p g) (i tag slot cover : Nat) : (d.placeData i tag slot p g cover).Shaped := by
  have noted : ({ d with data := d.data ++ [DataTurn.mk i cover] } : Draft).Shaped := h.of_turns rfl rfl
  exact (noted.place room fits (.of_kind (by exact nofun) rfl)).of_turns rfl rfl

theorem Draft.Shaped.toVisits {d : Draft} (h : d.Shaped) : d.toVisits.Shaped := h.of_turns rfl rfl

/-! ### Stage D (R128) -/

section
variable {b p n : Nat} {t : Turn}

theorem Turn.floorEndsAt_iff : t.floorEndsAt p = true ↔ t.floor = true ∧ t.stop = p := by simp [Turn.floorEndsAt]

theorem Turn.grow_start : (Turn.grow b p n t).start = t.start := by
  unfold Turn.grow
  split <;> rfl

theorem Turn.grow_of_end (h : t.floorEndsAt p = true) :
    Turn.grow b p n t = { t with len := t.len + n * b, slots := t.slots + n } := if_pos h

theorem Turn.grow_of_not (h : t.floorEndsAt p = false) : Turn.grow b p n t = t := if_neg (Bool.not_eq_true _ ▸ h)

theorem Turn.grow_stop : (Turn.grow b p n t).stop = if t.floorEndsAt p then t.stop + n * b else t.stop := by
  unfold Turn.grow Turn.stop
  split
  · dsimp only
    omega
  · rfl

theorem Turn.Made.grow (h : t.Made b) : (Turn.grow b p n t).Made b := by
  unfold Turn.grow
  split
  · refine ⟨fun kind => ?_, h.floor⟩
    have len := h.slots kind
    dsimp only
    rw [len, Nat.add_mul]
  · exact h

end

section
variable {S b p r n : Nat} {l : List Turn} {runs : List (Nat × Nat)}

/-- A floor window that grows into the run behind it stays apart from the others. -/
theorem Placed.map_grow (h : Placed S l) (free : Fits S l p r) (within : n * b ≤ r) : Placed S (l.map (Turn.grow b p n)) := by
  refine ⟨List.pairwise_map.2 (h.behind.imp_of_mem fun {t u} ht hu stop => ?_), fun t ht => ?_⟩
  · have positive := h.start_lt_stop hu
    rw [Turn.grow_start, Turn.grow_stop]
    split
    · have ends := (Turn.floorEndsAt_iff.1 ‹_›).2
      have := free.2 u hu
      omega
    · exact stop
  · obtain ⟨u, hu, rfl⟩ := List.mem_map.1 ht
    obtain ⟨len, stop⟩ := h.within u hu
    have span := free.1
    rw [Turn.grow_stop]
    constructor
    · unfold Turn.grow
      split
      · exact Nat.le_add_right_of_le len
      · exact len
    · split
      · have ends := (Turn.floorEndsAt_iff.1 ‹_›).2
        omega
      · exact stop

/-- It leaves the other runs free. -/
theorem RunsFree.map_grow (h : RunsFree S l ((p, r) :: runs)) (within : n * b ≤ r) :
    RunsFree S (l.map (Turn.grow b p n)) runs := by
  refine ⟨h.tail.order, fun q hq => ⟨(h.tail.fits q hq).1, fun t ht => ?_⟩⟩
  obtain ⟨u, hu, rfl⟩ := List.mem_map.1 ht
  have past := h.past_head q hq
  have free := (h.tail.fits q hq).2 u hu
  rw [Turn.grow_start, Turn.grow_stop]
  split
  · have ends := (Turn.floorEndsAt_iff.1 ‹_›).2
    omega
  · exact free

end

/-- The slots that stage D offers from a run: the whole slots it holds, to no more than 1,024 in all. -/
def Draft.slotsFrom (d : Draft) (r : Nat) : Nat := min (r / d.setup.b) (Config.claimSlots - slotsOffered d.turns)

/-- A window of `n` leftover slots at offset `p`. -/
def leftoverWindow (b p n : Nat) : Turn :=
  { kind := .claim, tag := 0, slot := 0, start := p, len := n * b, slots := n, floor := false }

theorem Draft.takeRun_eq (d : Draft) (p r : Nat) : d.takeRun (p, r) =
    if d.slotsFrom r = 0 then d
    else if d.turns.any (Turn.floorEndsAt p) then { d with turns := d.turns.map (Turn.grow d.setup.b p (d.slotsFrom r)) }
    else if d.full then d
    else d.place (leftoverWindow d.setup.b p (d.slotsFrom r)) := rfl

theorem Draft.takeRun_setup (d : Draft) (run : Nat × Nat) : (d.takeRun run).setup = d.setup := by
  obtain ⟨p, r⟩ := run
  rw [Draft.takeRun_eq]
  split_ifs
  iterate 3
    rfl
  exact d.place_setup _

section
variable {d : Draft} {p r : Nat} {runs : List (Nat × Nat)}

theorem Draft.slotsFrom_within : d.slotsFrom r * d.setup.b ≤ r := slots_le_run _ _ _

theorem Draft.Shaped.takeRun (h : d.Shaped) (free : Fits d.setup.S d.turns p r) : (d.takeRun (p, r)).Shaped := by
  rw [Draft.takeRun_eq]
  split_ifs with nothing merged full
  · exact h
  · refine ⟨by rw [List.length_map]; exact h.room, h.placed.map_grow free Draft.slotsFrom_within, fun t ht => ?_⟩
    obtain ⟨u, hu, rfl⟩ := List.mem_map.1 ht
    exact (h.made u hu).grow
  · exact h
  · exact h.place (Bool.not_eq_true _ ▸ full) (free.shorter Draft.slotsFrom_within) ⟨fun _ => rfl, nofun⟩

theorem Draft.takeRun_runsFree (free : RunsFree d.setup.S d.turns ((p, r) :: runs)) :
    RunsFree d.setup.S (d.takeRun (p, r)).turns runs := by
  rw [Draft.takeRun_eq]
  split_ifs
  · exact free.tail
  · exact free.map_grow Draft.slotsFrom_within
  · exact free.tail
  · unfold Draft.place
    split
    · exact free.tail
    · exact free.insertTurn rfl Draft.slotsFrom_within

theorem Draft.Shaped.foldl_takeRun (h : d.Shaped) (free : RunsFree d.setup.S d.turns runs) :
    (runs.foldl Draft.takeRun d).Shaped := by
  induction runs generalizing d with
  | nil => exact h
  | cons run runs ih =>
    obtain ⟨p, r⟩ := run
    exact ih (h.takeRun free.head) (by rw [Draft.takeRun_setup]; exact Draft.takeRun_runsFree free)

end

theorem Draft.Shaped.leftoverClaims {d : Draft} (h : d.Shaped) : d.leftoverClaims.Shaped :=
  (h.foldl_takeRun h.placed.runsFree).of_turns rfl rfl

end Sys2Proof.Machine
end

section
/-! PROOFS. Every plan in shape (R113, R114): the relation, and the operations that write the draft, the output queue or the
transmitter. -/

namespace Sys2Proof.Machine

/-! ### The relation -/

/-- The turns of a plan record are in shape. -/
def PlanRecord.Shaped (r : PlanRecord) : Prop := turnsShaped r.S r.b r.turns

/-- The queued plans and the record being sent are in shape. -/
structure PlanLink.Shaped (k : PlanLink) : Prop where
  queue : ∀ p ∈ k.queue, p.record.Shaped
  sending : ∀ r ∈ k.sending, r.Shaped

theorem State.plansShaped_iff {s : State} : s.plansShaped ↔ (∀ d ∈ s.builder.draft, d.Shaped) ∧ s.link.Shaped := by
  simp only [Draft.shaped_iff]
  exact ⟨fun ⟨draft, queue, sending⟩ => ⟨draft, queue, sending⟩, fun ⟨draft, link⟩ => ⟨draft, link.queue, link.sending⟩⟩

/-- From `s` to `t`, no plan loses its shape. -/
structure State.KeepsPlans (s t : State) : Prop where
  shaped : s.plansShaped → t.plansShaped

namespace State.KeepsPlans

variable {s t u : State}

theorem refl (s : State) : s.KeepsPlans s := ⟨id⟩

theorem trans (h : s.KeepsPlans t) (k : t.KeepsPlans u) : s.KeepsPlans u := ⟨k.shaped ∘ h.shaped⟩

/-- An operation that writes neither the draft nor the Plan Link. -/
theorem of_rest (draft : t.builder.draft = s.builder.draft) (link : t.link = s.link) : s.KeepsPlans t := by
  refine ⟨fun h => ?_⟩
  rwa [State.plansShaped, draft, link]

/-- An operation that writes the Plan Link and leaves the draft. -/
theorem of_link (draft : t.builder.draft = s.builder.draft) (link : s.link.Shaped → t.link.Shaped) : s.KeepsPlans t := by
  refine ⟨fun h => ?_⟩
  rw [State.plansShaped_iff] at h ⊢
  exact ⟨draft ▸ h.1, link h.2⟩

/-- An operation that writes the draft and leaves the Plan Link. -/
theorem of_draft (draft : (∀ d ∈ s.builder.draft, d.Shaped) → ∀ d ∈ t.builder.draft, d.Shaped) (link : t.link = s.link) :
    s.KeepsPlans t := by
  refine ⟨fun h => ?_⟩
  rw [State.plansShaped_iff] at h ⊢
  exact ⟨draft h.1, link ▸ h.2⟩

/-- What each step of a walk keeps, the walk keeps. -/
theorem foldl {α : Type} {f : State → α → State} (step : ∀ (s : State) (a : α), s.KeepsPlans (f s a)) (l : List α)
    (s : State) : s.KeepsPlans (l.foldl f s) :=
  List.foldlRecOn l f (refl s) fun _ h a _ => h.trans (step _ a)

theorem ite {p : Prop} [Decidable p] (ht : p → s.KeepsPlans t) (hu : ¬p → s.KeepsPlans u) :
    s.KeepsPlans (if p then t else u) := by
  split
  · exact ht ‹_›
  · exact hu ‹_›

end State.KeepsPlans

theorem State.Keeps.plans {s t : State} (h : s.Keeps t) : s.KeepsPlans t := .of_rest (by rw [h.builder]) h.link

/-- The draft `e` is `d` but for the entries that the build has read. -/
def Draft.Reread (d e : Draft) : Prop := e = { d with readStations := e.readStations, readStreams := e.readStreams }

theorem Draft.Reread.refl (d : Draft) : d.Reread d := rfl

theorem Draft.Reread.trans {d e f : Draft} (h : d.Reread e) (k : e.Reread f) : d.Reread f := by
  unfold Draft.Reread at *
  rw [k, h]

theorem Draft.Reread.turns {d e : Draft} (h : d.Reread e) : e.turns = d.turns := by rw [h]

theorem Draft.Reread.setup {d e : Draft} (h : d.Reread e) : e.setup = d.setup := by rw [h]

namespace State

variable (s : State)

/-! ### Single writes -/

theorem plans_modLane (l : LaneId) (f : Lane → Lane) : s.KeepsPlans (s.modLane l f) := .of_rest rfl rfl
theorem plans_count (l : LaneId) (f : LaneCounters → LaneCounters) : s.KeepsPlans (s.count l f) := .of_rest rfl rfl
theorem plans_modHistory (l : LaneId) (q : PlanSeq) (f : HistEntry → HistEntry) : s.KeepsPlans (s.modHistory l q f) :=
  .of_rest rfl rfl
theorem plans_setRx (l : LaneId) (v : RxPort) : s.KeepsPlans (s.setRx l v) := .of_rest rfl rfl
theorem plans_setClaim (l : LaneId) (v : Claim) : s.KeepsPlans (s.setClaim l v) := .of_rest rfl rfl
theorem plans_setPort (p : ControlPort) : s.KeepsPlans { s with port := p } := .of_rest rfl rfl
theorem plans_setIntegrity (i : IntegrityUnit) : s.KeepsPlans { s with integrity := i } := .of_rest rfl rfl

theorem plans_setWaiting (ws : List WaitingSpan) : s.KeepsPlans { s with builder := { s.builder with waiting := ws } } :=
  .of_rest rfl rfl

theorem plans_raise (b : ReportBody) : s.KeepsPlans (s.raise b) := (s.keeps_raise b).plans

theorem plans_refreshPart : s.KeepsPlans s.refreshPart := by
  rw [refreshPart_eq]
  exact s.plans_setPort _

theorem plans_setLaneState (l : LaneId) (st : LaneState) : s.KeepsPlans (s.setLaneState l st) :=
  (s.plans_modLane l _).trans (plans_refreshPart _)

/-! ### The draft -/

variable {s} in
theorem plans_setDraft {d e : Draft} (draft : s.builder.draft = some d) (kept : d.Shaped → e.Shaped) :
    s.KeepsPlans (s.setDraft (some e)) :=
  .of_draft (fun h d' hd' => by
    obtain rfl := Option.some.inj hd'
    exact kept (h d draft)) rfl

theorem plans_dropDraft : s.KeepsPlans (s.setDraft none) := .of_draft (fun _ => nofun) rfl

theorem plans_modDraft (f : Draft → Draft) (kept : ∀ d : Draft, d.Shaped → (f d).Shaped) : s.KeepsPlans (s.modDraft f) :=
  .of_draft (fun h e he => by
    obtain ⟨d, hd, rfl⟩ := Option.map_eq_some_iff.1 he
    exact kept d (h d hd)) rfl

/-- A write of the draft that leaves its setup and its turns. -/
theorem plans_noteDraft (f : Draft → Draft) (setup : ∀ d, (f d).setup = d.setup := by exact fun _ => rfl)
    (turns : ∀ d, (f d).turns = d.turns := by exact fun _ => rfl) : s.KeepsPlans (s.modDraft f) :=
  s.plans_modDraft f fun d h => h.of_turns (setup d) (turns d)

variable {s} in
/-- Work on the draft at its stage. -/
theorem plans_atStage (st : Stage) {f : Draft → State}
    (kept : ∀ d, s.builder.draft = some d → d.Shaped → s.KeepsPlans (f d)) : s.KeepsPlans (s.atStage st f) := by
  unfold State.atStage
  split
  · rename_i d draft
    exact .ite (fun _ => ⟨fun shaped => (kept d draft ((State.plansShaped_iff.1 shaped).1 d draft)).shaped shaped⟩)
      fun _ => .refl s
  · exact .refl s

variable {s} in
/-- A read of the build leaves its draft but for the note of the read (R116). -/
theorem buildReadStation_draft {d : Draft} (draft : s.builder.draft = some d) (t : Nat) :
    ∃ e, (s.buildReadStation t).builder.draft = some e ∧ d.Reread e := by
  unfold State.buildReadStation
  rw [draft]
  dsimp only
  split
  · exact ⟨d, draft, .refl d⟩
  · refine ⟨_, ?_, (rfl : d.Reread { d with readStations := t :: d.readStations })⟩
    rw [(keeps_checkStation _ .build t).builder]
    rfl

variable {s} in
theorem buildReadStream_draft {d : Draft} (draft : s.builder.draft = some d) (i : Nat) :
    ∃ e, (s.buildReadStream i).builder.draft = some e ∧ d.Reread e := by
  unfold State.buildReadStream
  rw [draft]
  dsimp only
  split
  · exact ⟨d, draft, .refl d⟩
  · refine ⟨_, ?_, (rfl : d.Reread { d with readStreams := i :: d.readStreams })⟩
    rw [(keeps_checkStream _ .build i).builder]
    rfl

variable {s} in
theorem buildReadOwner_draft {d : Draft} (draft : s.builder.draft = some d) (i : Nat) :
    ∃ e, (s.buildReadOwner i).builder.draft = some e ∧ d.Reread e := by
  unfold State.buildReadOwner
  split
  · exact buildReadStation_draft draft _
  · exact ⟨d, draft, .refl d⟩

theorem buildReadStation_link (t : Nat) : (s.buildReadStation t).link = s.link := by
  unfold State.buildReadStation
  split
  · rfl
  · split
    · rfl
    · exact (keeps_checkStation _ .build t).link

theorem buildReadStream_link (i : Nat) : (s.buildReadStream i).link = s.link := by
  unfold State.buildReadStream
  split
  · rfl
  · split
    · rfl
    · exact (keeps_checkStream _ .build i).link

theorem buildReadOwner_link (i : Nat) : (s.buildReadOwner i).link = s.link := by
  unfold State.buildReadOwner
  split
  · exact s.buildReadStation_link _
  · rfl

variable {s} in
/-- An operation that leaves the draft but for the entries read. -/
theorem KeepsPlans.of_reread {t : State} (link : t.link = s.link)
    (read : ∀ d, s.builder.draft = some d → ∃ e, t.builder.draft = some e ∧ d.Reread e)
    (idle : s.builder.draft = none → t.builder.draft = none) : s.KeepsPlans t := by
  refine .of_draft (fun h e he => ?_) link
  cases draft : s.builder.draft with
  | none => rw [idle draft] at he; cases he
  | some d =>
    obtain ⟨e', he', same⟩ := read d draft
    obtain rfl := Option.some.inj (he'.symm.trans he)
    exact (h d draft).of_turns same.setup same.turns

theorem plans_buildReadStation (t : Nat) : s.KeepsPlans (s.buildReadStation t) :=
  .of_reread (s.buildReadStation_link t) (fun _ draft => buildReadStation_draft draft t) fun none_ => by
    unfold State.buildReadStation
    rw [none_]
    exact none_

theorem plans_buildReadStream (i : Nat) : s.KeepsPlans (s.buildReadStream i) :=
  .of_reread (s.buildReadStream_link i) (fun _ draft => buildReadStream_draft draft i) fun none_ => by
    unfold State.buildReadStream
    rw [none_]
    exact none_

theorem plans_buildReadOwner (i : Nat) : s.KeepsPlans (s.buildReadOwner i) := by
  unfold State.buildReadOwner
  split
  · exact s.plans_buildReadStation _
  · exact .refl s

/-! ### Lanes stopped and faulted (R15 to R18) -/

theorem plans_clearHistory (l : LaneId) : s.KeepsPlans (s.clearHistory l) :=
  (s.plans_modLane l _).trans (s.keeps_clearHistory l).plans

theorem plans_reachIdle (l : LaneId) : s.KeepsPlans (s.reachIdle l) :=
  (s.plans_setLaneState l .idle).trans <| (plans_clearHistory _ l).trans <| (keeps_emptyNotices _ l).plans.trans <|
    (plans_modLane _ l _).trans (plans_raise _ _)

theorem plans_settleDraining (l : LaneId) : s.KeepsPlans (s.settleDraining l) :=
  .ite (fun _ => s.plans_reachIdle l) fun _ => .refl s

theorem plans_withdraw (l : LaneId) : s.KeepsPlans (s.withdraw l) := s.plans_setWaiting _

theorem plans_stopLive (l : LaneId) : s.KeepsPlans (s.stopLive l) :=
  (s.plans_setLaneState l .draining).trans <| (plans_withdraw _ l).trans <| (keeps_rehomeAll _ l).plans.trans
    (plans_settleDraining _ l)

theorem plans_stopFaulted (l : LaneId) : s.KeepsPlans (s.stopFaulted l) :=
  (s.plans_setLaneState l .idle).trans <| (plans_modLane _ l _).trans (plans_raise _ _)

/-- Plans may leave the output queue. -/
theorem plans_filterQueue (f : Plan → Bool) :
    s.KeepsPlans { s with link := { s.link with queue := s.link.queue.filter f } } :=
  .of_link rfl fun h => ⟨fun p hp => h.queue p (List.mem_of_mem_filter hp), h.sending⟩

theorem plans_enterFaulted (l : LaneId) : s.KeepsPlans (s.enterFaulted l) :=
  (s.plans_setLaneState l .faulted).trans <| (plans_withdraw _ l).trans <| (plans_filterQueue _ _).trans <|
    (keeps_restoreData _ _).plans.trans <| (Keeps.foldl keeps_dropQuietly _ _).plans.trans <| (plans_clearHistory _ l).trans <|
    ((keeps_emptyNotices _ l).trans <| (keeps_rehomeAll _ l).trans (keeps_raise _ _)).plans

theorem plans_faultIfDue (l : LaneId) : s.KeepsPlans (s.faultIfDue l) :=
  .ite (fun _ => s.plans_enterFaulted l) fun _ => .refl s

/-! ### Spans (R137 to R139) -/

theorem plans_skipSpan (w : WaitingSpan) : s.KeepsPlans (s.skipSpan w) :=
  (s.plans_setWaiting _).trans <| (plans_modLane _ w.lane _).trans <| (plans_raise _ _).trans (plans_faultIfDue _ w.lane)

theorem plans_expireSpan (l : LaneId) (k : BitVec 32) : s.KeepsPlans (State.expireSpan l k s) := by
  unfold State.expireSpan
  split
  · exact .refl s
  · exact .ite (fun _ => s.plans_skipSpan _) fun _ => .refl s

theorem plans_handOver (l : LaneId) : s.KeepsPlans (State.handOver l s) :=
  .ite (fun _ => (s.plans_setWaiting _).trans (plans_modLane _ l _)) fun _ => .refl s

theorem plans_considerCandidate (t : Nat) : s.KeepsPlans (s.considerCandidate t) := by
  unfold State.considerCandidate
  split
  · exact .refl s
  · exact .ite (fun _ => .refl s) fun _ =>
      (s.plans_buildReadStation t).trans (.ite (fun _ => plans_noteDraft _ _) fun _ => .refl _)

theorem plans_considerNotice (n : Notice) : s.KeepsPlans (s.considerNotice n) := by
  unfold State.considerNotice
  split
  · exact .refl s
  · exact .ite (fun _ => .refl s) fun _ => (s.plans_buildReadStation _).trans <|
      .ite (fun _ => .refl _) fun _ => (plans_noteDraft _ _).trans (plans_modLane _ _ _)

/-- A draft opens with no turn (R115). -/
theorem openDraft_shaped (w : WaitingSpan) : (s.openDraft w).Shaped :=
  ⟨Nat.zero_le _, ⟨.nil, nofun⟩, nofun⟩

theorem plans_beginBuild (w : WaitingSpan) : s.KeepsPlans (s.beginBuild w) := by
  have opened : s.KeepsPlans { s with builder := {
      waiting := s.builder.waiting.filter (· ≠ w), draft := some (s.openDraft w) } } :=
    .of_draft (fun _ d hd => by
      obtain rfl := Option.some.inj hd
      exact s.openDraft_shaped w) rfl
  exact opened.trans <| (keeps_setJoined _ w.lane []).plans.trans <|
    (KeepsPlans.foldl plans_considerCandidate _ _).trans <|
    (KeepsPlans.foldl plans_considerNotice _ _).trans (plans_noteDraft _ _)

theorem plans_takeSpan : s.KeepsPlans s.takeSpan := by
  unfold State.takeSpan
  split
  · exact .ite (fun _ => s.plans_skipSpan _) fun _ => s.plans_beginBuild _
  · exact .refl s

/-! ### The stages of a build -/

theorem plans_walkCadenced : s.KeepsPlans s.walkCadenced := by
  refine plans_atStage _ fun d _ shaped => ?_
  have walked : ∀ (ask : Nat → CadenceAsk) (starts : List NominalStart),
      (starts.foldl (fun (d : Draft) a => d.takeStart (ask a.2) a.1 a.2) d).Shaped := fun ask starts =>
    List.foldlRecOn starts _ shaped fun _ h a _ => h.takeStart _ _ _
  exact (KeepsPlans.foldl (fun s i => (s.plans_buildReadStream i).trans (plans_buildReadOwner _ i)) _ s).trans <|
    (Keeps.foldl (fun s i => s.keeps_modStream i _) _ _).plans.trans <| (plans_count _ _ _).trans <|
      plans_modDraft _ _ fun _ _ => (walked (fun i => (State.stream _ i).ask) _).of_turns rfl rfl

variable {s} in
/-- The visit of a stream places at most one turn, in a list that has room. -/
theorem plans_visit {d e : Draft} (draft : s.builder.draft = some e) (same : d.Reread e) (room : d.full = false)
    (k : Fin 4) (i : Nat) : s.KeepsPlans (s.visit d k i) := by
  unfold State.visit
  dsimp only
  split
  · exact (s.keeps_skipVisit _ _ _ _).plans
  · rename_i p g found
    have served := s.keeps_serveVisit d.lane k i (visitCredit (s.stream i).credit (s.stream i).weight d.creditUnit)
      (coverOf d.setup (s.stream i).avail g)
    refine served.plans.trans (.of_draft (fun h f hf => ?_) rfl)
    obtain ⟨e', he', rfl⟩ := Option.map_eq_some_iff.1 hf
    obtain rfl : e' = e := Option.some.inj (he'.symm.trans (by rw [served.builder, draft]))
    have shaped := h e' he'
    refine shaped.placeData (by rw [Draft.full, same.turns]; exact room) ?_ _ _ _ _
    have placed := shaped.placed
    rw [same.setup, same.turns] at placed ⊢
    exact fits_of_visitPlace placed found

theorem plans_visitNext : s.KeepsPlans s.visitNext := by
  refine plans_atStage _ fun d draft _ => ?_
  split
  · exact plans_setDraft draft Draft.Shaped.toVisits
  · rename_i k i rest visits
    have ended : ¬d.visitsEnded = true := fun ended => by rw [if_pos ended] at visits; cases visits
    have room : ({ d with visits := rest } : Draft).full = false := by
      rw [Draft.visitsEnded] at ended
      show d.full = false
      cases full : d.full with
      | false => rfl
      | true => rw [full, Bool.or_true, Bool.true_or] at ended; exact absurd rfl ended
    have opened : (s.setDraft (some { d with visits := rest })).builder.draft = some { d with visits := rest } := rfl
    obtain ⟨e, draft', read⟩ := buildReadStream_draft opened i
    obtain ⟨f, draft'', read'⟩ := buildReadOwner_draft draft' i
    have started : s.KeepsPlans (s.setDraft (some { d with visits := rest })) :=
      plans_setDraft draft fun h => h.of_turns rfl rfl
    refine started.trans <| (plans_buildReadStream _ i).trans <|
      (plans_buildReadOwner _ i).trans <| KeepsPlans.trans (.ite (fun _ => ?_) fun _ => .refl _)
        (plans_modDraft _ _ fun _ h => h.toVisits)
    exact plans_visit draft'' (read.trans read') room k i

theorem plans_choosePending (i : Nat) : s.KeepsPlans (s.choosePending i) := by
  unfold State.choosePending
  split
  · exact .refl s
  · exact .ite (fun _ => .refl s) fun _ =>
      (s.plans_buildReadStream i).trans (.ite (fun _ => plans_noteDraft _ _) fun _ => .refl _)

theorem plans_selectPending : s.KeepsPlans s.selectPending :=
  plans_atStage _ fun _ _ _ => (KeepsPlans.foldl plans_choosePending _ s).trans (plans_noteDraft _ _)

/-! ### Build completion (R140, R141) -/

variable {s} in
theorem plans_queuePlan {p : Plan} (shaped : p.record.Shaped) : s.KeepsPlans (s.queuePlan p) := by
  have queued : s.KeepsPlans { s with link := { s.link with queue := s.link.queue ++ [p] } } :=
    .of_link rfl fun h => ⟨fun q hq => by
      rcases List.mem_append.1 hq with old | new
      · exact h.queue q old
      · rw [List.mem_singleton.1 new]
        exact shaped, h.sending⟩
  exact queued.trans ((keeps_raiseRefs _ _ _).trans <| (keeps_mapNotices _ _ _).trans <|
    .foldl (fun s t => s.keeps_modStation t _) _ _).plans

theorem plans_completeBuild : s.KeepsPlans s.completeBuild := by
  refine plans_atStage _ fun d _ shaped => ?_
  have plan : (d.plan s.now).record.Shaped := (Draft.shaped_iff.1 shaped).1
  exact s.plans_dropDraft.trans <|
    (KeepsPlans.ite (fun _ => plans_queuePlan plan) fun _ =>
      ((keeps_restoreData _ _).trans (keeps_mapNotices _ _ _)).plans).trans <|
      ((Keeps.foldl keeps_settleStation _ _).trans (.foldl keeps_settleStream _ _)).plans.trans
        (plans_settleDraining _ _)

/-! ### The Plan Link (R143 to R148) -/

theorem plans_expirePlan (l : LaneId) (q : PlanSeq) : s.KeepsPlans (State.expirePlan l q s) := by
  refine .of_link rfl fun h => ⟨fun p hp => ?_, h.sending⟩
  obtain ⟨old, hold, rfl⟩ := List.mem_map.1 hp
  split
  · exact h.queue old hold
  · exact h.queue old hold

theorem plans_endTransmit : s.KeepsPlans { s with link := { s.link with sending := none } } :=
  .of_link rfl fun h => ⟨h.queue, nofun⟩

theorem plans_enterOpen (l : LaneId) : s.KeepsPlans (s.enterOpen l) := (s.plans_setClaim l _).trans (plans_raise _ _)

theorem plans_missingTally (l : LaneId) : s.KeepsPlans (s.missingTally l) :=
  (s.plans_setClaim l _).trans (.ite (fun _ => plans_enterOpen _ l) fun _ => .refl _)

theorem plans_evict (l : LaneId) (h : HistEntry) : s.KeepsPlans (s.evict l h) :=
  ((s.keeps_lowerRefs _ _).trans (.foldl (fun s a => s.keeps_evictTurn l h.seq a) _ _)).plans.trans <|
    .ite (fun _ => plans_missingTally _ l) fun _ => .refl _

theorem plans_pushHistory (l : LaneId) (h : HistEntry) : s.KeepsPlans (s.pushHistory l h) := by
  refine .ite (fun _ => ?_) fun _ => s.plans_modLane l _
  split
  · exact .refl s
  · exact (s.plans_modLane l _).trans (plans_evict _ l _)

theorem plans_judgeLate (r : PlanRecord) (M : Int) : s.KeepsPlans (s.judgeLate r M) :=
  .ite (fun _ => .ite (fun _ => .refl s) fun _ => (s.plans_modLane _ _).trans (plans_raise _ _))
    fun _ => s.plans_modLane _ _

theorem plans_reportSlips (r : PlanRecord) (n : Nat) (lowest : Option Nat) : s.KeepsPlans (s.reportSlips r n lowest) :=
  .ite (fun _ => s.plans_raise _) fun _ => .refl s

variable {s} in
/-- A commit of a plan in shape: its record is what the transmitter sends. -/
theorem plans_commit {p : Plan} (shaped : p.record.Shaped) (M : Int) : s.KeepsPlans (s.commit p M) := by
  have send : ∀ t : State, t.KeepsPlans { t with link := { t.link with sending := some p.record } } := fun t =>
    .of_link rfl fun h => ⟨h.queue, fun r hr => Option.some.inj hr ▸ shaped⟩
  exact ((s.keeps_commitStreams p).trans (keeps_commitNotices _ p.record)).plans.trans <|
    (plans_pushHistory _ p.record.lane p.entry).trans <| (plans_modLane _ p.record.lane _).trans <|
    (plans_judgeLate _ p.record M).trans <| (plans_reportSlips _ p.record _ _).trans (send _)

theorem plans_loseCadence (l : LaneId) (i : Nat) : s.KeepsPlans (State.loseCadence l s i) :=
  (s.keeps_modStream i _).plans.trans (plans_count _ l _)

theorem plans_drop (p : Plan) (M : Int) : s.KeepsPlans (s.drop p M) :=
  (s.keeps_restoreData p.data).plans.trans <| (KeepsPlans.foldl (fun s i => s.plans_loseCadence _ i) p.cadence _).trans <|
    (keeps_dropQuietly _ p).plans.trans <| (plans_modLane _ p.record.lane _).trans <| (plans_raise _ _).trans <|
    (plans_reportSlips _ p.record _ _).trans (plans_faultIfDue _ _)

theorem plans_startTransmit : s.KeepsPlans s.startTransmit := by
  unfold State.startTransmit
  split
  · rename_i p rest _ queue
    refine .ite (fun _ => ⟨fun shaped => ?_⟩) fun _ => .refl s
    have link := (State.plansShaped_iff.1 shaped).2
    have head : p.record.Shaped := link.queue p (queue ▸ List.mem_cons_self)
    have taken : s.KeepsPlans { s with link := { s.link with queue := rest } } :=
      .of_link rfl fun h => ⟨fun q hq => h.queue q (queue ▸ List.mem_cons_of_mem p hq), h.sending⟩
    exact (taken.trans <| (KeepsPlans.ite (fun _ => plans_drop _ _ _) fun _ => plans_commit head _).trans
      (plans_settleDraining _ _)).shaped shaped
  · exact .refl s

end State

end Sys2Proof.Machine
end

section
/-! PROOFS. Every command keeps the plans in shape, and so does every step. -/

namespace Sys2Proof.Machine

namespace State

variable (s : State)

/-! ### Reset values and tables cleared (R161, R172) -/

/-- After a reset the builder is IDLE, the output queue empty and the transmitter IDLE (R172). -/
theorem plans_restarted (cause : Cause) (pin : Bool) : s.KeepsPlans (s.restarted cause pin) := ⟨fun _ => ⟨nofun, nofun, nofun⟩⟩

theorem plans_completeClearing : s.KeepsPlans s.completeClearing := by
  unfold State.completeClearing
  split
  · exact (KeepsPlans.of_rest rfl rfl : s.KeepsPlans s.clearTables).trans <| (plans_setPort _ _).trans (plans_raise _ _)
  iterate 3
    exact .refl s

/-! ### The Integrity Unit -/

theorem plans_endScrub : s.KeepsPlans s.endScrub := by
  unfold State.endScrub
  split
  · exact .refl s
  · exact (s.plans_setIntegrity _).trans (plans_raise _ _)

theorem plans_scrubOne : s.KeepsPlans s.scrubOne := by
  unfold State.scrubOne
  split
  · exact .refl s
  · split
    · exact (s.keeps_checkStation .scrub _).plans.trans (plans_setIntegrity _ _)
    · exact .ite (fun _ => (s.keeps_checkStream .scrub _).plans.trans (plans_setIntegrity _ _))
        fun _ => (s.keeps_checkStream .scrub _).plans.trans (plans_endScrub _)

theorem plans_endMemoryTest (m : Option Mismatch) : s.KeepsPlans (State.endMemoryTest m s) := by
  refine .ite (fun _ => KeepsPlans.trans ?_ (plans_refreshPart _)) fun _ => .refl s
  exact (s.plans_raise _).trans (.of_rest rfl rfl)

/-! ### Frames (R163, R164) -/

theorem plans_armGate (h : BitVec 16) : s.KeepsPlans (s.armGate h) :=
  .ite (fun _ => s.plans_setPort _) fun _ => .ite (fun _ => s.plans_setPort _) fun _ => s.plans_setPort _

theorem plans_deliver (o : Outgoing) (n : Nat) : s.KeepsPlans (s.deliver o n) := by
  refine .ite (fun _ => .refl s) fun _ => ?_
  split
  · exact .refl s
  · dsimp only
    split
    · exact (s.plans_setPort _).trans (plans_armGate _ _)
    · exact s.plans_setPort _
  · exact (s.plans_setPort _).trans (.ite (fun _ => (plans_setPort _ _).trans (plans_raise _ _)) fun _ => .refl _)

theorem plans_beginFrame : s.KeepsPlans s.beginFrame := by
  unfold State.beginFrame
  split
  · exact .refl s
  · exact s.plans_setPort _

theorem plans_queueReply (kind reference : Byte) (o : ReqOutcome) (body : ReplyBody) :
    s.KeepsPlans (s.queueReply kind reference o body) := s.plans_setPort _

theorem plans_frameEnd (n : Nat) {take : State → State} (kept : ∀ s : State, s.KeepsPlans (take s)) :
    s.KeepsPlans (State.frameEnd n take s) := by
  unfold State.frameEnd
  split
  · exact .refl s
  · exact (s.plans_deliver _ n).trans <| (kept _).trans (.of_rest rfl rfl)

theorem plans_unlessLost (kind reference : Byte) {go : State → State} (kept : s.KeepsPlans (go s)) :
    s.KeepsPlans (State.unlessLost kind reference go s) := .ite (fun _ => s.plans_raise _) fun _ => kept

theorem plans_takeRequest (kind reference : Byte) {own : State → Answer} (kept : s.KeepsPlans (own s).state) :
    s.KeepsPlans (State.takeRequest kind reference own s) := by
  have answered : s.KeepsPlans (s.answer kind reference own) := kept.trans (plans_queueReply _ _ _ _ _)
  refine s.plans_unlessLost kind reference ?_
  split
  · exact s.plans_queueReply _ _ _ _
  · exact .ite (fun _ => answered) fun _ => s.plans_queueReply _ _ _ _
  · exact answered
  · exact answered

/-! ### The rules of the lane, part and test requests -/

theorem KeepsPlans.carriedOut {s t : State} {body : ReplyBody} (h : s.KeepsPlans t) : s.KeepsPlans (carryOut body t).state := h

theorem plans_laneSetupRule (b : LaneSetupBody) : s.KeepsPlans (laneSetupRule b s).state := by
  unfold laneSetupRule
  split
  · exact .refl s
  · split
    · exact .refl s
    · split
      · exact .refl s
      · exact .carriedOut (s.plans_modLane _ _)

theorem plans_startLane (l : LaneId) : s.KeepsPlans (s.startLane l) :=
  (s.plans_clearHistory l).trans <| (keeps_emptyNotices _ l).plans.trans <| (plans_modLane _ l _).trans <|
    (plans_setClaim _ l _).trans <| (plans_setRx _ l _).trans <|
    ((Keeps.foldl (fun s i => s.keeps_modStream i _) _ _).trans (keeps_resumeAll _ l)).plans.trans (plans_setLaneState _ l _)

theorem plans_laneStartRule (lane : Byte) : s.KeepsPlans (laneStartRule lane s).state := by
  unfold laneStartRule
  split
  · exact .refl s
  · dsimp only
    split_ifs
    iterate 4
      exact .refl s
    exact .carriedOut (s.plans_startLane _)

theorem plans_laneStopRule (lane : Byte) : s.KeepsPlans (laneStopRule lane s).state := by
  unfold laneStopRule
  split
  · exact .refl s
  · split
    · exact .carriedOut (s.plans_stopLive _)
    · exact .carriedOut (s.plans_stopFaulted _)
    iterate 2
      exact .refl s

theorem plans_laneReadRule (lane : Byte) : s.KeepsPlans (laneReadRule lane s).state := by
  unfold laneReadRule
  split <;> exact .refl s

theorem plans_replaceClaim (l : LaneId) (n : ClaimSettings) : s.KeepsPlans (s.replaceClaim l n) :=
  (s.plans_setClaim l _).trans (.ite (fun _ => plans_enterOpen _ l) fun _ => .refl _)

theorem plans_claimSetupRule (b : ClaimSetupBody) : s.KeepsPlans (claimSetupRule b s).state := by
  unfold claimSetupRule
  split
  · exact .refl s
  · split
    · exact .refl s
    · exact .carriedOut (s.plans_replaceClaim _ _)

theorem plans_setPart (p : PartSettings) : s.KeepsPlans (s.setPart p) := by
  have settings : s.KeepsPlans { s with align := { s.align with settings := p } } := .of_rest rfl rfl
  exact .ite (fun _ => settings.trans (Keeps.foldl (fun s t => s.keeps_modStation t _) _ _).plans) fun _ => settings

theorem plans_partSetupRule (b : PartSetupBody) : s.KeepsPlans (partSetupRule b s).state := by
  unfold partSetupRule
  split
  · exact .refl s
  · exact .carriedOut (s.plans_setPart _)

theorem plans_scrubRule : s.KeepsPlans (scrubRule s).state := by
  unfold scrubRule
  split
  · exact .refl s
  · exact .carriedOut (s.plans_setIntegrity _)

theorem plans_memoryTestRule : s.KeepsPlans (memoryTestRule s).state := by
  unfold memoryTestRule
  split_ifs
  iterate 3
    exact .refl s
  exact .of_rest rfl rfl

/-! ### Reception records -/

theorem plans_pushNotice (l : LaneId) (b : NoticeBody) : s.KeepsPlans (s.pushNotice l b) := .of_rest rfl rfl

theorem plans_discardResult (l : LaneId) : s.KeepsPlans (s.discardResult l) := .of_rest rfl rfl

theorem plans_giveVerdict (l : LaneId) (t : Nat) (dt dp : Int) (v : Verdict) : s.KeepsPlans (s.giveVerdict l t dt dp v) :=
  .of_rest rfl rfl

theorem plans_measure (l : LaneId) (t : Nat) (et ep : Int) : s.KeepsPlans (s.measure l t et ep) :=
  (s.keeps_modStation t _).plans.trans <|
    .ite (fun _ => (plans_giveVerdict _ l t _ _ _).trans (keeps_verdictDone _ l t).plans) fun _ =>
      (keeps_modStation _ t _).plans.trans <|
        .ite (fun _ => (plans_giveVerdict _ l t _ _ _).trans (keeps_verdictAbort _ l t).plans) fun _ =>
          (plans_giveVerdict _ l t _ _ _).trans (keeps_setDueNow _ t).plans

theorem plans_takeTurnReport (l : LaneId) (t : Nat) (r : TurnReport) : s.KeepsPlans (s.takeTurnReport l t r) := by
  cases r with
  | none => exact (s.keeps_noShow l t).plans
  | some m =>
    exact .ite (fun _ => (s.keeps_noShow l t).plans) fun _ =>
      .ite (fun _ => (s.plans_discardResult l).trans (keeps_noShow _ l t).plans) fun _ => s.plans_measure l t _ _

theorem plans_alignmentRecord (l : LaneId) (h : HistEntry) (t : Nat) (r : TurnReport) :
    s.KeepsPlans (s.alignmentRecord l h t r) := by
  unfold State.alignmentRecord
  split
  · exact s.plans_discardResult l
  · exact .ite (fun _ => s.plans_discardResult l) fun _ =>
      (s.keeps_checkStation .record t).plans.trans <| (plans_modHistory _ l h.seq _).trans <|
        (keeps_clearMark _ l h.seq t).plans.trans <|
          .ite (fun _ => plans_takeTurnReport _ l t r) fun _ => plans_discardResult _ l

theorem plans_takeBid (l : LaneId) (t : Nat) (slot : Fin 8) (seq amount : Nat) :
    s.KeepsPlans (s.takeBid l t slot seq amount) := by
  refine (s.keeps_checkStation .record t).plans.trans (.ite (fun _ => plans_count _ l _) fun _ => ?_)
  split
  · exact plans_count _ l _
  · exact .ite (fun _ => plans_count _ l _) fun _ => (keeps_checkStream _ .record _).plans.trans <|
      .ite (fun _ => (keeps_applyBid _ _ _ _).plans.trans (plans_count _ l _)) fun _ => plans_count _ l _

theorem plans_takeTally (l : LaneId) (h : HistEntry) (offered clean collided : Nat) :
    s.KeepsPlans (s.takeTally l h offered clean collided) :=
  .ite (fun _ => s.plans_count l _) fun _ => (s.plans_modHistory l h.seq _).trans <| (plans_setClaim _ l _).trans <|
    .ite (fun _ => plans_raise _ _) fun _ => .refl _

theorem plans_refuseJoin (l : LaneId) (a : HwAddr) (r : JoinRefusal) : s.KeepsPlans (s.refuseJoin l a r) :=
  (s.plans_discardResult l).trans (plans_raise _ _)

theorem plans_newJoin (l : LaneId) (h : HistEntry) (a : HwAddr) (t : Nat) (et ep : Int) :
    s.KeepsPlans (s.newJoin l h a t et ep) :=
  (KeepsPlans.of_rest rfl rfl : s.KeepsPlans { s with stations := { s.stations with
      freeTags := s.stations.freeTags.tail, joinMap := s.stations.joinMap ++ [(a, t)] } }).trans <|
    ((keeps_putStation _ t _).trans (keeps_setDueNow _ t)).plans.trans <| (plans_pushNotice _ l _).trans <|
    (plans_modHistory _ l h.seq _).trans (plans_raise _ _)

theorem plans_rejoin (l : LaneId) (h : HistEntry) (a : HwAddr) (t : Nat) (et ep : Int) :
    s.KeepsPlans (s.rejoin l h a t et ep) :=
  ((s.keeps_modStation t _).trans <| (keeps_tidyRefs _ t).trans <| (keeps_clearStreams _ t).trans
    (keeps_setDueNow _ t)).plans.trans <|
    (plans_pushNotice _ l _).trans <| (plans_modHistory _ l h.seq _).trans (plans_raise _ _)

theorem plans_joinRecord (l : LaneId) (h : HistEntry) (a : HwAddr) (et ep : Int) (quality : Nat) :
    s.KeepsPlans (s.joinRecord l h a et ep quality) := by
  refine .ite (fun _ => s.plans_discardResult l) fun _ => ?_
  split
  · exact (s.keeps_checkStation .record _).plans.trans <| .ite (fun _ => plans_refuseJoin _ l a _) fun _ =>
      .ite (fun _ => plans_refuseJoin _ l a _) fun _ => plans_rejoin _ l h a _ et ep
  · refine .ite (fun _ => s.plans_refuseJoin l a _) fun _ => ?_
    split
    · exact s.plans_refuseJoin l a _
    · exact .ite (fun _ => s.plans_refuseJoin l a _) fun _ => s.plans_newJoin l h a _ et ep

theorem plans_admitRecord (h : RecordHead) (bad : Bool) {go : State → State} (kept : ∀ s : State, s.KeepsPlans (go s)) :
    s.KeepsPlans (State.admitRecord h bad go s) :=
  .ite (fun _ => (s.plans_setRx _ _).trans <| .ite (fun _ => plans_setRx _ _ _) fun _ => kept _) fun _ => s.plans_setRx _ _

theorem plans_checkTag (h : RecordHead) (w : BitVec 16) {go : State → State} (kept : s.KeepsPlans (go s)) :
    s.KeepsPlans (State.checkTag h w go s) := .ite (fun _ => kept) fun _ => s.plans_setRx _ _

theorem plans_matchHistory (h : RecordHead) {own : HistEntry → State → State} (kept : ∀ e, s.KeepsPlans (own e s)) :
    s.KeepsPlans (State.matchHistory h own s) := by
  unfold State.matchHistory
  split
  · exact kept _
  · exact s.plans_setRx _ _

theorem plans_endCovered (l : LaneId) : s.KeepsPlans (State.endCovered l s) :=
  .ite (fun _ => s.plans_modLane l _) fun _ => .refl s

end State

/-! ### The commands -/

/-- The command's next state keeps the plans in shape. -/
def OutcomeKeepsPlans (s : State) (o : Host.Outcome State Fault Refusal) : Prop := ∀ t, o = .next t → s.KeepsPlans t

section
variable (s : State)

theorem State.plans_unlessReset {f : State → State} (kept : s.KeepsPlans (f s)) : OutcomeKeepsPlans s (s.unlessReset f) := by
  rintro t ⟨⟩
  exact .ite (fun _ => .refl s) fun _ => kept

theorem State.plans_frame (n : Nat) {take : State → State} (kept : ∀ s : State, s.KeepsPlans (take s)) :
    OutcomeKeepsPlans s (s.unlessReset (State.frameEnd n take)) :=
  s.plans_unlessReset (s.plans_frameEnd n kept)

theorem State.plans_request (kind : Byte) (len : Nat) (req : Req) {own : State → Answer}
    (kept : ∀ s : State, s.KeepsPlans (own s).state) : OutcomeKeepsPlans s (s.request kind len req own) :=
  s.plans_frame _ fun s => s.plans_takeRequest kind req.reference (kept s)

/-- A request whose rule writes what an operation over the tables may write. -/
theorem State.plans_tableRequest (kind : Byte) (len : Nat) (req : Req) {own : State → Answer}
    (kept : ∀ s : State, s.Keeps (own s).state) : OutcomeKeepsPlans s (s.request kind len req own) :=
  s.plans_request kind len req fun s => (kept s).plans

/-- A stage that writes the draft alone. -/
theorem State.plans_stage (st : Stage) {f : Draft → Draft} (kept : ∀ d : Draft, d.Shaped → (f d).Shaped) :
    OutcomeKeepsPlans s (s.unlessReset fun s => s.atStage st fun d => s.setDraft (some (f d))) :=
  s.plans_unlessReset (f := fun s => s.atStage st fun d => s.setDraft (some (f d)))
    (State.plans_atStage st fun d draft _ => State.plans_setDraft draft (kept d))

theorem plans_exec (c : Instr) : OutcomeKeepsPlans s (exec c s) := by
  cases c with
  | plantTimeCount => exact s.plans_unlessReset (f := fun s => { s with now := _, align := _ }) (.of_rest rfl rfl)
  | resetAssert =>
    rintro t ⟨⟩
    exact s.plans_restarted _ _
  | resetRelease =>
    rintro t ⟨⟩
    exact .ite (fun _ => s.plans_restarted _ _) fun _ => .refl s
  | startingClearingCompletes => exact s.plans_unlessReset s.plans_completeClearing
  | frameStart => exact s.plans_unlessReset s.plans_beginFrame
  | noneFrame extra => exact s.plans_frame _ .refl
  | headerIncomplete bytes => exact s.plans_frame _ .refl
  | malformedRequest kind reference bodyLen frameBytes =>
    refine s.plans_frame _ fun s => ?_
    split
    · exact s.plans_unlessLost kind reference (s.plans_queueReply _ _ _ _)
    · exact .refl s
  | laneSetup req body => exact s.plans_request _ _ req fun s => s.plans_laneSetupRule body
  | laneStart req lane => exact s.plans_request _ _ req fun s => s.plans_laneStartRule lane
  | laneStop req lane => exact s.plans_request _ _ req fun s => s.plans_laneStopRule lane
  | laneRead req lane => exact s.plans_request _ _ req fun s => s.plans_laneReadRule lane
  | claimSetup req body => exact s.plans_request _ _ req fun s => s.plans_claimSetupRule body
  | partSetup req body => exact s.plans_request _ _ req fun s => s.plans_partSetupRule body
  | stationAdmit req body => exact s.plans_tableRequest _ _ req fun s => s.keeps_onStation _ fun t s => s.keeps_admitOwn _ _ t
  | stationHold req tag => exact s.plans_tableRequest _ _ req fun s => s.keeps_onStation tag fun t s => s.keeps_holdOwn t
  | stationResume req tag => exact s.plans_tableRequest _ _ req fun s => s.keeps_onStation tag fun t s => s.keeps_resumeOwn t
  | stationRelease req tag => exact s.plans_tableRequest _ _ req fun s => s.keeps_onStation tag fun t s => s.keeps_releaseOwn t
  | stationRead req first count => exact s.plans_tableRequest _ _ req fun s => s.keeps_stationReadRule first count
  | streamAdd req tag slot fields => exact s.plans_tableRequest _ _ req fun s => s.keeps_streamAddRule tag slot fields
  | streamChange req index fields => exact s.plans_tableRequest _ _ req fun s => s.keeps_streamChangeRule index fields
  | streamRemove req index => exact s.plans_tableRequest _ _ req fun s => s.keeps_streamRemoveRule index
  | streamRead req first count => exact s.plans_tableRequest _ _ req fun s => s.keeps_streamReadRule first count
  | scrub req => exact s.plans_request _ _ req State.plans_scrubRule
  | memoryTest req => exact s.plans_request _ _ req State.plans_memoryTestRule
  | attentionArm req h => exact s.plans_request _ _ req .refl
  | fetch req => exact s.plans_request _ _ req .refl
  | restart req => exact s.plans_frame _ fun s => s.plans_restarted _ _
  | receptionFrameShort port frameLen => exact s.plans_unlessReset (.refl s)
  | receptionUnknownKind head kind => exact s.plans_unlessReset (s.plans_admitRecord head _ .refl)
  | bid head tagWord slot seq amount source =>
    exact s.plans_unlessReset <| s.plans_admitRecord head _ fun s => s.plans_checkTag head tagWord <|
      s.plans_matchHistory head fun _ => s.plans_takeBid _ _ _ _ _
  | tally head offered clean collided empty =>
    exact s.plans_unlessReset <| s.plans_admitRecord head _ fun s =>
      s.plans_matchHistory head fun e => s.plans_takeTally _ e _ _ _
  | resultTagged head form tagWord et ep quality =>
    exact s.plans_unlessReset <| s.plans_admitRecord head _ fun s => s.plans_checkTag head tagWord <|
      s.plans_matchHistory head fun e => s.plans_alignmentRecord _ e _ _
  | resultAddressForm head addr et ep quality =>
    exact s.plans_unlessReset <| s.plans_admitRecord head _ fun s =>
      s.plans_matchHistory head fun e => s.plans_joinRecord _ e addr _ _ _
  | noShow head tagWord =>
    exact s.plans_unlessReset <| s.plans_admitRecord head _ fun s => s.plans_checkTag head tagWord <|
      s.plans_matchHistory head fun e => s.plans_alignmentRecord _ e _ _
  | mark head => exact s.plans_unlessReset (s.plans_admitRecord head _ .refl)
  | spanHandover lane => exact s.plans_unlessReset (s.plans_handOver lane)
  | spanSkip lane span => exact s.plans_unlessReset (s.plans_expireSpan lane span)
  | buildBegin => exact s.plans_unlessReset s.plans_takeSpan
  | stageA1CadencedWalk => exact s.plans_unlessReset s.plans_walkCadenced
  | stageA2AlignmentTurns => exact s.plans_stage _ fun _ => Draft.Shaped.alignTurns
  | stageA3OpenWindow => exact s.plans_stage _ fun _ => Draft.Shaped.openWindowTurn
  | stageBClaimFloor => exact s.plans_stage _ fun _ => Draft.Shaped.claimFloor
  | stageCVisit => exact s.plans_unlessReset s.plans_visitNext
  | stageDLeftoverClaims => exact s.plans_stage _ fun _ => Draft.Shaped.leftoverClaims
  | pendingSelection => exact s.plans_unlessReset s.plans_selectPending
  | buildCompletion => exact s.plans_unlessReset s.plans_completeBuild
  | planExpiry lane seq => exact s.plans_unlessReset (s.plans_expirePlan lane seq)
  | framerReady level =>
    rintro t ⟨⟩
    exact .of_rest rfl rfl
  | transmitStart => exact s.plans_unlessReset s.plans_startTransmit
  | transmitEnd => exact s.plans_unlessReset (f := fun s => { s with link := _ }) s.plans_endTransmit
  | coveredUntilExpiry lane => exact s.plans_unlessReset (s.plans_endCovered lane)
  | maintenanceDue tag => exact s.plans_unlessReset (s.keeps_becomeDue _).plans
  | holdoffExpiry => exact s.plans_unlessReset (.ite (fun _ => s.plans_setPort _) fun _ => .refl s)
  | scrubStep => exact s.plans_unlessReset s.plans_scrubOne
  | memoryTestEnd mismatch => exact s.plans_unlessReset (s.plans_endMemoryTest mismatch)

/-- The step runs the command at the front of the queue, or idles. -/
theorem plans_step : OutcomeKeepsPlans s (step s) := by
  unfold step
  split
  · rintro t ⟨⟩
    rw [s.idle_memTest]
    exact s.plans_setIntegrity _
  · rename_i c rest _
    exact fun t h => (State.KeepsPlans.of_rest rfl rfl : s.KeepsPlans (s.withPending rest)).trans (plans_exec _ c t h)

end

end Sys2Proof.Machine

open Sys2Proof Sys2Proof.Machine

/-- Settles O59: `plans_exec` goes through the commands; the stages place turns in free places alone, and the Plan Link takes over
the turns of the draft as they are. -/
theorem everyStepKeepsTurnsApart : Obligations.EveryStepKeepsTurnsApart := fun s t shaped h => (plans_step s t h).shaped shaped
end

section
/-! PROOFS. Stages A2, A3 and B (R121 to R123): the alignment turns, the open window and the claim floor that they place. -/

namespace Sys2Proof.Machine

/-! ### Turn lists -/

/-- A turn that starts behind all others takes the last place. -/
theorem insertTurn_last {t : Turn} {l : List Turn} (last : ∀ u ∈ l, u.start < t.start) : insertTurn t l = l ++ [t] := by
  induction l with
  | nil => rfl
  | cons u rest ih =>
    rw [insertTurn, if_neg (Nat.not_le.2 (last u List.mem_cons_self)), ih fun v hv => last v (List.mem_cons_of_mem _ hv)]
    rfl

theorem slotsOffered_cons (t : Turn) (l : List Turn) :
    slotsOffered (t :: l) = (if t.kind = .claim then t.slots else 0) + slotsOffered l := by simp [slotsOffered]

theorem slotsOffered_insertTurn (t : Turn) (l : List Turn) :
    slotsOffered (insertTurn t l) = slotsOffered l + if t.kind = .claim then t.slots else 0 := by
  induction l with
  | nil => simp [insertTurn, slotsOffered]
  | cons u rest ih =>
    rw [insertTurn]
    split
    · rw [slotsOffered_cons, Nat.add_comm]
    · rw [slotsOffered_cons, slotsOffered_cons, ih, Nat.add_assoc]

/-- The draft `e` is `d` but for its turns. -/
def Draft.Turned (d e : Draft) : Prop := e = { d with turns := e.turns }

theorem Draft.Turned.refl (d : Draft) : d.Turned d := rfl

theorem Draft.Turned.trans {d e f : Draft} (h : d.Turned e) (k : e.Turned f) : d.Turned f := by
  unfold Draft.Turned at *
  rw [k, h]

theorem Draft.Turned.setup {d e : Draft} (h : d.Turned e) : e.setup = d.setup := by rw [h]

theorem Draft.place_turns {d : Draft} {t : Turn} (len : 1 ≤ t.len) : (d.place t).turns = insertTurn t d.turns := by
  rw [Draft.place_of_pos len]

theorem Draft.turned_place (d : Draft) (t : Turn) : d.Turned (d.place t) := by
  unfold Draft.place
  split <;> rfl

/-! ### Stage A2 (R121) -/

section
variable {d : Draft}

theorem Draft.turned_placeAlign (d : Draft) (tag : Nat) : d.Turned (d.placeAlign tag) := by
  rcases d.placeAlign_cases tag with ⟨p, -, -, eq⟩ | ⟨-, eq⟩ <;> rw [eq]
  · exact d.turned_place _
  · exact .refl d

theorem Draft.turned_foldl_placeAlign (d : Draft) (tags : List Nat) : d.Turned (tags.foldl Draft.placeAlign d) :=
  List.foldlRecOn tags _ (.refl d) fun e h t _ => h.trans (e.turned_placeAlign t)

/-- A candidate adds its ALIGN turn or nothing. -/
theorem Draft.mem_placeAlign {tag : Nat} {t : Turn} :
    (t ∈ d.turns → t ∈ (d.placeAlign tag).turns) ∧
      (t ∈ (d.placeAlign tag).turns → t ∈ d.turns ∨ t.kind = .align ∧ t.len = d.setup.Ua ∧ t.tag = tag) := by
  rcases d.placeAlign_cases tag with ⟨p, -, -, eq⟩ | ⟨-, eq⟩ <;> rw [eq]
  · unfold Draft.place
    split
    · exact ⟨id, .inl⟩
    · rw [mem_insertTurn]
      exact ⟨.inr, fun h => h.elim (fun new => .inr (new ▸ ⟨rfl, rfl, rfl⟩)) .inl⟩
  · exact ⟨id, .inl⟩

/-- The stage keeps the turns there are, and adds ALIGN turns of its candidates alone. -/
theorem Draft.mem_foldl_placeAlign (d : Draft) (tags : List Nat) :
    (∀ t ∈ d.turns, t ∈ (tags.foldl Draft.placeAlign d).turns) ∧
      ∀ t ∈ (tags.foldl Draft.placeAlign d).turns, t ∉ d.turns → t.kind = .align ∧ t.len = d.setup.Ua ∧ t.tag ∈ tags := by
  induction tags generalizing d with
  | nil => exact ⟨fun _ => id, fun t ht new => absurd ht new⟩
  | cons tag tags ih =>
    obtain ⟨kept, added⟩ := ih (d.placeAlign tag)
    refine ⟨fun t ht => kept t (d.mem_placeAlign.1 ht), fun t ht new => ?_⟩
    by_cases here : t ∈ (d.placeAlign tag).turns
    · obtain ⟨kind, len, rfl⟩ := (d.mem_placeAlign.2 here).resolve_left new
      exact ⟨kind, len, List.mem_cons_self⟩
    · obtain ⟨kind, len, mem⟩ := added t ht here
      exact ⟨kind, len.trans (by rw [(d.turned_placeAlign tag).setup]), List.mem_cons_of_mem _ mem⟩

/-- Candidates for which there is no place leave the draft. -/
theorem Draft.foldl_placeAlign_stuck (stuck : d.full = true ∨ firstFit d.setup.S d.turns d.setup.Ua = none) (tags : List Nat) :
    tags.foldl Draft.placeAlign d = d := by
  have same : ∀ tag, d.placeAlign tag = d := fun tag => by
    rcases d.placeAlign_cases tag with ⟨p, room, found, -⟩ | ⟨-, eq⟩
    · rw [room, found] at stuck
      simp at stuck
    · exact eq
  induction tags with
  | nil => rfl
  | cons tag tags ih => rw [List.foldl_cons, same, ih]

/-- The turns fill the first `used` quanta of the span, and no more. -/
structure Filled (S used : Nat) (l : List Turn) : Prop where
  placed : Placed S l
  stop : ∀ t ∈ l, t.stop ≤ used
  free : ∀ p g, 1 ≤ g → Fits S l p g → used ≤ p

theorem Filled.firstFit {S used g : Nat} {l : List Turn} (h : Filled S used l) (some_ : 1 ≤ g) :
    firstFit S l g = if used + g ≤ S then some used else none := by
  have fits : used + g ≤ S → Fits S l used g := fun inside => ⟨inside, fun t ht => .inl (h.stop t ht)⟩
  cases found : Sys2Proof.Machine.firstFit S l g with
  | none =>
    split
    · exact absurd (fits ‹_›) (not_fits_of_firstFit_none found some_ used)
    · rfl
  | some p =>
    have free := fits_of_firstFit h.placed found
    have low := h.free p g some_ free
    have inside : used + g ≤ S := by have := free.1; omega
    rw [if_pos inside, Nat.le_antisymm (le_of_firstFit h.placed found some_ (fits inside)) low]

theorem Filled.append {S used : Nat} {l : List Turn} {t : Turn} (h : Filled S used l) (start : t.start = used) (len : 1 ≤ t.len)
    (inside : t.stop ≤ S) : insertTurn t l = l ++ [t] ∧ Filled S t.stop (l ++ [t]) := by
  have stop : t.stop = t.start + t.len := rfl
  have last : insertTurn t l = l ++ [t] := insertTurn_last fun u hu => by
    have := h.placed.start_lt_stop hu
    have := h.stop u hu
    omega
  refine ⟨last, ?_⟩
  rw [← last]
  refine ⟨h.placed.insertTurn len ⟨inside, fun u hu => .inl (start ▸ h.stop u hu)⟩, fun u hu => ?_, fun p g some_ fits => ?_⟩
  · rcases (mem_insertTurn ..).1 hu with rfl | old
    · exact le_rfl
    · have := h.stop u old
      omega
  · obtain ⟨free, apart⟩ := fits_insertTurn_iff.1 fits
    have := h.free p g some_ free
    omega

/-- The ALIGN turns of the candidates from place `k` on, one behind another while they fit. -/
def Draft.alignStack (d : Draft) (k : Nat) (tags : List Nat) : List Turn :=
  ((tags.zipIdx k).filter fun c => decide ((c.2 + 1) * d.setup.Ua ≤ d.setup.S ∧ c.2 < 240)).map fun c =>
    d.alignTurn c.1 (c.2 * d.setup.Ua)

theorem Draft.foldl_placeAlign_stack {k : Nat} (len : 1 ≤ d.setup.Ua) (filled : Filled d.setup.S (k * d.setup.Ua) d.turns)
    (count : d.turns.length = k) (tags : List Nat) :
    (tags.foldl Draft.placeAlign d).turns = d.turns ++ d.alignStack k tags := by
  induction tags generalizing d k with
  | nil => simp [Draft.alignStack]
  | cons tag tags ih =>
    have next : (k + 1) * d.setup.Ua = k * d.setup.Ua + d.setup.Ua := Nat.succ_mul ..
    by_cases fits : (k + 1) * d.setup.Ua ≤ d.setup.S ∧ k < 240
    · have room : d.full = false := Draft.full_eq_false.2 (count ▸ fits.2)
      have found : Sys2Proof.Machine.firstFit d.setup.S d.turns d.setup.Ua = some (k * d.setup.Ua) := by
        rw [filled.firstFit len, if_pos (next ▸ fits.1)]
      have stop : (d.alignTurn tag (k * d.setup.Ua)).stop = (k + 1) * d.setup.Ua := next.symm
      obtain ⟨last, filled'⟩ := filled.append (t := d.alignTurn tag (k * d.setup.Ua)) rfl len (stop ▸ fits.1)
      have placed : d.placeAlign tag = { d with turns := d.turns ++ [d.alignTurn tag (k * d.setup.Ua)] } := by
        rw [Draft.placeAlign_eq, room, found]
        exact (Draft.place_of_pos len).trans (by rw [last])
      have rest := ih (d := { d with turns := d.turns ++ [d.alignTurn tag (k * d.setup.Ua)] }) len (stop ▸ filled')
        (by simp [count])
      have head : d.alignStack k (tag :: tags) = d.alignTurn tag (k * d.setup.Ua) :: d.alignStack (k + 1) tags := by
        simp [Draft.alignStack, List.zipIdx_cons, fits]
      rw [List.foldl_cons, placed, rest, head, List.append_assoc, List.singleton_append]
      rfl
    · have stuck : d.full = true ∨ Sys2Proof.Machine.firstFit d.setup.S d.turns d.setup.Ua = none := by
        rw [not_and_or, Nat.not_lt] at fits
        refine fits.symm.imp (fun full => Draft.full_eq_true.2 (count ▸ full)) fun long => ?_
        rw [filled.firstFit len, if_neg (by omega)]
      have none_ : d.alignStack k (tag :: tags) = [] := by
        refine List.map_eq_nil_iff.2 (List.filter_eq_nil_iff.2 fun c hc => ?_)
        have past := List.le_snd_of_mem_zipIdx hc
        have longer := Nat.mul_le_mul_right d.setup.Ua (Nat.succ_le_succ past)
        rw [decide_eq_true_eq]
        simp only [Nat.succ_eq_add_one] at longer
        omega
      rw [Draft.foldl_placeAlign_stuck stuck, none_, List.append_nil]

/-- In an empty span the candidates' turns stand one behind another while they fit. -/
theorem Draft.alignTurns_empty (len : 1 ≤ d.setup.Ua) (empty : d.turns = []) :
    d.alignTurns.turns = d.alignStack 0 d.candidates := by
  have filled : Filled d.setup.S (0 * d.setup.Ua) d.turns := by
    rw [empty]
    exact ⟨⟨.nil, nofun⟩, nofun, fun p g _ _ => by omega⟩
  exact (d.foldl_placeAlign_stack len filled (by rw [empty]; rfl) d.candidates).trans (by rw [empty, List.nil_append])

end

/-! ### Stage B (R123) -/

/-- The whole slots that the runs hold. -/
def slotsIn (b : Nat) (runs : List (Nat × Nat)) : Nat := (runs.map fun run => run.2 / b).sum

theorem slotsIn_cons (b p r : Nat) (runs : List (Nat × Nat)) : slotsIn b ((p, r) :: runs) = r / b + slotsIn b runs := rfl

section
variable {d : Draft}

/-- The split floor offers as many of the slots wanted as the runs hold. -/
theorem Draft.slotsOffered_splitFloor {runs : List (Nat × Nat)} (slot : 1 ≤ d.setup.b) (n : Nat)
    (room : d.turns.length + runs.length ≤ 240) :
    slotsOffered (d.splitFloor n runs).turns = slotsOffered d.turns + min n (slotsIn d.setup.b runs) := by
  induction runs generalizing d n with
  | nil => simp [Draft.splitFloor, slotsIn]
  | cons run runs ih =>
    obtain ⟨p, r⟩ := run
    rw [List.length_cons] at room
    have notFull : d.full = false := Draft.full_eq_false.2 (by unfold Config.turns; omega)
    rw [Draft.splitFloor_cons, notFull, slotsIn_cons]
    generalize r / d.setup.b = whole
    split
    · rename_i none_
      have zero := none_.resolve_right nofun
      rw [ih slot n (by omega)]
      omega
    · rename_i wanted
      obtain ⟨some_, -⟩ := not_or.1 wanted
      have len : 1 ≤ (floorWindow d.setup.b p (min whole n)).len := Nat.mul_pos (Nat.pos_of_ne_zero some_) slot
      have rest := ih (d := d.place (floorWindow d.setup.b p (min whole n))) (by rwa [Draft.place_setup]) (n - min whole n)
        (by rw [Draft.place_turns len, length_insertTurn]; omega)
      have offered : slotsOffered (insertTurn (floorWindow d.setup.b p (min whole n)) d.turns) =
          slotsOffered d.turns + min whole n := slotsOffered_insertTurn _ _
      rw [rest, Draft.place_turns len, Draft.place_setup, offered]
      omega

/-- Its windows: from each run in order of place, as many whole slots as it holds and are still wanted. -/
theorem Draft.mem_splitFloor {runs : List (Nat × Nat)} (slot : 1 ≤ d.setup.b) (n : Nat)
    (room : d.turns.length + runs.length ≤ 240) (t : Turn) :
    t ∈ (d.splitFloor n runs).turns ↔ t ∈ d.turns ∨ ∃ j p r m, runs[j]? = some (p, r) ∧
      m = min (r / d.setup.b) (n - slotsIn d.setup.b (runs.take j)) ∧ 0 < m ∧ t = floorWindow d.setup.b p m := by
  induction runs generalizing d n with
  | nil => simp [Draft.splitFloor]
  | cons run runs ih =>
    obtain ⟨p, r⟩ := run
    rw [List.length_cons] at room
    have notFull : d.full = false := Draft.full_eq_false.2 (by unfold Config.turns; omega)
    -- the first run takes k slots, and n - k are wanted from the others
    have first : ∀ k, k = min (r / d.setup.b) n →
        ((∃ j p' r' m, ((p, r) :: runs)[j]? = some (p', r') ∧
          m = min (r' / d.setup.b) (n - slotsIn d.setup.b (((p, r) :: runs).take j)) ∧ 0 < m ∧
          t = floorWindow d.setup.b p' m) ↔
        (0 < k ∧ t = floorWindow d.setup.b p k) ∨ ∃ j p' r' m, runs[j]? = some (p', r') ∧
          m = min (r' / d.setup.b) (n - k - slotsIn d.setup.b (runs.take j)) ∧ 0 < m ∧ t = floorWindow d.setup.b p' m) := by
      intro k hk
      have wanted : ∀ x, n - (r / d.setup.b + x) = 0 ∨ n - (r / d.setup.b + x) = n - k - x := by omega
      constructor
      · rintro ⟨j, p', r', m, at_, hm, pos, rfl⟩
        cases j with
        | zero =>
          obtain ⟨rfl, rfl⟩ := Prod.mk.inj (Option.some.inj at_)
          simp only [List.take_zero, slotsIn, List.map_nil, List.sum_nil, Nat.sub_zero] at hm
          exact .inl ⟨by omega, by rw [hm, hk]⟩
        | succ j =>
          rw [List.take_succ_cons, slotsIn_cons] at hm
          refine .inr ⟨j, p', r', m, at_, ?_, pos, rfl⟩
          have := wanted (slotsIn d.setup.b (runs.take j))
          omega
      · rintro (⟨pos, rfl⟩ | ⟨j, p', r', m, at_, hm, pos, rfl⟩)
        · exact ⟨0, p, r, k, rfl, by rw [hk]; rfl, pos, rfl⟩
        · refine ⟨j + 1, p', r', m, at_, ?_, pos, rfl⟩
          rw [List.take_succ_cons, slotsIn_cons]
          omega
    rw [Draft.splitFloor_cons, notFull, first _ rfl]
    split
    · rename_i none_
      have zero := none_.resolve_right nofun
      rw [ih slot n (by omega), zero]
      simp
    · rename_i wanted
      obtain ⟨some_, -⟩ := not_or.1 wanted
      have positive := Nat.pos_of_ne_zero some_
      have len : 1 ≤ (floorWindow d.setup.b p (min (r / d.setup.b) n)).len := Nat.mul_pos positive slot
      have rest := ih (d := d.place (floorWindow d.setup.b p (min (r / d.setup.b) n))) (by rwa [Draft.place_setup])
        (n - min (r / d.setup.b) n) (by rw [Draft.place_turns len, length_insertTurn]; omega)
      rw [rest, Draft.place_turns len, Draft.place_setup, mem_insertTurn, and_iff_right positive, or_assoc, or_left_comm]

end

end Sys2Proof.Machine
end

section
/-! PROOFS. Stage D (R128): the free runs merged into floor windows or made claim windows, and the stages A2 to D as commands. -/

namespace Sys2Proof.Machine

/-! ### One free run -/

/-- The turn with `n` slots of `b` quanta more. -/
def Turn.longer (b n : Nat) (t : Turn) : Turn := { t with len := t.len + n * b, slots := t.slots + n }

/-- What becomes of one free run: nothing, where no slot is wanted of it or the turn list has no room; else the floor window that
ends where it begins grows by the slots, or a window of the slots stands at its start. -/
theorem Draft.takeRun_cases (d : Draft) (p r : Nat) :
    ((d.slotsFrom r = 0 ∨ d.full = true ∧ d.turns.any (Turn.floorEndsAt p) = false) ∧ d.takeRun (p, r) = d) ∨
    (0 < d.slotsFrom r ∧ d.turns.any (Turn.floorEndsAt p) = true ∧
      d.takeRun (p, r) = { d with turns := d.turns.map (Turn.grow d.setup.b p (d.slotsFrom r)) }) ∨
    (0 < d.slotsFrom r ∧ d.turns.any (Turn.floorEndsAt p) = false ∧ d.full = false ∧
      d.takeRun (p, r) = { d with turns := insertTurn (leftoverWindow d.setup.b p (d.slotsFrom r)) d.turns }) := by
  rw [Draft.takeRun_eq]
  split_ifs with none_ merged full
  · exact .inl ⟨.inl none_, rfl⟩
  · exact .inr (.inl ⟨Nat.pos_of_ne_zero none_, merged, rfl⟩)
  · exact .inl ⟨.inr ⟨full, Bool.not_eq_true _ ▸ merged⟩, rfl⟩
  · have slot : 0 < d.setup.b := Nat.pos_of_ne_zero fun zero => none_ (by simp [Draft.slotsFrom, zero])
    have len : 1 ≤ (leftoverWindow d.setup.b p (d.slotsFrom r)).len := Nat.mul_pos (Nat.pos_of_ne_zero none_) slot
    exact .inr (.inr ⟨Nat.pos_of_ne_zero none_, Bool.not_eq_true _ ▸ merged, Bool.not_eq_true _ ▸ full, Draft.place_of_pos len⟩)

section
variable {S b p n : Nat} {l : List Turn}

theorem any_floorEndsAt_eq_false : l.any (Turn.floorEndsAt p) = false ↔ ∀ t ∈ l, t.floor = true → t.stop ≠ p := by
  simp [Turn.floorEndsAt]

/-- No two turns end at one offset, so one floor window grows. -/
theorem slotsOffered_map_grow (h : Placed S l) (made : ∀ t ∈ l, t.Made b) (merged : l.any (Turn.floorEndsAt p) = true) :
    slotsOffered (l.map (Turn.grow b p n)) = slotsOffered l + n := by
  induction l with
  | nil => cases merged
  | cons t rest ih =>
    rw [List.map_cons, slotsOffered_cons, slotsOffered_cons]
    by_cases here : t.floorEndsAt p = true
    · obtain ⟨floor, stop⟩ := Turn.floorEndsAt_iff.1 here
      have others : rest.map (Turn.grow b p n) = rest := by
        refine (List.map_congr_left fun u hu => ?_).trans (List.map_id rest)
        refine Turn.grow_of_not (Bool.eq_false_iff.2 fun ends => ?_)
        have := h.head_stop_le u hu
        have := h.tail.start_lt_stop hu
        have := (Turn.floorEndsAt_iff.1 ends).2
        omega
      have kind := (made t List.mem_cons_self).floor floor
      rw [others, Turn.grow_of_end here]
      dsimp only
      rw [if_pos kind, if_pos kind]
      omega
    · rw [Bool.not_eq_true] at here
      rw [List.any_cons, here, Bool.false_or] at merged
      rw [Turn.grow_of_not here, ih h.tail (fun u hu => made u (List.mem_cons_of_mem _ hu)) merged, Nat.add_assoc]

end

section
variable {d : Draft} {p r : Nat}

/-- The slots a run is made to offer are offered, unless the turn list has no room for their window. -/
theorem Draft.Shaped.slotsOffered_takeRun (h : d.Shaped) (p r : Nat) :
    slotsOffered (d.takeRun (p, r)).turns = slotsOffered d.turns + d.slotsFrom r ∨
      d.full = true ∧ d.takeRun (p, r) = d := by
  rcases d.takeRun_cases p r with ⟨none_ | full, eq⟩ | ⟨-, merged, eq⟩ | ⟨-, -, -, eq⟩
  · rw [eq, none_]
    exact .inl rfl
  · exact .inr ⟨full.1, eq⟩
  · rw [eq]
    exact .inl (slotsOffered_map_grow h.placed h.made merged)
  · rw [eq]
    exact .inl (slotsOffered_insertTurn _ _)

theorem Draft.length_takeRun (d : Draft) (p r : Nat) :
    d.turns.length ≤ (d.takeRun (p, r)).turns.length ∧ (d.takeRun (p, r)).turns.length ≤ d.turns.length + 1 := by
  rcases d.takeRun_cases p r with ⟨-, eq⟩ | ⟨-, -, eq⟩ | ⟨-, -, -, eq⟩ <;> rw [eq]
  · exact ⟨le_rfl, Nat.le_succ _⟩
  · rw [List.length_map]
    exact ⟨le_rfl, Nat.le_succ _⟩
  · rw [length_insertTurn]
    exact ⟨Nat.le_succ _, le_rfl⟩

theorem Draft.slotsFrom_le : d.slotsFrom r ≤ r / d.setup.b ∧ d.slotsFrom r ≤ 1024 - slotsOffered d.turns :=
  ⟨Nat.min_le_left _ _, Nat.min_le_right _ _⟩

/-- No more than 1,024 slots are offered. -/
theorem Draft.Shaped.slotsOffered_takeRun_le (h : d.Shaped) (p r : Nat) (bound : slotsOffered d.turns ≤ 1024) :
    slotsOffered (d.takeRun (p, r)).turns ≤ 1024 := by
  have most := (d.slotsFrom_le (r := r)).2
  rcases h.slotsOffered_takeRun p r with more | ⟨-, eq⟩
  · omega
  · rwa [eq]

/-- Every turn that is no floor window stays. -/
theorem Draft.mem_takeRun_of_plain {t : Turn} (ht : t ∈ d.turns) (plain : t.floor = false) (p r : Nat) :
    t ∈ (d.takeRun (p, r)).turns := by
  rcases d.takeRun_cases p r with ⟨-, eq⟩ | ⟨-, -, eq⟩ | ⟨-, -, -, eq⟩ <;> rw [eq]
  · exact ht
  · have same : Turn.grow d.setup.b p (d.slotsFrom r) t = t := Turn.grow_of_not (by simp [Turn.floorEndsAt, plain])
    exact List.mem_map.2 ⟨t, ht, same⟩
  · exact (mem_insertTurn ..).2 (.inr ht)

/-- What is free afterwards was free before. -/
theorem Draft.fits_of_takeRun {S q g : Nat} (p r : Nat) (fits : Fits S (d.takeRun (p, r)).turns q g) : Fits S d.turns q g := by
  rcases d.takeRun_cases p r with ⟨-, eq⟩ | ⟨-, -, eq⟩ | ⟨-, -, -, eq⟩ <;> rw [eq] at fits
  · exact fits
  · refine ⟨fits.1, fun t ht => ?_⟩
    have apart := fits.2 _ (List.mem_map_of_mem ht)
    rw [Turn.grow_start, Turn.grow_stop] at apart
    split at apart <;> omega
  · exact (fits_insertTurn_iff.1 fits).1

/-- Stage D can offer nothing more: 1,024 slots are offered, or the turn list is full. -/
def Draft.Saturated (d : Draft) : Prop := slotsOffered d.turns = 1024 ∨ 240 ≤ d.turns.length

theorem Draft.Saturated.takeRun (h : d.Saturated) (p r : Nat) : (d.takeRun (p, r)).Saturated := by
  rcases h with offered | full
  · have none_ : d.slotsFrom r = 0 := by
      have := (d.slotsFrom_le (r := r)).2
      omega
    have eq : d.takeRun (p, r) = d := by rw [Draft.takeRun_eq, if_pos none_]
    exact .inl (by rw [eq, offered])
  · exact .inr (full.trans (d.length_takeRun p r).1)

/-- A run that has been taken holds no whole slot any more, or nothing more can be offered. -/
theorem Draft.Shaped.takeRun_rest (h : d.Shaped) (slot : 1 ≤ d.setup.b) (bound : slotsOffered d.turns ≤ 1024) (p r : Nat) :
    (d.takeRun (p, r)).Saturated ∨ ∀ q g, Fits d.setup.S (d.takeRun (p, r)).turns q g → p ≤ q → q + g ≤ p + r →
      g < d.setup.b := by
  -- all slots of the run are taken, or the bound of 1,024 is reached
  have whole : d.slotsFrom r = r / d.setup.b ∨ slotsOffered d.turns + d.slotsFrom r = 1024 := by
    have def_ : d.slotsFrom r = min (r / d.setup.b) (1024 - slotsOffered d.turns) := rfl
    omega
  have left : r - r / d.setup.b * d.setup.b < d.setup.b := by
    have := Nat.mod_lt r slot
    have := Nat.div_add_mod' r d.setup.b
    omega
  have offered := h.slotsOffered_takeRun p r
  rcases whole with whole | reached
  · rcases d.takeRun_cases p r with ⟨none_ | full, eq⟩ | ⟨-, merged, eq⟩ | ⟨-, -, -, eq⟩ <;> rw [eq]
    · rw [whole] at none_
      rw [none_, Nat.zero_mul] at left
      exact .inr fun q g _ _ _ => by omega
    · exact .inl (.inr (Draft.full_eq_true.1 full.1))
    · obtain ⟨u, hu, ends⟩ := List.any_eq_true.1 merged
      refine .inr fun q g fits start stop => ?_
      have apart := fits.2 _ (List.mem_map_of_mem hu)
      have positive := h.placed.start_lt_stop hu
      have at_ := (Turn.floorEndsAt_iff.1 ends).2
      rw [Turn.grow_start, Turn.grow_stop, if_pos ends, whole] at apart
      omega
    · refine .inr fun q g fits start stop => ?_
      have apart := (fits_insertTurn_iff.1 fits).2
      rw [whole] at apart
      simp only [Turn.stop, leftoverWindow] at apart
      omega
  · rcases offered with more | ⟨full, eq⟩
    · exact .inl (.inl (more.trans reached))
    · rw [eq]
      exact .inl (.inr (Draft.full_eq_true.1 full))

/-- The turns after a run all of whose slots are taken: those that do not end where it begins, the floor window that does with
the slots added, and else a window of the slots. -/
theorem Draft.mem_takeRun (slot : 1 ≤ d.setup.b) (whole : d.slotsFrom r = r / d.setup.b) (room : d.full = false) (t : Turn) :
    t ∈ (d.takeRun (p, r)).turns ↔ (t ∈ d.turns ∧ ¬(t.floor = true ∧ t.stop = p)) ∨
      (∃ u ∈ d.turns, u.floor = true ∧ u.stop = p ∧ t = u.longer d.setup.b (r / d.setup.b)) ∨
      d.setup.b ≤ r ∧ (∀ u ∈ d.turns, u.floor = true → u.stop ≠ p) ∧ t = leftoverWindow d.setup.b p (r / d.setup.b) := by
  rcases d.takeRun_cases p r with ⟨none_ | full, eq⟩ | ⟨some_, merged, eq⟩ | ⟨some_, none_, -, eq⟩ <;> rw [eq]
  · rw [whole] at none_
    have short : ¬d.setup.b ≤ r := Nat.not_le.2 ((Nat.div_eq_zero_iff.1 none_).resolve_left (by omega))
    have same : ∀ u : Turn, u.longer d.setup.b 0 = u := fun u => by simp [Turn.longer]
    simp only [none_, same, short, false_and, or_false]
    constructor
    · intro ht
      by_cases ends : t.floor = true ∧ t.stop = p
      · exact .inr ⟨t, ht, ends.1, ends.2, rfl⟩
      · exact .inl ⟨ht, ends⟩
    · rintro (⟨ht, -⟩ | ⟨u, hu, -, -, rfl⟩)
      exacts [ht, hu]
  · rw [room] at full
    cases full.1
  · obtain ⟨w, hw, ends⟩ := List.any_eq_true.1 merged
    obtain ⟨floor, stop⟩ := Turn.floorEndsAt_iff.1 ends
    have notNone : ¬∀ u ∈ d.turns, u.floor = true → u.stop ≠ p := fun none_ => none_ w hw floor stop
    simp only [notNone, false_and, and_false, or_false, whole, List.mem_map]
    constructor
    · rintro ⟨u, hu, rfl⟩
      cases ends : u.floorEndsAt p with
      | false =>
        rw [Turn.grow_of_not ends]
        exact .inl ⟨hu, fun both => Bool.false_ne_true (ends.symm.trans (Turn.floorEndsAt_iff.2 both))⟩
      | true =>
        rw [Turn.grow_of_end ends]
        exact .inr ⟨u, hu, (Turn.floorEndsAt_iff.1 ends).1, (Turn.floorEndsAt_iff.1 ends).2, rfl⟩
    · rintro (⟨ht, not_⟩ | ⟨u, hu, floor, stop, rfl⟩)
      · exact ⟨t, ht, Turn.grow_of_not (Bool.eq_false_iff.2 (not_ ∘ Turn.floorEndsAt_iff.1))⟩
      · exact ⟨u, hu, Turn.grow_of_end (Turn.floorEndsAt_iff.2 ⟨floor, stop⟩)⟩
  · rw [any_floorEndsAt_eq_false] at none_
    rw [whole] at some_
    have long : d.setup.b ≤ r := (Nat.div_pos_iff.1 some_).2
    rw [mem_insertTurn, whole]
    constructor
    · rintro (rfl | ht)
      · exact .inr (.inr ⟨long, none_, rfl⟩)
      · exact .inl ⟨ht, fun both => none_ t ht both.1 both.2⟩
    · rintro (⟨ht, -⟩ | ⟨u, hu, floor, stop, -⟩ | ⟨-, -, rfl⟩)
      · exact .inr ht
      · exact absurd stop (none_ u hu floor)
      · exact .inl rfl

end

/-! ### The free runs in order -/

section
variable {d : Draft} {runs : List (Nat × Nat)}

theorem Draft.foldl_takeRun_setup (d : Draft) (runs : List (Nat × Nat)) : (runs.foldl Draft.takeRun d).setup = d.setup :=
  List.foldlRecOn (motive := fun e => e.setup = d.setup) runs Draft.takeRun rfl fun e h run _ => (e.takeRun_setup run).trans h

theorem Draft.mem_foldl_takeRun_of_plain {t : Turn} (ht : t ∈ d.turns) (plain : t.floor = false) (runs : List (Nat × Nat)) :
    t ∈ (runs.foldl Draft.takeRun d).turns :=
  List.foldlRecOn (motive := fun e => t ∈ e.turns) runs Draft.takeRun ht fun _ h run _ =>
    Draft.mem_takeRun_of_plain h plain run.1 run.2

theorem Draft.fits_of_foldl_takeRun {S q g : Nat} (fits : Fits S (runs.foldl Draft.takeRun d).turns q g) :
    Fits S d.turns q g := by
  induction runs generalizing d with
  | nil => exact fits
  | cons run runs ih => exact Draft.fits_of_takeRun run.1 run.2 (ih fits)

theorem Draft.Saturated.foldl_takeRun (h : d.Saturated) (runs : List (Nat × Nat)) : (runs.foldl Draft.takeRun d).Saturated :=
  List.foldlRecOn runs Draft.takeRun h fun _ h run _ => h.takeRun run.1 run.2

theorem Draft.Shaped.slotsOffered_foldl_takeRun_le (h : d.Shaped) (free : RunsFree d.setup.S d.turns runs)
    (bound : slotsOffered d.turns ≤ 1024) : slotsOffered (runs.foldl Draft.takeRun d).turns ≤ 1024 := by
  induction runs generalizing d with
  | nil => exact bound
  | cons run runs ih =>
    obtain ⟨p, r⟩ := run
    exact ih (h.takeRun free.head) (by rw [Draft.takeRun_setup]; exact Draft.takeRun_runsFree free)
      (h.slotsOffered_takeRun_le p r bound)

/-- No run taken holds a whole slot afterwards, or nothing more can be offered. -/
theorem Draft.Shaped.foldl_takeRun_rest (h : d.Shaped) (free : RunsFree d.setup.S d.turns runs) (slot : 1 ≤ d.setup.b)
    (bound : slotsOffered d.turns ≤ 1024) : (runs.foldl Draft.takeRun d).Saturated ∨
      ∀ run ∈ runs, ∀ q g, Fits d.setup.S (runs.foldl Draft.takeRun d).turns q g → run.1 ≤ q → q + g ≤ run.1 + run.2 →
        g < d.setup.b := by
  induction runs generalizing d with
  | nil => exact .inr nofun
  | cons run runs ih =>
    obtain ⟨p, r⟩ := run
    have setup := d.takeRun_setup (p, r)
    have later := ih (h.takeRun free.head) (by rw [setup]; exact Draft.takeRun_runsFree free) (by rwa [setup])
      (h.slotsOffered_takeRun_le p r bound)
    rw [setup] at later
    rcases h.takeRun_rest slot bound p r with saturated | here
    · exact .inl (saturated.foldl_takeRun runs)
    · refine later.imp id fun others run hrun q g fits => ?_
      rcases List.mem_cons.1 hrun with rfl | tail
      · exact here q g (Draft.fits_of_foldl_takeRun fits)
      · exact others run tail q g fits

/-- With room for a window in every run, the runs offer their whole slots, to no more than 1,024. -/
theorem Draft.Shaped.slotsOffered_foldl_takeRun (h : d.Shaped) (free : RunsFree d.setup.S d.turns runs)
    (bound : slotsOffered d.turns ≤ 1024) (room : d.turns.length + runs.length ≤ 240) :
    slotsOffered (runs.foldl Draft.takeRun d).turns = min 1024 (slotsOffered d.turns + slotsIn d.setup.b runs) := by
  induction runs generalizing d with
  | nil => simp [slotsIn, bound]
  | cons run runs ih =>
    obtain ⟨p, r⟩ := run
    have setup := d.takeRun_setup (p, r)
    rw [List.length_cons] at room
    have notFull : ¬d.full = true := by
      rw [Draft.full_eq_true, Config.turns]
      omega
    have offered := (h.slotsOffered_takeRun p r).resolve_right fun full => notFull full.1
    have count := (d.length_takeRun p r).2
    have from_ : d.slotsFrom r = min (r / d.setup.b) (1024 - slotsOffered d.turns) := rfl
    rw [List.foldl_cons, ih (h.takeRun free.head) (by rw [setup]; exact Draft.takeRun_runsFree free)
      (h.slotsOffered_takeRun_le p r bound) (by omega), offered, setup, slotsIn_cons, from_]
    generalize r / d.setup.b = whole
    omega

/-- The turns afterwards, where the whole slots of all runs are offered: each run merges into the floor window that ends where it
begins, or else has a window of its own at its start. -/
theorem Draft.Shaped.mem_foldl_takeRun (h : d.Shaped) (free : RunsFree d.setup.S d.turns runs) (slot : 1 ≤ d.setup.b)
    (room : d.turns.length + runs.length ≤ 240) (bound : slotsOffered d.turns + slotsIn d.setup.b runs ≤ 1024) (t : Turn) :
    t ∈ (runs.foldl Draft.takeRun d).turns ↔
      (t ∈ d.turns ∧ ¬(t.floor = true ∧ ∃ r, (t.stop, r) ∈ runs)) ∨
      (∃ u r, u ∈ d.turns ∧ u.floor = true ∧ (u.stop, r) ∈ runs ∧ t = u.longer d.setup.b (r / d.setup.b)) ∨
      ∃ p r, (p, r) ∈ runs ∧ d.setup.b ≤ r ∧ (∀ u ∈ d.turns, u.floor = true → u.stop ≠ p) ∧
        t = leftoverWindow d.setup.b p (r / d.setup.b) := by
  induction runs generalizing d with
  | nil => simp
  | cons run runs ih =>
    obtain ⟨p, r⟩ := run
    have setup := d.takeRun_setup (p, r)
    rw [List.length_cons] at room
    rw [slotsIn_cons] at bound
    have notFull : d.full = false := Draft.full_eq_false.2 (by unfold Config.turns; omega)
    have from_ : d.slotsFrom r = min (r / d.setup.b) (1024 - slotsOffered d.turns) := rfl
    have whole : d.slotsFrom r = r / d.setup.b := by
      rw [from_]
      generalize r / d.setup.b = whole at bound
      omega
    have offered : slotsOffered (d.takeRun (p, r)).turns + slotsIn d.setup.b runs ≤ 1024 := by
      have := (h.slotsOffered_takeRun p r).resolve_right fun full => Bool.false_ne_true (notFull.symm.trans full.1)
      omega
    have count := (d.length_takeRun p r).2
    have later := ih (h.takeRun free.head) (by rw [setup]; exact Draft.takeRun_runsFree free) (by rwa [setup]) (by omega)
      (by rwa [setup])
    -- a turn that the first run has left or made ends at a later run exactly when it did before
    have past : ∀ q r', (q, r') ∈ runs → p + r < q := fun q r' => free.past_head (q, r')
    have at_most : r / d.setup.b * d.setup.b ≤ r := Nat.div_mul_le_self _ _
    have grown : ∀ u : Turn, u.stop = p → (u.longer d.setup.b (r / d.setup.b)).stop ≤ p + r := fun u stop => by
      simp only [Turn.stop, Turn.longer] at stop ⊢
      omega
    have now := Draft.mem_takeRun (p := p) slot whole notFull
    have floors : ∀ u q r', (q, r') ∈ runs → u.floor = true → u.stop = q → (u ∈ (d.takeRun (p, r)).turns ↔ u ∈ d.turns) := by
      rintro u q r' hq floor rfl
      have behind := past _ _ hq
      rw [now]
      constructor
      · rintro (⟨hu, -⟩ | ⟨v, -, -, stop, rfl⟩ | ⟨-, -, rfl⟩)
        · exact hu
        · have := grown v stop
          omega
        · cases floor
      · exact fun hu => .inl ⟨hu, fun ⟨_, stop⟩ => by omega⟩
    have none_ : ∀ q r', (q, r') ∈ runs → ((∀ u ∈ (d.takeRun (p, r)).turns, u.floor = true → u.stop ≠ q) ↔
        ∀ u ∈ d.turns, u.floor = true → u.stop ≠ q) := fun q r' hq =>
      ⟨fun no u hu floor stop => no u ((floors u q r' hq floor stop).2 hu) floor stop,
        fun no u hu floor stop => no u ((floors u q r' hq floor stop).1 hu) floor stop⟩
    rw [List.foldl_cons, later, setup]
    constructor
    · rintro (⟨ht, not_⟩ | ⟨u, r', hu, floor, hq, rfl⟩ | ⟨q, r', hq, long, no, rfl⟩)
      · rcases (now t).1 ht with ⟨old, apart⟩ | ⟨u, hu, floor, rfl, rfl⟩ | ⟨long, no, rfl⟩
        · refine .inl ⟨old, fun ⟨floor, r', mem⟩ => ?_⟩
          rcases List.mem_cons.1 mem with here | tail
          · exact apart ⟨floor, (Prod.mk.inj here).1⟩
          · exact not_ ⟨floor, r', tail⟩
        · exact .inr (.inl ⟨u, r, hu, floor, List.mem_cons_self, rfl⟩)
        · exact .inr (.inr ⟨p, r, List.mem_cons_self, long, no, rfl⟩)
      · exact .inr (.inl ⟨u, r', (floors u _ r' hq floor rfl).1 hu, floor, List.mem_cons_of_mem _ hq, rfl⟩)
      · exact .inr (.inr ⟨q, r', List.mem_cons_of_mem _ hq, long, (none_ q r' hq).1 no, rfl⟩)
    · rintro (⟨ht, not_⟩ | ⟨u, r', hu, floor, hq, rfl⟩ | ⟨q, r', hq, long, no, rfl⟩)
      · refine .inl ⟨(now t).2 (.inl ⟨ht, fun ⟨floor, stop⟩ => not_ ⟨floor, r, ?_⟩⟩),
          fun ⟨floor, r', mem⟩ => not_ ⟨floor, r', List.mem_cons_of_mem _ mem⟩⟩
        rw [stop]
        exact List.mem_cons_self
      · rcases List.mem_cons.1 hq with here | tail
        · obtain ⟨stop, rfl⟩ := Prod.mk.inj here
          refine .inl ⟨(now _).2 (.inr (.inl ⟨u, hu, floor, stop, rfl⟩)), fun ⟨_, r'', mem⟩ => ?_⟩
          have := past _ _ mem
          have := grown u stop
          omega
        · exact .inr (.inl ⟨u, r', (floors u _ r' tail floor rfl).2 hu, floor, tail, rfl⟩)
      · rcases List.mem_cons.1 hq with here | tail
        · obtain ⟨rfl, rfl⟩ := Prod.mk.inj here
          exact .inl ⟨(now _).2 (.inr (.inr ⟨long, no, rfl⟩)), fun ⟨floor, _⟩ => Bool.false_ne_true floor⟩
        · exact .inr (.inr ⟨q, r', tail, long, (none_ q r' tail).2 no, rfl⟩)

end

/-! ### The stages as commands -/

section
variable {s : State} {d : Draft}

/-- A stage that writes the draft alone, with the pin released and the stage next. -/
theorem State.unlessReset_stage (pin : s.resetPin = false) (draft : s.builder.draft = some d) {st : Stage} (stage : d.stage = st)
    (f : Draft → Draft) :
    (s.unlessReset fun s => s.atStage st fun d => s.setDraft (some (f d))) = .next (s.setDraft (some (f d))) := by
  rw [State.unlessReset_free _ _ pin, State.atStage, draft]
  dsimp only
  rw [if_pos stage]

theorem Draft.toVisits_stage (d : Draft) : d.toVisits.stage = .visits ∨ d.toVisits.stage = .leftover := by
  unfold Draft.toVisits
  dsimp only
  split
  · exact .inr rfl
  · exact .inl rfl

/-- The floor where it fits in one run. -/
theorem Draft.claimFloor_of_fit {p : Nat} (room : d.full = false) (len : 1 ≤ d.target * d.setup.b)
    (found : firstFit d.setup.S d.turns (d.target * d.setup.b) = some p) :
    d.claimFloor.turns = insertTurn (floorWindow d.setup.b p d.target) d.turns := by
  unfold Draft.claimFloor
  rw [found]
  dsimp only
  rw [room]
  exact Draft.place_turns len

/-- The floor where it fits in no run. -/
theorem Draft.claimFloor_of_none (found : firstFit d.setup.S d.turns (d.target * d.setup.b) = none) :
    d.claimFloor.turns = (d.splitFloor d.target (freeRuns d.setup.S d.turns)).turns := by
  unfold Draft.claimFloor
  rw [found]
  rfl

theorem openWindowDue_eq_true {Ao : Nat} {k : BitVec 32} : openWindowDue Ao k = true ↔ 0 < Ao ∧ k.toNat % Ao = 0 := by
  simp [openWindowDue]

end

end Sys2Proof.Machine

open Sys2Proof Sys2Proof.Machine

/-- Settles O48: each stage places its turns in free runs; what stage D makes of the runs is told one by one in their order. -/
theorem reservationAndClaimStages : Obligations.ReservationAndClaimStages := by
  intro s d pin draft shaped floors slot
  have h : d.Shaped := Draft.shaped_iff.2 ⟨shaped, floors⟩
  refine ⟨fun stage => ?_, fun stage open_ => ?_, fun stage some_ => ?_, fun stage bound => ?_⟩
  · have frame := d.turned_foldl_placeAlign d.candidates
    obtain ⟨kept, added⟩ := d.mem_foldl_placeAlign d.candidates
    refine ⟨d.alignTurns, State.unlessReset_stage pin draft stage _, ?_, fun empty len => Draft.alignTurns_empty len empty, kept,
      added⟩
    exact congrArg (fun e : Draft => { e with stage := .openWindow }) frame
  · refine ⟨d.openWindowTurn, State.unlessReset_stage pin draft stage _, ?_⟩
    rcases d.openWindowTurn_cases with ⟨p, due, room, found, eq⟩ | ⟨no, eq⟩
    · rw [eq, Draft.place_of_pos (t := d.openingTurn p) open_]
      refine ⟨rfl, fun q _ _ _ found' => ⟨rfl, fun t => ?_⟩, fun none_ => ?_⟩
      · obtain rfl := Option.some.inj (found.symm.trans found')
        exact (mem_insertTurn ..).trans or_comm
      · obtain ⟨on, multiple⟩ := openWindowDue_eq_true.1 due
        have below := Draft.full_eq_false.1 room
        rw [found, Config.turns] at *
        rcases none_ with off | other | full | none_
        · omega
        · exact absurd multiple other
        · omega
        · cases none_
    · rw [eq]
      refine ⟨rfl, fun q on multiple room found => ?_, fun _ => rfl⟩
      rw [openWindowDue_eq_true.2 ⟨on, multiple⟩, Draft.full_eq_false.2 room, found] at no
      simp at no
  · have len : 1 ≤ d.target * d.setup.b := Nat.mul_pos some_ slot
    refine ⟨d.claimFloor, State.unlessReset_stage pin draft stage _, Draft.toVisits_stage _, fun p room found t => ?_,
      fun found room => ?_⟩
    · rw [Draft.claimFloor_of_fit (Draft.full_eq_false.2 room) len found, mem_insertTurn, or_comm]
      rfl
    · rw [Draft.claimFloor_of_none found]
      exact ⟨Draft.slotsOffered_splitFloor slot _ room, Draft.mem_splitFloor slot _ room⟩
  · have free := h.placed.runsFree
    have shaped' := h.foldl_takeRun free
    have setup := d.foldl_takeRun_setup (freeRuns d.setup.S d.turns)
    refine ⟨d.leftoverClaims, State.unlessReset_stage pin draft stage _, rfl, h.slotsOffered_foldl_takeRun_le free bound,
      fun t ht plain => Draft.mem_foldl_takeRun_of_plain ht plain _, ?_, fun room =>
        ⟨h.slotsOffered_foldl_takeRun free bound room, fun total => h.mem_foldl_takeRun free slot room total⟩⟩
    rcases h.foldl_takeRun_rest free slot bound with saturated | rest
    · exact .inr saturated
    · refine .inl fun run hrun => ?_
      have placed := shaped'.placed
      rw [setup] at placed
      obtain ⟨some_, fits⟩ := freeRuns_fits placed hrun
      obtain ⟨old, hold, start, stop⟩ := (Draft.fits_of_foldl_takeRun fits).in_freeRuns some_
      exact rest old hold run.1 run.2 fits start stop
end

section
/-! PROOFS. The reads of a build (R116): one that passes its check writes the draft alone, and one that fails it takes streams off
their lists alone and leaves no station ACTIVE (R153 to R155). -/

namespace Sys2Proof.Machine

namespace State

/-! ### Reads that pass their check -/

section
variable {s : State} {d : Draft}

theorem buildReadStream_passes {i : Nat} (checks : (s.stream i).checks = true) :
    ∃ e, d.Reread e ∧ (s.setDraft (some d)).buildReadStream i = s.setDraft (some e) := by
  refine ⟨d.withRead i, ?_, buildReadStream_setDraft checks⟩
  unfold Draft.withRead
  split
  · exact .refl d
  · rfl

theorem buildReadStation_passes {t : Nat} (checks : (s.station t).checks = true) :
    ∃ e, d.Reread e ∧ (s.setDraft (some d)).buildReadStation t = s.setDraft (some e) := by
  have unfolded : (s.setDraft (some d)).buildReadStation t = if t ∈ d.readStations then s.setDraft (some d) else
    (s.setDraft (some { d with readStations := t :: d.readStations })).checkStation .build t := rfl
  rw [unfolded]
  split
  · exact ⟨d, .refl d, rfl⟩
  · exact ⟨{ d with readStations := t :: d.readStations }, rfl, checkStation_passes _ _ _ checks⟩

theorem buildReadOwner_passes {i : Nat} (checks : ∀ t sl, (s.stream i).owner = some (t, sl) → (s.station t).checks = true) :
    ∃ e, d.Reread e ∧ (s.setDraft (some d)).buildReadOwner i = s.setDraft (some e) := by
  have same : (s.setDraft (some d)).stream i = s.stream i := rfl
  unfold State.buildReadOwner
  rw [same]
  split
  · rename_i t sl owner
    exact buildReadStation_passes (checks t sl owner)
  · exact ⟨d, .refl d, rfl⟩

/-- A stream and its owner read, both passing their checks. -/
theorem buildReads_passes {i : Nat} (stream : (s.stream i).checks = true)
    (owner : ∀ t sl, (s.stream i).owner = some (t, sl) → (s.station t).checks = true) :
    ∃ e, d.Reread e ∧ ((s.setDraft (some d)).buildReadStream i).buildReadOwner i = s.setDraft (some e) := by
  obtain ⟨e, read, eq⟩ := buildReadStream_passes (d := d) stream
  obtain ⟨f, read', eq'⟩ := buildReadOwner_passes (d := e) owner
  exact ⟨f, read.trans read', by rw [eq, eq']⟩

end

/-! ### Streams that leave lists -/

/-- From `s` to `t` no stream joins a list, and a stream that passes its check keeps its owner. -/
structure Thins (s t : State) : Prop where
  lists : ∀ l c j, j ∈ t.list l c → j ∈ s.list l c
  wf : Table.wf StreamEntry.free s.streams.entries = true → Table.wf StreamEntry.free t.streams.entries = true
  owner : Table.wf StreamEntry.free s.streams.entries = true → ∀ i, (s.stream i).checks = true →
    (t.stream i).checks = true ∧ (t.stream i).owner = (s.stream i).owner

namespace Thins

variable {s t u : State}

theorem refl (s : State) : s.Thins s := ⟨fun _ _ _ => id, id, fun _ _ checks => ⟨checks, rfl⟩⟩

theorem trans (h : s.Thins t) (k : t.Thins u) : s.Thins u where
  lists l c j := h.lists l c j ∘ k.lists l c j
  wf := k.wf ∘ h.wf
  owner w i checks := by
    obtain ⟨checks', owner⟩ := h.owner w i checks
    obtain ⟨checks'', owner'⟩ := k.owner (h.wf w) i checks'
    exact ⟨checks'', owner'.trans owner⟩

/-- An operation that does not write the Stream Table. -/
theorem of_streams (h : t.streams = s.streams) : s.Thins t := by
  refine ⟨fun l c j => ?_, fun w => h ▸ w, fun _ i checks => ?_⟩
  · rw [State.list, State.list, h]
    exact id
  · rw [stream_of_streams h]
    exact ⟨checks, rfl⟩

theorem foldl {α : Type} {f : State → α → State} (step : ∀ (s : State) (a : α), s.Thins (f s a)) (l : List α) (s : State) :
    s.Thins (l.foldl f s) :=
  List.foldlRecOn l f (refl s) fun _ h a _ => h.trans (step _ a)

theorem ite {p : Prop} [Decidable p] (ht : p → s.Thins t) (hu : ¬p → s.Thins u) : s.Thins (if p then t else u) := by
  split
  · exact ht ‹_›
  · exact hu ‹_›

end Thins

section
variable (s : State)

theorem thins_putStream {i : Nat} {e : StreamEntry} (owner : (s.stream i).checks = true → e.owner = (s.stream i).owner) :
    s.Thins (s.putStream i e) := by
  refine ⟨fun _ _ _ => id, s.putStream_wf i e, fun w k checks => ?_⟩
  rw [stream_putStream _ _ _ _ w]
  split
  · rename_i same
    subst same
    exact ⟨StreamEntry.checks_seal e, owner checks⟩
  · exact ⟨checks, rfl⟩

theorem thins_modStream (i : Nat) (f : StreamEntry → StreamEntry)
    (owner : ∀ e, (f e).owner = e.owner := by exact fun _ => rfl) : s.Thins (s.modStream i f) :=
  s.thins_putStream fun _ => owner _

theorem thins_putStation (t : Nat) (e : StationEntry) : s.Thins (s.putStation t e) := .of_streams rfl
theorem thins_modStation (t : Nat) (f : StationEntry → StationEntry) : s.Thins (s.modStation t f) := .of_streams rfl
theorem thins_noteQuarantine (t : Nat) : s.Thins (s.noteQuarantine t) := .of_streams rfl
theorem thins_leaveDue (t : Nat) : s.Thins (s.leaveDue t) := .of_streams rfl
theorem thins_setDraft (d : Option Draft) : s.Thins (s.setDraft d) := .of_streams rfl

theorem thins_leaveLists (i : Nat) : s.Thins (s.leaveLists i) := by
  refine ⟨fun l c j hj => ((s.mem_leaveLists l c i j).1 hj).1, fun w => by rwa [leaveLists_entries], fun _ k checks => ?_⟩
  rw [leaveLists_stream]
  exact ⟨checks, rfl⟩

theorem thins_clearDemand (i : Nat) : s.Thins (s.clearDemand i) :=
  (s.thins_modStream i _).trans (thins_leaveLists _ i)

theorem thins_raise (b : ReportBody) : s.Thins (s.raise b) := .of_streams (s.raise_streams b)

theorem thins_tallyScrub (f : Finder) (g : Scrub → Scrub) : s.Thins (s.tallyScrub f g) :=
  .of_streams (s.tallyScrub_streams f g)

theorem thins_checkStream (f : Finder) (i : Nat) : s.Thins (s.checkStream f i) := by
  refine .ite (fun _ => .refl s) fun fails => .ite (fun _ => .ite (fun _ => ?_) fun _ => ?_) fun _ =>
    .ite (fun _ => ?_) fun _ => ?_
  · exact (s.thins_putStream fun checks => absurd checks fails).trans <| (thins_leaveLists _ i).trans (thins_tallyScrub _ f _)
  · exact (s.thins_leaveLists i).trans <| (thins_putStream _ fun checks => absurd (by rwa [leaveLists_stream] at checks) fails).trans
      (thins_tallyScrub _ f _)
  · exact (s.thins_putStream fun _ => rfl).trans (thins_leaveLists _ i)
  · exact (s.thins_modStream i _).trans <| (thins_clearDemand _ i).trans <| (thins_raise _ _).trans
      (thins_tallyScrub _ f _)

theorem thins_strandStream (f : Finder) (i : Nat) : s.Thins (State.strandStream f s i) :=
  (s.thins_checkStream f i).trans (.ite (fun _ => thins_clearDemand _ i) fun _ => .refl _)

theorem thins_settleStation (t : Nat) : s.Thins (s.settleStation t) :=
  .ite (fun _ => .of_streams (by rw [(s.freeStation_spec t).1])) fun _ => .refl s

theorem thins_checkStation (f : Finder) (t : Nat) : s.Thins (s.checkStation f t) := by
  refine .ite (fun _ => .refl s) fun _ => .ite (fun _ => ?_) fun _ => .ite (fun _ => .ite (fun _ => ?_) fun _ => ?_) fun _ => ?_
  · exact (s.thins_putStation t _).trans (thins_tallyScrub _ f _)
  · exact (s.thins_modStation t _).trans <| (thins_leaveDue _ t).trans (.foldl thins_leaveLists _ _)
  · exact (s.thins_modStation t _).trans <| (thins_noteQuarantine _ t).trans <| (thins_leaveDue _ t).trans <|
      (Thins.foldl (fun s i => s.thins_strandStream f i) _ _).trans <| (thins_raise _ _).trans (thins_tallyScrub _ f _)
  · exact (s.thins_putStation t _).trans <| (thins_leaveDue _ t).trans <| (thins_settleStation _ t).trans
      (thins_tallyScrub _ f _)

theorem thins_buildReadStation (t : Nat) : s.Thins (s.buildReadStation t) := by
  unfold State.buildReadStation
  split
  · exact .refl s
  · exact .ite (fun _ => .refl s) fun _ => (s.thins_setDraft _).trans (thins_checkStation _ .build t)

theorem thins_buildReadOwner (i : Nat) : s.Thins (s.buildReadOwner i) := by
  unfold State.buildReadOwner
  split
  · exact s.thins_buildReadStation _
  · exact .refl s

/-! ### A station whose check fails -/

theorem tallyScrub_stations (f : Finder) (g : Scrub → Scrub) : (s.tallyScrub f g).stations = s.stations := by
  unfold State.tallyScrub
  split <;> rfl

theorem checkStream_stations (f : Finder) (i : Nat) : (s.checkStream f i).stations = s.stations := by
  unfold State.checkStream
  dsimp only
  split_ifs
  · rfl
  · rw [tallyScrub_stations, leaveLists_stations]
    rfl
  · rw [tallyScrub_stations, State.freeStream, putStream_stations, leaveLists_stations]
  · rw [leaveLists_stations]
    rfl
  · rw [State.quarantineStream, tallyScrub_stations, raise_stations, clearDemand_stations]
    rfl

theorem strandStream_stations (f : Finder) (i : Nat) : (State.strandStream f s i).stations = s.stations := by
  unfold State.strandStream
  dsimp only
  split
  · rw [clearDemand_stations, checkStream_stations]
  · exact s.checkStream_stations f i

theorem foldl_strandStream_stations (f : Finder) (is : List Nat) : (is.foldl (State.strandStream f) s).stations = s.stations :=
  List.foldlRecOn (motive := fun t : State => t.stations = s.stations) is _ rfl fun t h i _ =>
    (t.strandStream_stations f i).trans h

variable {s} in
/-- A station whose check fails is not ACTIVE afterwards, whatever becomes of it (R153). -/
theorem checkStation_not_active (hs : s.tablesCanonical) {t : Nat} (fails : (s.station t).checks = false) (f : Finder) :
    ((s.checkStation f t).station t).state ≠ .active := by
  have wrote : ∀ e : StationEntry, (s.putStation t e).station t = e.seal := fun e => by
    rw [station_putStation _ _ _ _ hs.1, if_pos rfl]
  unfold State.checkStation
  simp only [fails, Bool.false_eq_true, if_false]
  split_ifs
  · rw [station_of_stations (tallyScrub_stations _ _ _), wrote]
    decide
  · rw [station_of_stations (resealStation_kept s t).2.2.1, State.modStation, wrote]
    exact nofun
  · have stations : (s.quarantineStation f t).stations =
        ((s.modStation t fun e => { e with state := .quarantined }).noteQuarantine t).stations := by
      rw [State.quarantineStation, tallyScrub_stations, raise_stations, foldl_strandStream_stations]
      rfl
    have entry : ((s.modStation t fun e => { e with state := .quarantined }).noteQuarantine t).station t =
        StationEntry.seal { s.station t with state := .quarantined } := wrote _
    rw [station_of_stations stations, entry]
    exact nofun
  · rw [station_of_stations (tallyScrub_stations _ _ _)]
    have left : ((s.putStation t { s.station t with state := .releasing }).leaveDue t).station t =
        StationEntry.seal { s.station t with state := .releasing } := wrote _
    have hs' := ((s.upholds_putStation t { s.station t with state := .releasing }).trans (upholds_leaveDue _ t)).tables hs
    generalize (s.putStation t { s.station t with state := .releasing }).leaveDue t = u at left hs'
    unfold State.settleStation
    split
    · rw [(freeStation_entry hs' t).1]
      decide
    · rw [left]
      exact nofun

end

end State

end Sys2Proof.Machine
end

section
/-! PROOFS. A visit of stage C (R124 to R127): the size sought and the place found for it, what a stream served or skipped is left
with, and the reads that come before. -/

namespace Sys2Proof.Machine

/-! ### The size and the place of a DATA turn (R125) -/

theorem Draft.visitsEnded_iff {d : Draft} : d.visitsEnded = true ↔
    d.visits = [] ∨ 240 ≤ d.turns.length ∨ ∀ run ∈ freeRuns d.setup.S d.turns, run.2 < d.setup.P + 1 := by
  have full : d.full = true ↔ 240 ≤ d.turns.length := Draft.full_eq_true
  simp only [Draft.visitsEnded, Bool.or_eq_true, full, List.isEmpty_iff, Bool.not_eq_true', List.any_eq_false, decide_eq_true_eq,
    Nat.not_le, or_assoc]

theorem visitSize_eq {u : LaneSetup} (guard : u.P ≤ 8) (A : Nat) (credit : Int) (maxTurn : Nat) : visitSize u A credit maxTurn =
    min (A : Int) (min credit (((max (u.P + 1) (min maxTurn 255) - u.P) * u.bpq : Nat) : Int)) := by
  have clamp : clampN (u.P + 1) 255 maxTurn = max (u.P + 1) (min maxTurn 255) := by
    unfold clampN
    split_ifs <;> omega
  rw [visitSize, clamp]

section
variable {d : Draft} {x : Int} {fragmentable : Bool} {g p m : Nat}

theorem visitPlace_of_nonpos (none_ : x ≤ 0) : visitPlace d x fragmentable = none := if_pos none_

theorem visitPlace_of_fit (some_ : 0 < x) (size : g = d.setup.P + ceilDiv x.toNat d.setup.bpq)
    (found : firstFit d.setup.S d.turns g = some p) : visitPlace d x fragmentable = some (p, g) := by
  subst size
  rw [visitPlace, if_neg (Int.not_le.2 some_)]
  dsimp only
  rw [found]

theorem visitPlace_of_whole (some_ : 0 < x) (size : g = d.setup.P + ceilDiv x.toNat d.setup.bpq)
    (found : firstFit d.setup.S d.turns g = none) : visitPlace d x false = none := by
  subst size
  rw [visitPlace, if_neg (Int.not_le.2 some_)]
  dsimp only
  rw [found]
  rfl

theorem visitPlace_of_fragment (some_ : 0 < x) (size : g = d.setup.P + ceilDiv x.toNat d.setup.bpq)
    (found : firstFit d.setup.S d.turns g = none) (run : largestRun d.setup.S d.turns = (p, m)) (long : d.setup.P + 1 ≤ m) :
    visitPlace d x true = some (p, m) := by
  subst size
  rw [visitPlace, if_neg (Int.not_le.2 some_)]
  dsimp only
  rw [found, run]
  exact if_pos (by simpa using long)

/-- A place found is longer than the guard. -/
theorem guard_lt_of_visitPlace (bytes : 1 ≤ d.setup.bpq) (found : visitPlace d x fragmentable = some (p, g)) :
    0 < x ∧ d.setup.P + 1 ≤ g := by
  unfold visitPlace at found
  rw [Option.ite_none_left_eq_some, Int.not_le] at found
  obtain ⟨some_, found⟩ := found
  refine ⟨some_, ?_⟩
  dsimp only at found
  split at found
  · obtain ⟨-, rfl⟩ := Prod.mk.inj (Option.some.inj found)
    have cells : 0 < ceilDiv x.toNat d.setup.bpq := Nat.div_pos (by omega) bytes
    omega
  · rw [Option.ite_none_right_eq_some, Bool.and_eq_true, decide_eq_true_eq] at found
    obtain ⟨⟨-, long⟩, eq⟩ := found
    rwa [Option.some.inj eq] at long

end

namespace State

/-! ### The stream served or skipped (R126, R127) -/

section
variable {s : State} (hs : Table.wf StreamEntry.free s.streams.entries = true) (l : LaneId) (k : Fin 4) (i : Nat)

/-- Work on one stream and its place on the lists: the Stream Table alone is written, and of it no other stream's entry. -/
structure Serves (i : Nat) (s t : State) : Prop where
  frame : t = { s with streams := t.streams }
  others : ∀ j, j ≠ i → t.stream j = s.stream j

theorem list_moveToTail (s : State) : (s.moveToTail l k i).list l k = (s.list l k).filter (· ≠ i) ++ [i] := by
  rw [State.moveToTail, list_setList, if_pos ⟨rfl, rfl⟩]

theorem stream_moveToTail (s : State) (j : Nat) : (s.moveToTail l k i).stream j = s.stream j := rfl

include hs

theorem serves_skipVisit (credit : Int) : Serves i s (s.skipVisit l k i credit) :=
  ⟨rfl, fun j other => by rw [State.skipVisit, stream_moveToTail, stream_modStream _ _ _ _ hs, if_neg other]⟩

/-- A stream skipped keeps the credit of step 1 and stands at the tail. -/
theorem skipVisit_spec (credit : Int) :
    (s.skipVisit l k i credit).stream i = StreamEntry.seal { s.stream i with credit := credit } ∧
      (s.skipVisit l k i credit).list l k = (s.list l k).filter (· ≠ i) ++ [i] := by
  refine ⟨?_, list_moveToTail l k i _⟩
  rw [State.skipVisit, stream_moveToTail, stream_modStream _ _ _ _ hs, if_pos rfl]

/-- The entry of a stream served while it has available demand left, or served out. -/
theorem serveVisit_left {credit : Int} {cover : Nat} (left : cover < (s.stream i).avail) :
    s.serveVisit l k i credit cover =
      (s.modStream i fun e => { e with G := e.G + cover, credit := credit - cover }).moveToTail l k i := by
  have entry := stream_modStream s i i (fun e => { e with G := e.G + cover, credit := credit - cover }) hs
  rw [if_pos rfl] at entry
  have avail : (StreamEntry.seal { s.stream i with
      G := (s.stream i).G + cover, credit := credit - cover }).avail = (s.stream i).D - ((s.stream i).G + cover) := rfl
  unfold StreamEntry.avail at left
  rw [State.serveVisit]
  rw [entry, avail, if_neg (by omega)]

theorem serveVisit_out {credit : Int} {cover : Nat} (out : cover = (s.stream i).avail) :
    s.serveVisit l k i credit cover =
      ((s.modStream i fun e => { e with G := e.G + cover, credit := credit - cover }).modStream i fun e =>
        { e with credit := 0 }).leaveLists i := by
  have entry := stream_modStream s i i (fun e => { e with G := e.G + cover, credit := credit - cover }) hs
  rw [if_pos rfl] at entry
  have avail : (StreamEntry.seal { s.stream i with
      G := (s.stream i).G + cover, credit := credit - cover }).avail = (s.stream i).D - ((s.stream i).G + cover) := rfl
  unfold StreamEntry.avail at out
  rw [State.serveVisit]
  rw [entry, avail, if_pos (by omega)]

theorem wf_modStream (f : StreamEntry → StreamEntry) :
    Table.wf StreamEntry.free (s.modStream i f).streams.entries = true := s.putStream_wf i _ hs

theorem serves_serveVisit {credit : Int} {cover : Nat} (within : cover ≤ (s.stream i).avail) :
    Serves i s (s.serveVisit l k i credit cover) := by
  rcases Nat.lt_or_eq_of_le within with left | out
  · rw [serveVisit_left hs l k i left]
    exact ⟨rfl, fun j other => by rw [stream_moveToTail, stream_modStream _ _ _ _ hs, if_neg other]⟩
  · rw [serveVisit_out hs l k i out]
    refine ⟨by rw [leaveLists_service]; rfl, fun j other => ?_⟩
    rw [leaveLists_stream, stream_modStream _ _ _ _ (wf_modStream hs i _), if_neg other, stream_modStream _ _ _ _ hs, if_neg other]

/-- G rises and the credit falls by the cover; with available demand left the stream moves to the tail, else its credit is 0 and it
leaves every list. -/
theorem serveVisit_spec (credit : Int) (cover : Nat) :
    (cover < (s.stream i).avail →
      (s.serveVisit l k i credit cover).stream i =
        StreamEntry.seal { s.stream i with G := (s.stream i).G + cover, credit := credit - cover } ∧
      (s.serveVisit l k i credit cover).list l k = (s.list l k).filter (· ≠ i) ++ [i]) ∧
    (cover = (s.stream i).avail →
      (s.serveVisit l k i credit cover).stream i =
        StreamEntry.seal { s.stream i with G := (s.stream i).G + cover, credit := 0 } ∧
      ∀ m c, i ∉ (s.serveVisit l k i credit cover).list m c) := by
  refine ⟨fun left => ?_, fun out => ?_⟩
  · rw [serveVisit_left hs l k i left]
    refine ⟨?_, list_moveToTail l k i _⟩
    rw [stream_moveToTail, stream_modStream _ _ _ _ hs, if_pos rfl]
  · rw [serveVisit_out hs l k i out]
    refine ⟨?_, fun m c mem => ((mem_leaveLists _ m c i i).1 mem).2 rfl⟩
    rw [leaveLists_stream, stream_modStream _ _ _ _ (wf_modStream hs i _), if_pos rfl, stream_modStream _ _ _ _ hs, if_pos rfl]
    rfl

end

/-! ### The reads before a visit (R116) -/

section
variable {s : State} {d : Draft} {k : Fin 4} {i : Nat} {rest : List (Fin 4 × Nat)}

/-- The draft and the tables when the next stream of the visits and its owner have been read. -/
def readForVisit (s : State) (d : Draft) (rest : List (Fin 4 × Nat)) (i : Nat) : State :=
  ((s.setDraft (some { d with visits := rest })).buildReadStream i).buildReadOwner i

theorem visitNext_ended (draft : s.builder.draft = some d) (stage : d.stage = .visits) (ended : d.visitsEnded = true) :
    s.visitNext = s.setDraft (some { d with stage := .leftover }) := by
  rw [State.visitNext, State.atStage, draft]
  dsimp only
  rw [if_pos stage, if_pos ended]
  dsimp only
  rw [Draft.toVisits, if_pos ended]

theorem visitNext_going (draft : s.builder.draft = some d) (stage : d.stage = .visits) (going : ¬d.visitsEnded = true)
    (visits : d.visits = (k, i) :: rest) : s.visitNext =
      (if (s.readForVisit d rest i).awaitsVisit d.lane k i then (s.readForVisit d rest i).visit d k i
        else s.readForVisit d rest i).modDraft Draft.toVisits := by
  rw [State.visitNext, State.atStage, draft]
  dsimp only
  rw [if_pos stage, if_neg going, visits]
  rfl

/-- The reads leave the draft but for their notes, with the visit taken off. -/
theorem readForVisit_draft (s : State) (d : Draft) (rest : List (Fin 4 × Nat)) (i : Nat) :
    ∃ e, (s.readForVisit d rest i).builder.draft = some e ∧ Draft.Reread { d with visits := rest } e := by
  obtain ⟨e, draft, read⟩ := buildReadStream_draft (s := s.setDraft (some { d with visits := rest })) rfl i
  obtain ⟨f, draft', read'⟩ := buildReadOwner_draft draft i
  exact ⟨f, draft', read.trans read'⟩

/-- A stream that is passed over leaves the tables as the reads left them. -/
theorem visitNext_passed (draft : s.builder.draft = some d) (stage : d.stage = .visits) (going : ¬d.visitsEnded = true)
    (visits : d.visits = (k, i) :: rest) (passed : (s.readForVisit d rest i).awaitsVisit d.lane k i = false) :
    ∃ e, s.visitNext = (s.readForVisit d rest i).setDraft (some e) ∧ e.turns = d.turns ∧ e.data = d.data ∧ e.visits = rest := by
  obtain ⟨e, draft', read⟩ := s.readForVisit_draft d rest i
  refine ⟨e.toVisits, ?_, ?_⟩
  · rw [visitNext_going draft stage going visits, passed, State.modDraft]
    rw [if_neg Bool.false_ne_true, draft']
    rfl
  · rw [read]
    exact ⟨rfl, rfl, rfl⟩

/-- A stream whose check fails stands on no list when the reads have been made. -/
theorem readForVisit_unlisted (hs : s.tablesCanonical) (fails : (s.stream i).checks = false) (unread : i ∉ d.readStreams)
    (l : LaneId) : (s.readForVisit d rest i).onLane l i = false := by
  have read : (s.setDraft (some { d with visits := rest })).buildReadStream i =
      (s.setDraft (some { d with visits := rest, readStreams := i :: d.readStreams })).checkStream .build i := if_neg unread
  have off := (checkStream_fails (s.setDraft (some { d with visits := rest, readStreams := i :: d.readStreams })) .build i hs.2.1
    fails).2 l
  rw [State.readForVisit, read]
  rw [onLane_eq_false_iff] at off ⊢
  exact fun c mem => off c ((thins_buildReadOwner _ i).lists l c i mem)

/-- A station whose check fails is no ACTIVE owner of the stream when the reads have been made. -/
theorem readForVisit_owner {tag : Nat} {sl : Fin 8} (hs : s.tablesCanonical) (checks : (s.stream i).checks = true)
    (owner : (s.stream i).owner = some (tag, sl)) (fails : (s.station tag).checks = false) (unread : tag ∉ d.readStations) :
    (s.readForVisit d rest i).ownerIs ((s.readForVisit d rest i).stream i) .active = false := by
  have stations : (({ d with visits := rest } : Draft).withRead i).readStations = d.readStations := by
    unfold Draft.withRead
    split <;> rfl
  obtain ⟨e, he⟩ : ∃ e, e = ({ d with visits := rest } : Draft).withRead i := ⟨_, rfl⟩
  rw [← he] at stations
  have entry : (s.setDraft (some e)).stream i = s.stream i := rfl
  have unfolded : (s.setDraft (some e)).buildReadStation tag = if tag ∈ e.readStations then s.setDraft (some e) else
    (s.setDraft (some { e with readStations := tag :: e.readStations })).checkStation .build tag := rfl
  have read : s.readForVisit d rest i =
      (s.setDraft (some { e with readStations := tag :: e.readStations })).checkStation .build tag := by
    rw [State.readForVisit, buildReadStream_setDraft checks, ← he, State.buildReadOwner, entry, owner]
    exact unfolded.trans (if_neg (stations ▸ unread))
  have inactive := checkStation_not_active (s := s.setDraft (some { e with readStations := tag :: e.readStations })) hs fails .build
  have owner' := ((thins_checkStation (s.setDraft (some { e with readStations := tag :: e.readStations })) .build tag).owner hs.2.1 i
    checks).2.trans owner
  rw [read, State.ownerIs, owner']
  exact decide_eq_false inactive

theorem awaitsVisit_iff {l : LaneId} : s.awaitsVisit l k i = true ↔
    i ∈ s.list l k ∧ i ∉ s.joinedOf l ∧ (s.stream i).state = .inUse ∧ (s.stream i).kind = .bidding ∧
      s.ownerIs (s.stream i) .active = true := by
  simp [State.awaitsVisit, State.servable, and_assoc]

end

/-! ### The visit (R125 to R127) -/

section
variable {s : State} {d : Draft} {k : Fin 4} {i : Nat}

/-- A stream for which there is no place is skipped. -/
theorem visit_of_none {credit : Int} (hcredit : credit = visitCredit (s.stream i).credit (s.stream i).weight d.creditUnit)
    (place : visitPlace d (visitSize d.setup (s.stream i).avail credit (s.stream i).maxTurn) (s.stream i).fragmentable = none) :
    s.visit d k i = s.skipVisit d.lane k i credit := by
  subst hcredit
  rw [State.visit]
  dsimp only
  rw [place]

/-- A stream with a place is served, and its DATA turn placed. -/
theorem visit_of_some {credit : Int} (hcredit : credit = visitCredit (s.stream i).credit (s.stream i).weight d.creditUnit)
    {p g tag : Nat} {sl : Fin 8} (owner : (s.stream i).owner = some (tag, sl))
    (place : visitPlace d (visitSize d.setup (s.stream i).avail credit (s.stream i).maxTurn) (s.stream i).fragmentable =
      some (p, g)) : s.visit d k i = (s.serveVisit d.lane k i credit (coverOf d.setup (s.stream i).avail g)).modDraft fun e =>
        e.placeData i tag sl.val p g (coverOf d.setup (s.stream i).avail g) := by
  subst hcredit
  rw [State.visit]
  dsimp only
  rw [place, owner]
  rfl

end

/-- The DATA turn of a stream's owner. -/
def dataTurn (tag : Nat) (sl : Fin 8) (p g : Nat) : Turn :=
  { kind := .data, tag := tag, slot := sl.val, start := p, len := g, slots := 0, floor := false }

theorem mem_placeData {d : Draft} {i tag p g cover : Nat} {sl : Fin 8} (len : 1 ≤ g) (t : Turn) :
    t ∈ (d.placeData i tag sl.val p g cover).turns ↔ t ∈ d.turns ∨ t = dataTurn tag sl p g := by
  have placed := Draft.place_turns (d := { d with data := d.data ++ [DataTurn.mk i cover] }) (t := dataTurn tag sl p g) len
  have same : (d.placeData i tag sl.val p g cover).turns =
    (({ d with data := d.data ++ [DataTurn.mk i cover] } : Draft).place (dataTurn tag sl p g)).turns := rfl
  rw [same, placed, mem_insertTurn, or_comm]

theorem placeData_data (d : Draft) (i tag slot p g cover : Nat) :
    (d.placeData i tag slot p g cover).data = d.data ++ [⟨i, cover⟩] ∧
      (d.placeData i tag slot p g cover).visits = d.visits := by
  have same : ∀ (e : Draft) (t : Turn), (e.place t).data = e.data ∧ (e.place t).visits = e.visits := fun e t => by
    unfold Draft.place
    split <;> exact ⟨rfl, rfl⟩
  exact same { d with data := d.data ++ [⟨i, cover⟩] } _

/-- The draft is no part of what serving a stream reads or writes. -/
theorem serveVisit_setDraft (s : State) (d : Option Draft) (l : LaneId) (k : Fin 4) (i : Nat) (credit : Int) (cover : Nat) :
    (s.setDraft d).serveVisit l k i credit cover = (s.serveVisit l k i credit cover).setDraft d := by
  have unfolded : ∀ u : State, u.serveVisit l k i credit cover =
      let v := u.modStream i fun e => { e with G := e.G + cover, credit := credit - cover }
      if (v.stream i).avail = 0 then (v.modStream i fun e => { e with credit := 0 }).leaveLists i else v.moveToTail l k i :=
    fun _ => rfl
  have entry : ∀ f, ((s.setDraft d).modStream i f).stream i = (s.modStream i f).stream i := fun _ => rfl
  rw [unfolded, unfolded]
  dsimp only
  rw [entry]
  split
  · rw [leaveLists_service, leaveLists_service ((s.modStream i _).modStream i _)]
    rfl
  · rfl

theorem modDraft_setDraft (s : State) (d : Draft) (f : Draft → Draft) :
    (s.setDraft (some d)).modDraft f = s.setDraft (some (f d)) := rfl

/-- What a visit leaves: the draft, with the visit taken off, and the Stream Table but for the other streams' entries. -/
structure Visited (s : State) (i : Nat) (rest : List (Fin 4 × Nat)) (r : State) (d : Draft) : Prop where
  draft : r.builder.draft = some d
  visits : d.visits = rest
  stations : r.stations = s.stations
  lanes : r.lanes = s.lanes
  port : r.port = s.port
  refs : r.refs = s.refs
  link : r.link = s.link
  others : ∀ j, j ≠ i → r.stream j = s.stream j

section
variable {s : State} {d f : Draft} {k : Fin 4} {i : Nat} {rest : List (Fin 4 × Nat)} {credit x : Int}

theorem Serves.visited {t : State} (h : Serves i s t) (visits : f.visits = rest) :
    Visited s i rest (t.setDraft (some f)) f := by
  obtain ⟨frame, others⟩ := h
  refine ⟨rfl, visits, ?_, ?_, ?_, ?_, ?_, others⟩ <;> rw [frame] <;> rfl

section
variable (hs : s.tablesCanonical) (draft : s.builder.draft = some d) (stage : d.stage = .visits)
  (going : ¬d.visitsEnded = true) (visits : d.visits = (k, i) :: rest) (read : Draft.Reread { d with visits := rest } f)
  (reads : s.readForVisit d rest i = s.setDraft (some f))
include hs draft stage going visits read reads

/-- The stream has no credit or no demand to serve, or there is no place: it is skipped. -/
theorem visitNext_skips (awaits : (s.setDraft (some f)).awaitsVisit d.lane k i = true)
    (hcredit : credit = visitCredit (s.stream i).credit (s.stream i).weight d.creditUnit)
    (place : visitPlace d (visitSize d.setup (s.stream i).avail credit (s.stream i).maxTurn) (s.stream i).fragmentable = none) :
    ∃ r e, s.visitNext = r ∧ Visited s i rest r e ∧
      r.stream i = StreamEntry.seal { s.stream i with credit := credit } ∧ e.turns = d.turns ∧ e.data = d.data ∧
      r.list d.lane k = (s.list d.lane k).filter (· ≠ i) ++ [i] := by
  have skip := visit_of_none (s := s.setDraft (some f)) (k := k) hcredit place
  have next := visitNext_going draft stage going visits
  rw [reads, if_pos awaits, skip] at next
  obtain ⟨entry, tail⟩ := skipVisit_spec hs.2.1 d.lane k i credit
  refine ⟨(s.skipVisit d.lane k i credit).setDraft (some f.toVisits), f.toVisits, next,
    (serves_skipVisit hs.2.1 d.lane k i credit).visited (by rw [read]; rfl), entry, ?_, ?_, tail⟩ <;> rw [read] <;> rfl

/-- The stream has a place: its DATA turn is placed, and it is served. -/
theorem visitNext_serves (awaits : (s.setDraft (some f)).awaitsVisit d.lane k i = true)
    (hcredit : credit = visitCredit (s.stream i).credit (s.stream i).weight d.creditUnit)
    {p g tag : Nat} {sl : Fin 8} (owner : (s.stream i).owner = some (tag, sl)) (len : 1 ≤ g)
    (place : visitPlace d (visitSize d.setup (s.stream i).avail credit (s.stream i).maxTurn) (s.stream i).fragmentable =
      some (p, g)) {cover : Nat} (hcover : cover = coverOf d.setup (s.stream i).avail g) :
    ∃ r e, s.visitNext = r ∧ Visited s i rest r e ∧ e.data = d.data ++ [⟨i, cover⟩] ∧
      (∀ t, t ∈ e.turns ↔ t ∈ d.turns ∨ t = dataTurn tag sl p g) ∧
      (cover < (s.stream i).avail →
        r.stream i = StreamEntry.seal { s.stream i with G := (s.stream i).G + cover, credit := credit - cover } ∧
        r.list d.lane k = (s.list d.lane k).filter (· ≠ i) ++ [i]) ∧
      (cover = (s.stream i).avail →
        r.stream i = StreamEntry.seal { s.stream i with G := (s.stream i).G + cover, credit := 0 } ∧
        ∀ m c, i ∉ r.list m c) := by
  have serve := visit_of_some (s := s.setDraft (some f)) (k := k) hcredit owner place
  have next := visitNext_going draft stage going visits
  have cover' : coverOf d.setup ((s.setDraft (some f)).stream i).avail g = cover := hcover.symm
  rw [reads, if_pos awaits, serve, cover', serveVisit_setDraft, modDraft_setDraft, modDraft_setDraft] at next
  obtain ⟨left, out⟩ := serveVisit_spec hs.2.1 d.lane k i credit cover
  obtain ⟨data, visits'⟩ := placeData_data f i tag sl.val p g cover
  have sameTurns : f.turns = d.turns := read.turns
  have sameData : f.data = d.data := by rw [read]
  have left_ : f.visits = rest := by rw [read]
  have turns := fun t => mem_placeData (d := f) (i := i) (tag := tag) (p := p) (cover := cover) (sl := sl) len t
  rw [sameTurns] at turns
  rw [sameData] at data
  have within : cover ≤ (s.stream i).avail := by
    rw [hcover]
    exact coverOf_le _ _ _
  have frame := (serves_serveVisit hs.2.1 d.lane k i (credit := credit) within).visited
    (f := (f.placeData i tag sl.val p g cover).toVisits) (visits'.trans left_)
  exact ⟨_, _, next, frame, data, turns, left, out⟩

end

end

end State

end Sys2Proof.Machine

open Sys2Proof Sys2Proof.Machine

/-- Settles O49: the reads leave the draft but for their notes, and what follows turns on the place found for the size sought. -/
theorem visitServesByCredit : Obligations.VisitServesByCredit := by
  intro s d pin hs draft stage
  have run : exec .stageCVisit s = .next s.visitNext := s.unlessReset_free _ pin
  have ended : d.visitsEnded = true → exec .stageCVisit s = .next (s.setDraft (some { d with stage := .leftover })) :=
    fun h => run.trans (congrArg _ (State.visitNext_ended draft stage h))
  have going : d.turns.length < 240 → (∃ run ∈ freeRuns d.setup.S d.turns, d.setup.P + 1 ≤ run.2) → ∀ {k i rest},
      d.visits = (k, i) :: rest → ¬d.visitsEnded = true := fun room long k i rest visits h => by
    rcases Draft.visitsEnded_iff.1 h with none_ | full | short
    · exact List.cons_ne_nil _ _ (visits.symm.trans none_)
    · exact Nat.not_le.2 room full
    · obtain ⟨r, hr, le⟩ := long
      exact Nat.not_le.2 (short r hr) le
  -- a stream passed over, for whatever the reads have found
  have passed : ∀ {k i rest}, d.visits = (k, i) :: rest → (s.readForVisit d rest i).awaitsVisit d.lane k i = false →
      ∃ (r : State) (d' : Draft), exec .stageCVisit s = .next r ∧ r.builder.draft = some d' ∧ d'.turns = d.turns ∧
        d'.data = d.data ∧ (¬d.visitsEnded = true → d'.visits = rest ∧ r = (s.readForVisit d rest i).setDraft (some d')) :=
    fun {k i rest} visits pass => by
      by_cases h : d.visitsEnded = true
      · exact ⟨_, _, ended h, rfl, rfl, rfl, fun no => absurd h no⟩
      · obtain ⟨e, eq, turns, data, left⟩ := State.visitNext_passed draft stage h visits pass
        exact ⟨_, e, run.trans (congrArg _ eq), rfl, turns, data, fun _ => ⟨left, rfl⟩⟩
  refine ⟨fun h => ended (Draft.visitsEnded_iff.2 h), fun k i rest visits fails unread => ?_,
    fun k i tag sl rest visits checks owner fails unread => ?_,
    fun k i tag sl rest e A credit x visits room long he checks owner station bytes guard hA hcredit hx => ?_⟩
  · have off := fun l => State.readForVisit_unlisted (d := d) (rest := rest) hs fails unread l
    have pass : (s.readForVisit d rest i).awaitsVisit d.lane k i = false := Bool.eq_false_iff.2 fun h =>
      State.onLane_eq_false_iff.1 (off d.lane) k (State.awaitsVisit_iff.1 h).1
    obtain ⟨r, d', next, draft', turns, data, more⟩ := passed visits pass
    refine ⟨r, d', next, draft', turns, data, fun room long => ?_⟩
    obtain ⟨left, eq⟩ := more (going room long visits)
    exact ⟨left, fun l => by rw [eq]; exact off l⟩
  · have pass : (s.readForVisit d rest i).awaitsVisit d.lane k i = false := Bool.eq_false_iff.2 fun h =>
      Bool.false_ne_true ((State.readForVisit_owner hs checks owner fails unread).symm.trans (State.awaitsVisit_iff.1 h).2.2.2.2)
    obtain ⟨r, d', next, draft', turns, data, more⟩ := passed visits pass
    exact ⟨r, d', next, draft', turns, data, fun room long => (more (going room long visits)).1⟩
  · subst he hA
    have go := going room long visits
    obtain ⟨f, read, reads⟩ := State.buildReads_passes (d := { d with visits := rest }) checks fun t sl' h => by
      obtain ⟨rfl, -⟩ := Prod.mk.inj (Option.some.inj (owner.symm.trans h))
      exact station
    have isOwner : s.ownerIs (s.stream i) .active = decide ((s.station tag).state = .active) := by rw [State.ownerIs, owner]
    have awaits : (s.setDraft (some f)).awaitsVisit d.lane k i = true ↔ i ∈ s.list d.lane k ∧ i ∉ s.joinedOf d.lane ∧
        (s.stream i).state = .inUse ∧ (s.stream i).kind = .bidding ∧ (s.station tag).state = .active := by
      rw [← decide_eq_true_iff (p := (s.station tag).state = .active), ← isOwner]
      exact State.awaitsVisit_iff
    by_cases h : (s.setDraft (some f)).awaitsVisit d.lane k i = true
    · have others : ¬(i ∉ s.list d.lane k ∨ i ∈ s.joinedOf d.lane ∨ (s.stream i).state ≠ .inUse ∨ (s.stream i).kind ≠ .bidding ∨
          (s.station tag).state ≠ .active) := by
        have := awaits.1 h
        tauto
      have size : x = visitSize d.setup (s.stream i).avail credit (s.stream i).maxTurn := hx.trans (visitSize_eq guard _ _ _).symm
      cases place : visitPlace d x (s.stream i).fragmentable with
      | none =>
        obtain ⟨r, d', next, frame, skipped⟩ := State.visitNext_skips hs draft stage go visits read reads h hcredit (size ▸ place)
        refine ⟨r, d', run.trans (congrArg _ next), frame.draft, frame.visits, frame.stations, frame.lanes, frame.port, frame.refs,
          frame.link, frame.others, fun no => absurd no others, fun _ _ _ _ _ => ⟨fun _ => skipped, fun g some_ cells =>
            ⟨fun p found => ?_, fun _ _ => skipped, fun found fragment p m largest enough => ?_⟩⟩⟩
        · exact nomatch place.symm.trans (visitPlace_of_fit some_ cells found)
        · rw [fragment, visitPlace_of_fragment some_ cells found largest enough] at place
          cases place
      | some pg =>
        obtain ⟨p, g⟩ := pg
        obtain ⟨some_, longer⟩ := guard_lt_of_visitPlace bytes place
        obtain ⟨r, d', next, frame, data, turns, left, out⟩ := State.visitNext_serves hs draft stage go visits read reads h hcredit
          owner (by omega) (size ▸ place) rfl
        refine ⟨r, d', run.trans (congrArg _ next), frame.draft, frame.visits, frame.stations, frame.lanes, frame.port, frame.refs,
          frame.link, frame.others, fun no => absurd no others, fun _ _ _ _ _ =>
            ⟨fun none_ => absurd none_ (Int.not_le.2 some_), fun g' _ cells =>
              ⟨fun p' found => ?_, fun found whole => ?_, fun found fragment p' m largest enough => ?_⟩⟩⟩
        · obtain ⟨rfl, rfl⟩ := Prod.mk.inj (Option.some.inj (place.symm.trans (visitPlace_of_fit some_ cells found)))
          exact ⟨_, rfl, data, turns, left, out⟩
        · rw [whole, visitPlace_of_whole some_ cells found] at place
          cases place
        · rw [fragment, visitPlace_of_fragment some_ cells found largest enough] at place
          obtain ⟨rfl, rfl⟩ := Prod.mk.inj (Option.some.inj place)
          exact ⟨_, rfl, data, turns, left, out⟩
    · have reads' : s.readForVisit d rest i = s.setDraft (some f) := reads
      obtain ⟨e, eq, turns, data, left⟩ := State.visitNext_passed draft stage go visits (by
        rw [reads']
        exact Bool.not_eq_true _ ▸ h)
      rw [reads'] at eq
      exact ⟨s.setDraft (some e), e, run.trans (congrArg _ eq), rfl, left, rfl, rfl, rfl, rfl, rfl, fun _ _ => rfl,
        fun _ => ⟨rfl, turns, data⟩, fun a b c d e => absurd (awaits.2 ⟨a, b, c, d, e⟩) h⟩
end

section
/-! PROOFS. The nominal starts of a cadenced stream (R118, R119): where N stands against a span, how many whole
cadences it goes on by, and the order in which the walk takes the starts. -/

namespace Sys2Proof.Machine

/-! ### Whole cadences -/

section
variable {a c : Nat}

theorem le_ceilDiv_mul (pos : 1 ≤ c) : a ≤ ceilDiv a c * c := by
  have div := Nat.div_add_mod (a + c - 1) c
  have rem := Nat.mod_lt (a + c - 1) pos
  rw [ceilDiv, Nat.mul_comm]
  omega

theorem ceilDiv_mul_lt (pos : 1 ≤ c) : ceilDiv a c * c < a + c := by
  have div := Nat.div_mul_le_self (a + c - 1) c
  rw [ceilDiv]
  omega

/-- The whole cadences that reach `a` go past it by what its last part leaves of a cadence. -/
theorem ceilDiv_mul_eq (pos : 1 ≤ c) : ceilDiv a c * c = a + (c - a % c) % c := by
  have past : (ceilDiv a c * c - a) % c = (c - a % c) % c := by
    obtain ⟨k, eq⟩ := Nat.exists_eq_add_of_le (le_ceilDiv_mul (a := a) pos)
    have whole : (a % c + k % c) % c = 0 := by rw [← Nat.add_mod, ← eq, Nat.mul_mod_left]
    rw [eq, Nat.add_sub_cancel_left]
    have rem := Nat.mod_lt a pos
    have rem' := Nat.mod_lt k pos
    rcases Nat.eq_zero_or_pos (a % c) with zero | part
    · rw [zero, Nat.zero_add, Nat.mod_mod] at whole
      rw [zero, whole, Nat.sub_zero, Nat.mod_self]
    · rw [Nat.mod_eq_of_lt (by omega : c - a % c < c)]
      by_cases short : a % c + k % c < c
      · rw [Nat.mod_eq_of_lt short] at whole
        omega
      · rw [Nat.mod_eq_sub_mod (by omega), Nat.mod_eq_of_lt (by omega)] at whole
        omega
  have low := le_ceilDiv_mul (a := a) pos
  have high := ceilDiv_mul_lt (a := a) pos
  rw [Nat.mod_eq_of_lt (by omega)] at past
  omega

theorem ceilDiv_zero (pos : 1 ≤ c) : ceilDiv 0 c = 0 := Nat.div_eq_of_lt (by omega)

end

/-! ### N against the span -/

section
variable {S c : Nat} {q N : Quantum}

theorem alignNominal_of_within (within : (N - q).toNat < 48 * S + c) : alignNominal S q N c = N := if_pos within

theorem alignNominal_of_behind (behind : 48 * S + c ≤ (N - q).toNat) :
    alignNominal S q N c = N + tu (ceilDiv (q - N).toNat c * c) := if_neg (Nat.not_lt.2 behind)

/-- Where N stands in the span once it is aligned: a stream that was behind stands at the first of its nominal starts. -/
theorem alignNominal_offset (pos : 1 ≤ c) (small : c ≤ 65535) : (alignNominal S q N c - q).toNat =
    if (N - q).toNat < 48 * S + c then (N - q).toNat else (c - (q - N).toNat % c) % c := by
  split
  · rw [alignNominal_of_within ‹_›]
  · rename_i behind
    rw [alignNominal_of_behind (Nat.not_lt.1 behind), ceilDiv_mul_eq pos]
    have short := Nat.mod_lt (c - (q - N).toNat % c) pos
    generalize (c - (q - N).toNat % c) % c = r at short
    simp only [tu]
    bv_omega

theorem nominalStarts_length : (nominalStarts S q N c).length = ceilDiv (S - (N - q).toNat) c := List.length_range'

theorem walkedNominal_eq : walkedNominal S q N c = N + tu (ceilDiv (S - (N - q).toNat) c * c) := by
  rw [walkedNominal, nominalStarts_length]

theorem walkedNominal_ahead (pos : 1 ≤ c) (ahead : S ≤ (N - q).toNat) : walkedNominal S q N c = N := by
  rw [walkedNominal_eq, Nat.sub_eq_zero_of_le ahead, ceilDiv_zero pos, Nat.zero_mul]
  exact BitVec.add_zero N

/-- An N within the span goes on to its end or past it, by less than a cadence. -/
theorem walkedNominal_within (pos : 1 ≤ c) (within : (N - q).toNat < S) :
    ∃ m, walkedNominal S q N c = N + BitVec.ofNat 32 (m * c) ∧ S ≤ (N - q).toNat + m * c ∧ (N - q).toNat + m * c < S + c := by
  have low := le_ceilDiv_mul (a := S - (N - q).toNat) pos
  have high := ceilDiv_mul_lt (a := S - (N - q).toNat) pos
  exact ⟨_, walkedNominal_eq, by omega, by omega⟩

/-- An N behind the span goes on to its end or past it, by less than a cadence. -/
theorem walkedNominal_behind (pos : 1 ≤ c) (small : c ≤ 65535) (behind : 48 * S + c ≤ (N - q).toNat) :
    ∃ m, walkedNominal S q (alignNominal S q N c) c = N + BitVec.ofNat 32 (m * c) ∧
      (q - N).toNat + S ≤ m * c ∧ m * c < (q - N).toNat + S + c := by
  have offset := alignNominal_offset (S := S) (q := q) (N := N) pos small
  rw [if_neg (Nat.not_lt.2 behind)] at offset
  have brought := ceilDiv_mul_eq (a := (q - N).toNat) pos
  have short := Nat.mod_lt (c - (q - N).toNat % c) pos
  rw [← offset] at brought short
  have low := le_ceilDiv_mul (a := S - (alignNominal S q N c - q).toNat) pos
  have high := ceilDiv_mul_lt (a := S - (alignNominal S q N c - q).toNat) pos
  have eq := alignNominal_of_behind behind
  generalize alignNominal S q N c = M at eq low high brought short
  refine ⟨ceilDiv (q - N).toNat c + ceilDiv (S - (M - q).toNat) c, ?_, ?_, ?_⟩
  · rw [walkedNominal_eq, Nat.add_mul, BitVec.ofNat_add, ← BitVec.add_assoc]
    exact congrArg (· + tu _) eq
  · rw [Nat.add_mul]
    omega
  · rw [Nat.add_mul]
    by_cases past : S ≤ (M - q).toNat
    · rw [Nat.sub_eq_zero_of_le past, ceilDiv_zero pos]
      omega
    · omega

end

/-! ### The order of the walk -/

theorem insertStart_perm (a : NominalStart) (l : List NominalStart) : (insertStart a l).Perm (a :: l) := by
  induction l with
  | nil => exact .refl _
  | cons b rest ih =>
    rw [insertStart]
    split
    · exact .refl _
    · exact (ih.cons b).trans (.swap a b rest)

/-- The walk takes every start once. -/
theorem sortStarts_perm (l : List NominalStart) : (sortStarts l).Perm l := by
  induction l with
  | nil => exact .refl _
  | cons a rest ih => exact (insertStart_perm a _).trans (ih.cons a)

/-- Starts already in the walk's order are taken as they stand. -/
theorem sortStarts_of_pairwise {l : List NominalStart} (sorted : l.Pairwise fun a b => startBefore a b = true) :
    sortStarts l = l := by
  induction l with
  | nil => rfl
  | cons a rest ih =>
    have head : sortStarts (a :: rest) = insertStart a (sortStarts rest) := rfl
    rw [head, ih sorted.of_cons]
    cases rest with
    | nil => rfl
    | cons b rest => rw [insertStart, if_pos (List.rel_of_pairwise_cons sorted List.mem_cons_self)]

theorem sortStarts_range' (n m i : Nat) {c : Nat} (pos : 1 ≤ c) :
    sortStarts ((List.range' n m c).map fun n => (n, i)) = (List.range' n m c).map fun n => (n, i) := by
  apply sortStarts_of_pairwise
  rw [List.pairwise_map]
  exact (List.pairwise_lt_range' c pos).imp fun less => by simp [startBefore, less]

/-- The starts of one stream among those of a list of streams. -/
theorem flatMap_filter_snd {f : Nat → List NominalStart} (own : ∀ j, ∀ a ∈ f j, a.2 = j) {is : List Nat} (nodup : is.Nodup)
    {i : Nat} (mem : i ∈ is) : (is.flatMap f).filter (·.2 == i) = f i := by
  have mine : (f i).filter (·.2 == i) = f i := List.filter_eq_self.2 fun a ha => by simp [own i a ha]
  have other : ∀ j, j ≠ i → (f j).filter (·.2 == i) = [] := fun j ne =>
    List.filter_eq_nil_iff.2 fun a ha => by simp [own j a ha, ne]
  induction is with
  | nil => cases mem
  | cons j rest ih =>
    obtain ⟨fresh, nodup⟩ := List.nodup_cons.1 nodup
    rw [List.flatMap_cons, List.filter_append]
    by_cases same : j = i
    · subst same
      have none_ : (rest.flatMap f).filter (·.2 == j) = [] := List.filter_eq_nil_iff.2 fun a ha => by
        obtain ⟨k, hk, hak⟩ := List.mem_flatMap.1 ha
        have ne : k ≠ j := fun eq => fresh (eq ▸ hk)
        simp [own k a hak, ne]
      rw [mine, none_, List.append_nil]
    · rw [other j same, List.nil_append, ih nodup ((List.mem_cons.1 mem).resolve_left (Ne.symm same))]

/-- The nominal starts of a span are its offsets a whole number of cadences past the first. -/
theorem offsets_eq_range' (S first : Nat) {c : Nat} (pos : 1 ≤ c) :
    ((List.range S).filter fun n => decide (first ≤ n ∧ (n - first) % c = 0)) = List.range' first (ceilDiv (S - first) c) c := by
  refine ((List.pairwise_lt_range.filter _).eq_of_mem_iff (List.pairwise_lt_range' c pos)) fun n => ?_
  simp only [List.mem_filter, List.mem_range, decide_eq_true_eq, List.mem_range']
  have low := le_ceilDiv_mul (a := S - first) pos
  have high := ceilDiv_mul_lt (a := S - first) pos
  constructor
  · rintro ⟨within, after, whole⟩
    have eq := Nat.div_mul_cancel (Nat.dvd_of_mod_eq_zero whole)
    refine ⟨(n - first) / c, ?_, by rw [Nat.mul_comm]; omega⟩
    by_contra above
    have := Nat.mul_le_mul_right c (Nat.not_lt.1 above)
    omega
  · rintro ⟨k, below, rfl⟩
    have step : (k + 1) * c ≤ ceilDiv (S - first) c * c := Nat.mul_le_mul_right c below
    rw [Nat.add_mul, Nat.one_mul, Nat.mul_comm] at step
    exact ⟨by omega, by omega, by rw [Nat.add_sub_cancel_left, Nat.mul_mod_right]⟩

end Sys2Proof.Machine
end

section
/-! PROOFS. STAGE_A1_CADENCED_WALK (R118 to R120): each nominal start of a walked stream has a turn or is a slip, and N and the
slip count of each walked stream are written once. -/

namespace Sys2Proof.Machine

/-! ### The walk on the draft -/

/-- The nominal starts are taken in turn. -/
def Draft.walk (ask : Nat → CadenceAsk) (l : List NominalStart) (d : Draft) : Draft :=
  l.foldl (fun d a => d.takeStart (ask a.2) a.1 a.2) d

theorem Draft.takeStart_cadence (d : Draft) (ask : CadenceAsk) (n j : Nat) :
    (d.takeStart ask n j).cadence = d.cadence ++ [j] ∨ (d.takeStart ask n j).cadence = d.cadence := by
  rcases d.takeStart_cases ask n j with ⟨p, -, -, eq⟩ | ⟨-, eq⟩
  · refine .inl ?_
    rw [eq, Draft.place]
    split <;> rfl
  · exact .inr (by rw [eq])

/-- A stream has at most a turn for each of its starts. -/
theorem Draft.walk_count (ask : Nat → CadenceAsk) (l : List NominalStart) (d : Draft) (i : Nat) :
    (d.walk ask l).cadence.count i ≤ d.cadence.count i + (l.filter (·.2 == i)).length := by
  induction l generalizing d with
  | nil => exact Nat.le_add_right _ _
  | cons a rest ih =>
    have step : (d.takeStart (ask a.2) a.1 a.2).cadence.count i ≤ d.cadence.count i + if a.2 == i then 1 else 0 := by
      rcases d.takeStart_cadence (ask a.2) a.1 a.2 with eq | eq
      · simp [eq, List.count_cons]
      · simp [eq]
    refine (ih (d.takeStart (ask a.2) a.1 a.2)).trans ?_
    rw [List.filter_cons]
    split
    · rw [if_pos ‹_›] at step
      rw [List.length_cons]
      omega
    · rw [if_neg ‹_›] at step
      omega

/-! ### One stream alone in the span -/

/-- The CADENCE turn of a nominal start that has a place at its own offset. -/
def CadenceAsk.turn (ask : CadenceAsk) (n : Nat) : Turn :=
  { kind := .cadence, tag := ask.tag, slot := ask.slot, start := n, len := ask.z, slots := 0, floor := false }

section
variable {d : Draft} {ask : CadenceAsk} {n i : Nat}

/-- Behind the last turn a nominal start has its own offset if its quanta end within the span. -/
theorem cadencePlace_behind (behind : ∀ t ∈ d.turns, t.stop ≤ n) :
    cadencePlace d n ask.jitter ask.z = if n + ask.z ≤ d.setup.S then some n else none := by
  split
  · rename_i within
    have free : isFree d.turns n ask.z = true := isFree_iff.2 fun t ht => .inl (behind t ht)
    rw [cadencePlace, List.range'_succ, List.find?_cons_of_pos (by simp [within, free])]
  · rename_i beyond
    rw [cadencePlace, List.find?_eq_none]
    intro p hp
    have after := (List.mem_range'_1.1 hp).1
    simp [show ¬p + ask.z ≤ d.setup.S by omega]

variable (behind : ∀ t ∈ d.turns, t.stop ≤ n ∧ t.start < n) (some_ : 1 ≤ ask.z) (room : d.full = false)

include behind some_ room in
theorem Draft.takeStart_fits (within : n + ask.z ≤ d.setup.S) : (d.takeStart ask n i).turns = d.turns ++ [ask.turn n] ∧
    (d.takeStart ask n i).setup = d.setup ∧ (d.takeStart ask n i).slips = d.slips ∧
    (d.takeStart ask n i).cadence = d.cadence ++ [i] := by
  have found := cadencePlace_behind (ask := ask) fun t ht => (behind t ht).1
  rw [if_pos within] at found
  have eq : d.takeStart ask n i = (((({ d with cadence := d.cadence ++ [i] } : Draft).place (ask.turn n)).nameStation
      ask.tag).nameStream i) := by
    rw [Draft.takeStart, room, found]
    rfl
  rw [eq, Draft.place_of_pos some_, ← insertTurn_last (t := ask.turn n) fun t ht => (behind t ht).2]
  exact ⟨rfl, rfl, rfl, rfl⟩

include behind in
theorem Draft.takeStart_slips (beyond : ¬n + ask.z ≤ d.setup.S) : (d.takeStart ask n i).turns = d.turns ∧
    (d.takeStart ask n i).setup = d.setup ∧ (d.takeStart ask n i).slips = d.slips + 1 ∧
    (d.takeStart ask n i).cadence = d.cadence := by
  have found := cadencePlace_behind (ask := ask) fun t ht => (behind t ht).1
  rw [if_neg beyond] at found
  rw [Draft.takeStart, found, ite_self]
  exact ⟨rfl, rfl, rfl, rfl⟩

end

/-- One stream's starts alone, behind the turns that stand: each has its own offset, or is a slip at the span's end. -/
theorem Draft.walk_alone {ask : Nat → CadenceAsk} {c i : Nat} (some_ : 1 ≤ (ask i).z) (apart : (ask i).z ≤ c) (n m : Nat)
    {d : Draft} (behind : ∀ t ∈ d.turns, t.stop ≤ n ∧ t.start < n) (room : d.turns.length + m ≤ Config.turns) :
    let placed := (List.range' n m c).filter fun n => decide (n + (ask i).z ≤ d.setup.S)
    let after := d.walk ask ((List.range' n m c).map fun n => (n, i))
    after.turns = d.turns ++ placed.map (ask i).turn ∧ after.slips = d.slips + (m - placed.length) ∧
      after.cadence = d.cadence ++ List.replicate placed.length i := by
  induction m generalizing n d with
  | zero => simp [Draft.walk]
  | succ m ih =>
    intro placed after
    have full : d.full = false := Draft.full_eq_false.2 (by omega)
    have walk : after = (d.takeStart (ask i) n i).walk ask ((List.range' (n + c) m c).map fun n => (n, i)) := rfl
    have placed_le : ((List.range' (n + c) m c).filter fun n => decide (n + (ask i).z ≤ d.setup.S)).length ≤ m :=
      (List.length_filter_le _ _).trans (List.length_range' ..).le
    by_cases within : n + (ask i).z ≤ d.setup.S
    · obtain ⟨turns, setup, slips, cadence⟩ := Draft.takeStart_fits (i := i) behind some_ full within
      have behind' : ∀ t ∈ (d.takeStart (ask i) n i).turns, t.stop ≤ n + c ∧ t.start < n + c := by
        intro t ht
        rw [turns, List.mem_append, List.mem_singleton] at ht
        rcases ht with old | rfl
        · have := behind t old
          omega
        · simp only [Turn.stop, CadenceAsk.turn]
          omega
      obtain ⟨turns', slips', cadence'⟩ := ih (n + c) behind' (by rw [turns, List.length_append, List.length_singleton]; omega)
      have cons : placed = n :: (List.range' (n + c) m c).filter fun n => decide (n + (ask i).z ≤ d.setup.S) := by
        simp [placed, List.range'_succ, within]
      rw [walk, turns', slips', cadence', cons, setup, turns, slips, cadence]
      simp [List.replicate_succ]
    · obtain ⟨turns, setup, slips, cadence⟩ := Draft.takeStart_slips (i := i) (ask := ask i) behind within
      have behind' : ∀ t ∈ (d.takeStart (ask i) n i).turns, t.stop ≤ n + c ∧ t.start < n + c := by
        intro t ht
        have := behind t (turns ▸ ht)
        omega
      obtain ⟨turns', slips', cadence'⟩ := ih (n + c) behind' (by rw [turns]; omega)
      have cons : placed = (List.range' (n + c) m c).filter fun n => decide (n + (ask i).z ≤ d.setup.S) := by
        simp [placed, List.range'_succ, within]
      rw [walk, turns', slips', cadence', cons, setup, turns, slips, cadence]
      exact ⟨rfl, by omega, rfl⟩

/-! ### The streams that are walked -/

/-- The listed indices of a canonical table rise. -/
theorem Table.indices_pairwise {α : Type} [DecidableEq α] {d : α} (p : α → Bool) {t : Table α} (w : Table.wf d t = true) :
    (Table.indices p t).Pairwise (· < ·) := by
  have from_ : ∀ (n : Option Nat) (t : Table α), Table.wfFrom d n t = true →
      (∀ k ∈ n, ∀ j ∈ t.map (·.1), k < j) ∧ (t.map (·.1)).Pairwise (· < ·) := by
    intro n t w
    induction t generalizing n with
    | nil => exact ⟨fun _ _ => nofun, .nil⟩
    | cons r rest ih =>
      obtain ⟨above, -, w'⟩ := (Table.wfFrom_cons ..).1 w
      obtain ⟨later, sorted⟩ := ih _ w'
      refine ⟨fun k hk j hj => ?_, .cons (later r.1 rfl) sorted⟩
      rcases List.mem_cons.1 hj with rfl | hj
      · exact above k hk
      · exact (above k hk).trans (later r.1 rfl j hj)
  exact (from_ none t w).2.sublist (List.filter_sublist.map _)

/-- N and the slip count of a walked stream are written (R120). -/
def StreamEntry.afterWalk (e : StreamEntry) (d : Draft) (slips : Nat) : StreamEntry :=
  { e with
    N := walkedNominal d.setup.S d.startQ (alignNominal d.setup.S d.startQ e.N e.c) e.c
    slips := satAdd Config.slipMax e.slips slips }

namespace State

section
variable (s : State) (d : Draft)

/-- The streams of the lane that are walked (R118). -/
def walked : List Nat := (s.cadencedOn d.lane).filter (s.walks d.lane)

/-- Their nominal starts within the span, stream by stream. -/
def walkStarts : List NominalStart := (s.walked d).flatMap (s.startsOf d)

/-- The draft when every start has been taken. -/
def walkDraft : Draft := d.walk (fun i => (s.stream i).ask) (sortStarts (s.walkStarts d))

/-- The starts of a stream that have no turn. -/
def walkSlips (i : Nat) : Nat :=
  ((s.walkStarts d).filter (·.2 == i)).length - ((s.walkDraft d).cadence.count i - d.cadence.count i)

end

section
variable {s : State} {d : Draft} {i : Nat}

theorem walks_iff {l : LaneId} : s.walks l i = true ↔ (s.stream i).state = .inUse ∧ (s.stream i).kind = .cadenced ∧
    (s.stream i).lane = l ∧ (s.ownerIs (s.stream i) .active = true ∨ s.ownerIs (s.stream i) .held = true) := by
  simp [State.walks, and_assoc]

theorem mem_walked (hs : s.tablesCanonical) : i ∈ s.walked d ↔ s.walks d.lane i = true := by
  rw [walked, List.mem_filter, State.cadencedOn, Table.mem_indices rfl i _ hs.2.1, and_iff_right_iff_imp, walks_iff]
  rintro ⟨-, kind, lane, -⟩
  simpa [State.stream] using And.intro kind lane

theorem walked_nodup (hs : s.tablesCanonical) : (s.walked d).Nodup :=
  ((Table.indices_pairwise _ hs.2.1).imp Nat.ne_of_lt).filter _

theorem startsOf_own (i : Nat) : ∀ a ∈ s.startsOf d i, a.2 = i := by
  unfold State.startsOf
  dsimp only
  split
  · simp only [List.mem_map, forall_exists_index, and_imp]
    rintro a n - rfl
    rfl
  · exact nofun

theorem walkStarts_filter (hs : s.tablesCanonical) (walks : s.walks d.lane i = true) :
    (s.walkStarts d).filter (·.2 == i) = s.startsOf d i :=
  flatMap_filter_snd startsOf_own (walked_nodup hs) ((mem_walked hs).2 walks)

/-- The number of a stream's starts within the span. -/
theorem startsOf_length (pos : 1 ≤ (s.stream i).c) (small : (s.stream i).c ≤ 65535) : (s.startsOf d i).length =
    if s.ownerIs (s.stream i) .active then
      ceilDiv (d.setup.S - if ((s.stream i).N - d.startQ).toNat < 48 * d.setup.S + (s.stream i).c then
        ((s.stream i).N - d.startQ).toNat
      else ((s.stream i).c - (d.startQ - (s.stream i).N).toNat % (s.stream i).c) % (s.stream i).c) (s.stream i).c
    else 0 := by
  unfold State.startsOf
  dsimp only
  split
  · rw [List.length_map, nominalStarts_length, alignNominal_offset pos small]
  · rfl

/-- A stream has at most a turn for each of its starts. -/
theorem walkDraft_count : (s.walkDraft d).cadence.count i - d.cadence.count i ≤ ((s.walkStarts d).filter (·.2 == i)).length := by
  have count := d.walk_count (fun i => (s.stream i).ask) (sortStarts (s.walkStarts d)) i
  rw [((sortStarts_perm _).filter _).length_eq] at count
  exact Nat.sub_le_of_le_add (by rwa [Nat.add_comm])

/-! ### The stage on the tables -/

/-- The walk's reads of entries that all pass write the draft alone. -/
theorem walkReads_passes (stations : ∀ t, (s.station t).checks = true) (streams : ∀ i, (s.stream i).checks = true)
    (is : List Nat) : ∃ e, d.Reread e ∧
      is.foldl (fun s i => (s.buildReadStream i).buildReadOwner i) (s.setDraft (some d)) = s.setDraft (some e) := by
  induction is generalizing d with
  | nil => exact ⟨d, .refl d, rfl⟩
  | cons i rest ih =>
    obtain ⟨e, read, eq⟩ := buildReads_passes (d := d) (streams i) fun t _ _ => stations t
    obtain ⟨f, read', eq'⟩ := ih (d := e)
    exact ⟨f, read.trans read', by rw [List.foldl_cons, eq, eq']⟩

theorem restreamed_writeWalk (slips : Nat → Nat) (is : List Nat) (s : State) :
    s.Restreamed (is.foldl (State.writeWalk d slips) s) :=
  List.foldlRecOn (motive := fun t => s.Restreamed t) is _ rfl fun _ h i _ => h.trans (.modStream _ i _)

theorem stream_writeWalk (slips : Nat → Nat) {is : List Nat} (nodup : is.Nodup)
    (w : Table.wf StreamEntry.free s.streams.entries = true) : (is.foldl (State.writeWalk d slips) s).stream i =
      if i ∈ is then ((s.stream i).afterWalk d (slips i)).seal else s.stream i := by
  induction is generalizing s with
  | nil => rfl
  | cons j rest ih =>
    obtain ⟨fresh, nodup⟩ := List.nodup_cons.1 nodup
    have step : (State.writeWalk d slips s j).stream i =
        if i = j then ((s.stream j).afterWalk d (slips j)).seal else s.stream i :=
      s.stream_modStream j i (fun e => e.afterWalk d (slips j)) w
    have wf : Table.wf StreamEntry.free (State.writeWalk d slips s j).streams.entries = true := s.putStream_wf j _ w
    rw [List.foldl_cons, ih nodup wf, step]
    by_cases same : i = j
    · subst same
      simp [fresh]
    · simp [same]

theorem modDraft_count {e : Draft} (draft : s.builder.draft = some e) (l : LaneId) (f : LaneCounters → LaneCounters)
    (g : Draft → Draft) : (s.count l f).modDraft g = (s.count l f).setDraft (some (g e)) := by
  have same : (s.count l f).builder.draft = some e := draft
  rw [State.modDraft, same, Option.map_some]

/-- Stage A1 where every read passes: the reads are noted, each walked stream is written once, and the lane counts the slips. -/
theorem walkCadenced_passes (draft : s.builder.draft = some d) (stage : d.stage = .cadenced)
    (stations : ∀ t, (s.station t).checks = true) (streams : ∀ i, (s.stream i).checks = true) :
    ∃ e, s.walkCadenced = (((s.walked d).foldl (State.writeWalk d (s.walkSlips d)) (s.setDraft (some e))).count d.lane
      fun k => { k with slips := raiseBy ((s.walkDraft d).slips - d.slips) k.slips }).setDraft
        (some { s.walkDraft d with stage := .alignment, readStations := e.readStations, readStreams := e.readStreams }) := by
  obtain ⟨e, -, read⟩ := walkReads_passes (d := d) stations streams (s.cadencedOn d.lane)
  rw [setDraft_self draft] at read
  refine ⟨e, ?_⟩
  have builder : ((s.walked d).foldl (State.writeWalk d (s.walkSlips d)) (s.setDraft (some e))).builder.draft = some e := by
    rw [restreamed_writeWalk (d := d) (s.walkSlips d) (s.walked d) (s.setDraft (some e))]
    rfl
  unfold State.walkCadenced State.atStage
  rw [draft]
  dsimp only
  rw [if_pos stage, read]
  exact modDraft_count builder _ _ _

end

end State

end Sys2Proof.Machine
end

section
/-! PROOFS. STAGE_A1_CADENCED_WALK settled (R118 to R120): the frame of the stage, what it writes of one walked stream, and a
stream alone in the span. -/

namespace Sys2Proof.Machine

namespace State

section
variable {s r : State} {d d' e : Draft} {i : Nat}

/-- `r` and its draft `d'` are what stage A1 makes of `s` and `d` where every read passes, `e` being the draft with the reads
noted. -/
structure Walked (s : State) (d e : Draft) (r : State) (d' : Draft) : Prop where
  draft : d' = { s.walkDraft d with stage := .alignment, readStations := e.readStations, readStreams := e.readStreams }
  state : r = (((s.walked d).foldl (State.writeWalk d (s.walkSlips d)) (s.setDraft (some e))).count d.lane
    fun k => { k with slips := raiseBy ((s.walkDraft d).slips - d.slips) k.slips }).setDraft (some d')

namespace Walked

variable (h : s.Walked d e r d')
include h

theorem frame : r.builder.draft = some d' ∧ r.stations = s.stations ∧ r.refs = s.refs ∧ r.link = s.link ∧ r.port = s.port := by
  rw [h.state, restreamed_writeWalk (d := d) (s.walkSlips d) (s.walked d) (s.setDraft (some e))]
  exact ⟨rfl, rfl, rfl, rfl, rfl⟩

theorem lane_other {m : LaneId} (other : m ≠ d.lane) : r.lane m = s.lane m := by
  have count := ((s.walked d).foldl (State.writeWalk d (s.walkSlips d)) (s.setDraft (some e))).lane_modLane_other d.lane m
    (fun v => { v with counters := { v.counters with
      slips := raiseBy ((s.walkDraft d).slips - d.slips) v.counters.slips } }) other
  rw [restreamed_writeWalk (d := d) (s.walkSlips d) (s.walked d) (s.setDraft (some e))] at count
  rw [h.state, restreamed_writeWalk (d := d) (s.walkSlips d) (s.walked d) (s.setDraft (some e))]
  exact count

theorem lane_same : r.lane d.lane = { s.lane d.lane with counters := { (s.lane d.lane).counters with
    slips := min ((s.lane d.lane).counters.slips + (d'.slips - d.slips)) 4294967295 } } := by
  have count := ((s.walked d).foldl (State.writeWalk d (s.walkSlips d)) (s.setDraft (some e))).lane_modLane_same d.lane
    (fun v => { v with counters := { v.counters with
      slips := raiseBy ((s.walkDraft d).slips - d.slips) v.counters.slips } })
  rw [restreamed_writeWalk (d := d) (s.walkSlips d) (s.walked d) (s.setDraft (some e))] at count
  rw [h.state, restreamed_writeWalk (d := d) (s.walkSlips d) (s.walked d) (s.setDraft (some e)), h.draft]
  exact count

theorem stream (hs : s.tablesCanonical) (i : Nat) : r.stream i =
    if s.walks d.lane i = true then ((s.stream i).afterWalk d (s.walkSlips d i)).seal else s.stream i := by
  have written := stream_writeWalk (s := s.setDraft (some e)) (d := d) (i := i) (s.walkSlips d) (walked_nodup (d := d) hs) hs.2.1
  simp only [mem_walked hs] at written
  rw [h.state]
  exact written

/-- What the stage writes of one walked stream (R118, R120). -/
theorem stream_walked (hs : s.tablesCanonical) (walks : s.walks d.lane i = true) :
    r.stream i = { s.stream i with N := (r.stream i).N, slips := (r.stream i).slips }.seal ∧
    (r.stream i).N = walkedNominal d.setup.S d.startQ
      (alignNominal d.setup.S d.startQ (s.stream i).N (s.stream i).c) (s.stream i).c ∧
    (r.stream i).slips = min ((s.stream i).slips +
      ((s.startsOf d i).length - (d'.cadence.count i - d.cadence.count i))) 65535 := by
  have eq := h.stream hs i
  have slips : s.walkSlips d i = (s.startsOf d i).length - (d'.cadence.count i - d.cadence.count i) := by
    rw [walkSlips, walkStarts_filter hs walks, h.draft]
  rw [if_pos walks, slips] at eq
  rw [eq]
  exact ⟨rfl, rfl, rfl⟩

/-- A stream has at most a turn for each of its starts (R119). -/
theorem turns_le (hs : s.tablesCanonical) (walks : s.walks d.lane i = true) :
    d'.cadence.count i - d.cadence.count i ≤ (s.startsOf d i).length := by
  rw [← walkStarts_filter hs walks, h.draft]
  exact walkDraft_count

/-- One walked stream of an ACTIVE owner, alone in an empty span (R119). -/
theorem alone {k : Nat} {sl : Fin 8} (hs : s.tablesCanonical) (only : s.cadencedOn d.lane = [i]) (walks : s.walks d.lane i = true)
    (owner : (s.stream i).owner = some (k, sl)) (active : (s.station k).state = .active) (empty : d.turns = [])
    (none_ : d.cadence = []) (long : 16 ≤ (s.stream i).c) (some_ : 1 ≤ (s.stream i).z) (apart : (s.stream i).z ≤ (s.stream i).c)
    (small : d.setup.S ≤ 2048) (within : ((s.stream i).N - d.startQ).toNat < d.setup.S) :
    let offsets := List.range' ((s.stream i).N - d.startQ).toNat
      (ceilDiv (d.setup.S - ((s.stream i).N - d.startQ).toNat) (s.stream i).c) (s.stream i).c
    let placed := offsets.filter fun n => decide (n + (s.stream i).z ≤ d.setup.S)
    d'.turns = placed.map (s.stream i).ask.turn ∧ d'.slips = d.slips + (offsets.length - placed.length) ∧
      (r.stream i).slips = min ((s.stream i).slips + (offsets.length - placed.length)) 65535 := by
  intro offsets placed
  have ask : (s.stream i).ask = { tag := k, slot := sl.val, z := (s.stream i).z, jitter := (s.stream i).jitter } := by
    rw [StreamEntry.ask, owner]
    rfl
  have isActive : s.ownerIs (s.stream i) .active = true := by
    simp [State.ownerIs, owner, active]
  have own : s.startsOf d i = offsets.map fun n => (n, i) := by
    unfold State.startsOf
    dsimp only
    rw [if_pos isActive, alignNominal_of_within (by omega)]
    rfl
  have starts : s.walkStarts d = offsets.map fun n => (n, i) := by
    rw [walkStarts, walked, only, List.filter_singleton, walks]
    simp [own]
  have few : ceilDiv (d.setup.S - ((s.stream i).N - d.startQ).toNat) (s.stream i).c ≤ 240 := by
    have high := ceilDiv_mul_lt (a := d.setup.S - ((s.stream i).N - d.startQ).toNat) (c := (s.stream i).c) (by omega)
    by_contra many
    have := Nat.mul_le_mul_right (s.stream i).c (Nat.not_le.1 many)
    omega
  obtain ⟨turns, slips, cadence⟩ := Draft.walk_alone (d := d) (ask := fun i => (s.stream i).ask) (i := i) (c := (s.stream i).c)
    some_ apart ((s.stream i).N - d.startQ).toNat (ceilDiv (d.setup.S - ((s.stream i).N - d.startQ).toNat) (s.stream i).c)
    (by simp [empty]) (by rw [empty]; exact (Nat.zero_add _).trans_le few)
  have walk : s.walkDraft d = d.walk (fun i => (s.stream i).ask) (offsets.map fun n => (n, i)) := by
    rw [walkDraft, starts, sortStarts_range' _ _ _ (by omega)]
  have length : offsets.length = ceilDiv (d.setup.S - ((s.stream i).N - d.startQ).toNat) (s.stream i).c := List.length_range'
  rw [← walk] at turns slips cadence
  rw [empty, List.nil_append] at turns
  rw [none_, List.nil_append] at cadence
  obtain ⟨-, -, total⟩ := h.stream_walked hs walks
  rw [total, own, List.length_map, h.draft]
  dsimp only
  rw [turns, slips, cadence, none_, length, List.count_replicate_self]
  exact ⟨rfl, rfl, rfl⟩

end Walked

end

end State

end Sys2Proof.Machine

open Sys2Proof Sys2Proof.Machine

/-- Settles O47: the walk's reads pass and write the draft alone, so the stage is the walk on the draft, one write of each walked
stream, and the count of the slips; N goes on by the ceilings of R118 and R119. -/
theorem cadencedWalkPlacesAndAdvances : Obligations.CadencedWalkPlacesAndAdvances := by
  intro s d free hs draft stage stations streams some_ small
  obtain ⟨e, eq⟩ := State.walkCadenced_passes draft stage stations streams
  have run : exec .stageA1CadencedWalk s = .next s.walkCadenced := s.unlessReset_free _ free
  rw [eq] at run
  generalize hd : ({ s.walkDraft d with
    stage := .alignment, readStations := e.readStations, readStreams := e.readStreams } : Draft) = d' at run
  generalize hr : State.setDraft _ (some d') = r at run
  have h : s.Walked d e r d' := ⟨hd.symm, hr.symm⟩
  obtain ⟨builder, sameStations, sameRefs, sameLink, samePort⟩ := h.frame
  refine ⟨r, d', run, builder, by rw [← hd], sameStations, sameRefs, sameLink, samePort, fun m => h.lane_other, h.lane_same,
    fun i stays => ?_, fun i walks pos short => ?_, ?_⟩
  · rw [h.stream hs, stays]
    rfl
  · obtain ⟨entry, nominal, slips⟩ := h.stream_walked hs walks
    have turns := h.turns_le hs walks
    rw [State.startsOf_length pos short] at slips turns
    refine ⟨entry, fun ahead near => ?_, fun within => ?_, fun behind => ?_, turns, slips⟩
    · rw [nominal, alignNominal_of_within near, walkedNominal_ahead pos ahead]
    · rw [nominal, alignNominal_of_within (by omega)]
      exact walkedNominal_within pos within
    · rw [nominal]
      exact walkedNominal_behind pos short behind
  · intro i k sl only walks owner active empty none_ long short one apart within offsets placed
    have same := offsets_eq_range' d.setup.S ((s.stream i).N - d.startQ).toNat (c := (s.stream i).c) (by omega)
    have alone := h.alone hs only walks owner active empty none_ long one apart small within
    simp only [← same] at alone
    obtain ⟨turns, alone⟩ := alone
    refine ⟨turns.trans ?_, alone⟩
    have ask : (s.stream i).ask = { tag := k, slot := sl.val, z := (s.stream i).z, jitter := (s.stream i).jitter } := by
      rw [StreamEntry.ask, owner]
      rfl
    rw [ask]
    rfl
end

section
/-! PROOFS. The choice of a span by BUILD_BEGIN (R137) and its skip (R138): the span taken is the earliest of the eligible ones,
and a skip counts one drop, whether or not it faults the lane. -/

namespace Sys2Proof.Machine

/-! ### Serial order -/

/-- Of times ahead of `base` by less than half the range, the earlier is the one less far ahead. -/
theorem earlier_iff {a b base : Time} (ha : (a - base).toNat < 2 ^ 31) (hb : (b - base).toNat < 2 ^ 31) :
    earlier a b = true ↔ (a - base).toNat < (b - base).toNat := by
  simp only [earlier, Bool.and_eq_true, decide_eq_true_eq]
  constructor <;> intro h <;> bv_omega

theorem start_eq_of_ahead {a b base : Time} (h : (a - base).toNat = (b - base).toNat) : a = b := by
  bv_omega

/-! ### The span taken (R137) -/

/-- `w` starts before `v`, as seen from `base`, or with it on no higher lane. -/
def WaitingSpan.NotAfter (base : Time) (w v : WaitingSpan) : Prop :=
  (w.start - base).toNat < (v.start - base).toNat ∨ (w.start = v.start ∧ w.lane ≤ v.lane)

section
variable {base : Time} {u v w : WaitingSpan}

theorem WaitingSpan.NotAfter.refl (w : WaitingSpan) : w.NotAfter base w := .inr ⟨rfl, le_rfl⟩

theorem WaitingSpan.NotAfter.trans (h : w.NotAfter base v) (k : v.NotAfter base u) : w.NotAfter base u := by
  rcases h with less | ⟨start, lane⟩ <;> rcases k with less' | ⟨start', lane'⟩
  · exact .inl (less.trans less')
  · exact .inl (start' ▸ less)
  · exact .inl (start ▸ less')
  · exact .inr ⟨start.trans start', lane.trans lane'⟩

/-- Of two spans the one that `before` prefers is not after either. -/
theorem WaitingSpan.notAfter_of_before (hw : (w.start - base).toNat < 2 ^ 31) (hv : (v.start - base).toNat < 2 ^ 31) :
    (if w.before v then w else v).NotAfter base w ∧ (if w.before v then w else v).NotAfter base v := by
  split
  · rename_i before
    simp only [WaitingSpan.before, Bool.or_eq_true, earlier_iff hw hv, Bool.and_eq_true, beq_iff_eq, decide_eq_true_eq] at before
    exact ⟨.refl w, before.imp_right fun ⟨start, lane⟩ => ⟨start, lane.le⟩⟩
  · rename_i after
    simp only [WaitingSpan.before, Bool.or_eq_true, earlier_iff hw hv, Bool.and_eq_true, beq_iff_eq, decide_eq_true_eq,
      not_or, not_and, not_lt] at after
    obtain ⟨late, lane⟩ := after
    refine ⟨?_, .refl v⟩
    rcases late.lt_or_eq with less | same
    · exact .inl less
    · exact .inr ⟨start_eq_of_ahead same, lane (start_eq_of_ahead same).symm⟩

end

/-- The span chosen is one of those offered, and not after any of them. -/
theorem chooseSpan_some (v : WaitingSpan) (l : List WaitingSpan) : ∃ w, chooseSpan (some v) l = some w ∧ w ∈ v :: l ∧
    ∀ base : Time, (∀ u ∈ v :: l, (u.start - base).toNat < 2 ^ 31) → ∀ u ∈ v :: l, w.NotAfter base u := by
  induction l generalizing v with
  | nil => exact ⟨v, rfl, List.mem_cons_self, fun base _ u hu => List.mem_singleton.1 hu ▸ .refl u⟩
  | cons x rest ih =>
    obtain ⟨w, eq, mem, least⟩ := ih (if x.before v then x else v)
    have best : (if x.before v then x else v) = x ∨ (if x.before v then x else v) = v := by
      split <;> simp
    refine ⟨w, eq, ?_, fun base near u hu => ?_⟩
    · rcases List.mem_cons.1 mem with rfl | later
      · rcases best with eq | eq <;> simp [eq]
      · simp [later]
    · have near' : ∀ u ∈ (if x.before v then x else v) :: rest, (u.start - base).toNat < 2 ^ 31 := by
        intro u hu
        rcases List.mem_cons.1 hu with rfl | later
        · rcases best with eq | eq <;> rw [eq] <;> exact near _ (by simp)
        · exact near u (by simp [later])
      obtain ⟨first, second⟩ := WaitingSpan.notAfter_of_before (near x (by simp)) (near v (by simp))
      have head := least base near' _ List.mem_cons_self
      rcases List.mem_cons.1 hu with rfl | hu
      · exact head.trans second
      rcases List.mem_cons.1 hu with rfl | later
      · exact head.trans first
      · exact least base near' u (List.mem_cons_of_mem _ later)

namespace State

section
variable {s : State} {w : WaitingSpan}

theorem eligible_iff (idle : s.builder.draft = none) (v : WaitingSpan) :
    s.eligible v = true ↔ (s.lane v.lane).state = .live ∧ s.queuedOf v.lane < 2 := by
  simp [State.eligible, State.isLive, State.building, idle, Config.queuedPlans]

theorem nextSpan_of_none (none_ : ∀ v ∈ s.builder.waiting, ¬s.eligible v = true) : s.nextSpan = none := by
  rw [State.nextSpan, List.filter_eq_nil_iff.2 none_]
  rfl

/-- With a span eligible, one is taken: an eligible one that is not after any other. -/
theorem nextSpan_spec {v : WaitingSpan} (mem : v ∈ s.builder.waiting) (eligible : s.eligible v = true) :
    ∃ w, s.nextSpan = some w ∧ w ∈ s.builder.waiting ∧ s.eligible w = true ∧
      ∀ base : Time, (∀ v ∈ s.builder.waiting, s.eligible v = true → (v.start - base).toNat < 2 ^ 31) →
        ∀ v ∈ s.builder.waiting, s.eligible v = true → w.NotAfter base v := by
  have offered : ∀ v, v ∈ s.builder.waiting.filter s.eligible ↔ v ∈ s.builder.waiting ∧ s.eligible v = true :=
    fun v => List.mem_filter
  obtain ⟨x, rest, eq⟩ := List.exists_cons_of_ne_nil (List.ne_nil_of_mem ((offered v).2 ⟨mem, eligible⟩))
  obtain ⟨w, chosen, hw, least⟩ := chooseSpan_some x rest
  rw [← eq] at hw least
  obtain ⟨waits, ready⟩ := (offered w).1 hw
  refine ⟨w, by rw [State.nextSpan, eq]; exact chosen, waits, ready, fun base near v hv ready => ?_⟩
  exact least base (fun u hu => near u ((offered u).1 hu).1 ((offered u).1 hu).2) v ((offered v).2 ⟨hv, ready⟩)

theorem nextSpan_eq_some (next : s.nextSpan = some w) : w ∈ s.builder.waiting ∧ s.eligible w = true ∧
    ∀ base : Time, (∀ v ∈ s.builder.waiting, s.eligible v = true → (v.start - base).toNat < 2 ^ 31) →
      ∀ v ∈ s.builder.waiting, s.eligible v = true → w.NotAfter base v := by
  by_cases some_ : ∃ v ∈ s.builder.waiting, s.eligible v = true
  · obtain ⟨v, mem, eligible⟩ := some_
    obtain ⟨w', eq, rest⟩ := nextSpan_spec mem eligible
    rw [next, Option.some.injEq] at eq
    exact eq ▸ rest
  · rw [nextSpan_of_none fun v mem eligible => some_ ⟨v, mem, eligible⟩] at next
    cases next

/-! ### The skip (R138) -/

/-- From `s` to `t` no build begins, no span joins the waiting set, and no drop count moves. -/
structure Retains (s t : State) : Prop where
  draft : t.builder.draft = s.builder.draft
  waiting : ∀ v ∈ t.builder.waiting, v ∈ s.builder.waiting
  drops : ∀ m, (t.lane m).drops = (s.lane m).drops

namespace Retains

variable {s t u : State}

theorem refl (s : State) : s.Retains s := ⟨rfl, fun _ => id, fun _ => rfl⟩

theorem trans (h : s.Retains t) (k : t.Retains u) : s.Retains u :=
  ⟨k.draft.trans h.draft, fun v => h.waiting v ∘ k.waiting v, fun m => (k.drops m).trans (h.drops m)⟩

theorem of_keeps (h : s.Keeps t) : s.Retains t :=
  ⟨by rw [h.builder], fun v => h.builder ▸ id, fun m => by rw [h.lane m]⟩

theorem of_lanes (builder : t.builder = s.builder) (lanes : t.lanes = s.lanes) : s.Retains t :=
  ⟨by rw [builder], fun v => builder ▸ id, fun m => by rw [State.lane, lanes, State.lane]⟩

theorem modLane (s : State) (l : LaneId) {f : Lane → Lane} (drops : ∀ v, (f v).drops = v.drops) : s.Retains (s.modLane l f) := by
  refine ⟨rfl, fun _ => id, fun m => ?_⟩
  by_cases same : m = l
  · rw [same, lane_modLane_same, drops]
  · rw [lane_modLane_other _ _ _ _ same]

end Retains

section
variable (s : State)

theorem retains_setLaneState (l : LaneId) (st : LaneState) : s.Retains (s.setLaneState l st) := by
  rw [setLaneState_eq]
  exact (Retains.modLane s l (f := fun v => { v with state := st }) fun _ => rfl).trans (.of_lanes rfl rfl)

theorem retains_setLink (k : PlanLink) : s.Retains { s with link := k } := .of_lanes rfl rfl

theorem retains_withdraw (l : LaneId) : s.Retains (s.withdraw l) := ⟨rfl, fun _ => List.mem_of_mem_filter, fun _ => rfl⟩

theorem retains_clearHistory (l : LaneId) : s.Retains (s.clearHistory l) :=
  (Retains.modLane s l (f := fun v => { v with history := [] }) fun _ => rfl).trans (.of_keeps (s.keeps_clearHistory l))

theorem retains_enterFaulted (l : LaneId) : s.Retains (s.enterFaulted l) :=
  (s.retains_setLaneState l .faulted).trans <| (retains_withdraw _ l).trans <| (retains_setLink _ _).trans <|
    (Retains.of_keeps (keeps_restoreData _ _)).trans <| (Retains.of_keeps (Keeps.foldl keeps_dropQuietly _ _)).trans <|
    (retains_clearHistory _ l).trans <| .of_keeps <|
    (keeps_emptyNotices _ l).trans <| (keeps_rehomeAll _ l).trans (keeps_raise _ _)

theorem retains_faultIfDue (l : LaneId) : s.Retains (s.faultIfDue l) := by
  unfold State.faultIfDue
  split
  · exact s.retains_enterFaulted l
  · exact .refl s

/-- A span skipped no longer waits, and its lane has one drop more, to at most 15. -/
theorem skipSpan_spec (w : WaitingSpan) : (s.skipSpan w).builder.draft = s.builder.draft ∧ w ∉ (s.skipSpan w).builder.waiting ∧
    ((s.skipSpan w).lane w.lane).drops = min ((s.lane w.lane).drops + 1) 15 := by
  let c := State.countDrop
    { s with builder := { s.builder with waiting := s.builder.waiting.filter (fun v => v ≠ w) } } w.lane
  have tail : c.Retains (s.skipSpan w) := (Retains.of_keeps (keeps_raise c _)).trans (retains_faultIfDue _ w.lane)
  refine ⟨tail.draft, fun mem => ?_, (tail.drops w.lane).trans ?_⟩
  · have old := tail.waiting w mem
    simp [c, State.countDrop] at old
  · simp only [c, State.countDrop, lane_modLane_same]
    rfl

end

end

end State

end Sys2Proof.Machine
end

section
/-! PROOFS. BUILD_BEGIN of a span that is built (R115, R139): the values read from the lane and the Claim Controller, the due
queue and the notice queue read with every station check passing. -/

namespace Sys2Proof.Machine

/-! ### Values read (R32, R110) -/

theorem ceilLog2_eq {T e : Nat} (below : e < 64) (reaches : T ≤ 2 ^ e) (least : ∀ n, n < e → 2 ^ n < T) : ceilLog2 T = e := by
  have found : (List.range' 0 64).find? (fun e => decide (T ≤ 2 ^ e)) = some e := by
    refine List.find?_range'_eq_some.2 ⟨by simpa using reaches, List.mem_range'_1.2 ⟨Nat.zero_le e, by omega⟩, fun n _ hn => ?_⟩
    simpa using least n hn
  rw [ceilLog2, found, Option.getD_some]

/-- One LIVE lane's watermark joins the serial minimum (R32). -/
def ackStep (s : State) (c : Option Time) (l : LaneId) : Option Time :=
  match c with
  | none => some (s.rx l).watermark
  | some t => some (if earlier (s.rx l).watermark t then (s.rx l).watermark else t)

/-- A serial minimum is one of its arguments, and not later than any of them. -/
theorem ackStep_foldl (s : State) (ls : List LaneId) (t : Time) : ∃ x, ls.foldl (ackStep s) (some t) = some x ∧
    (x = t ∨ ∃ l ∈ ls, x = (s.rx l).watermark) ∧
    ∀ base : Time, (t - base).toNat < 2 ^ 31 → (∀ l ∈ ls, ((s.rx l).watermark - base).toNat < 2 ^ 31) →
      (x - base).toNat ≤ (t - base).toNat ∧ ∀ l ∈ ls, (x - base).toNat ≤ ((s.rx l).watermark - base).toNat := by
  induction ls generalizing t with
  | nil => exact ⟨t, rfl, .inl rfl, fun _ _ _ => ⟨le_rfl, fun _ => nofun⟩⟩
  | cons l rest ih =>
    obtain ⟨x, eq, mem, least⟩ := ih (if earlier (s.rx l).watermark t then (s.rx l).watermark else t)
    refine ⟨x, eq, ?_, fun base near nears => ?_⟩
    · rcases mem with rfl | ⟨m, hm, rfl⟩
      · split
        · exact .inr ⟨l, List.mem_cons_self, rfl⟩
        · exact .inl rfl
      · exact .inr ⟨m, List.mem_cons_of_mem _ hm, rfl⟩
    · have nearl := nears l List.mem_cons_self
      have order := earlier_iff nearl near
      have best : ((if earlier (s.rx l).watermark t then (s.rx l).watermark else t) - base).toNat ≤ (t - base).toNat ∧
          ((if earlier (s.rx l).watermark t then (s.rx l).watermark else t) - base).toNat ≤
            ((s.rx l).watermark - base).toNat := by
        split
        · exact ⟨(order.1 ‹_›).le, le_rfl⟩
        · exact ⟨le_rfl, Nat.not_lt.1 fun less => absurd (order.2 less) ‹_›⟩
      obtain ⟨head, others⟩ := least base (lt_of_le_of_lt best.1 near) fun m hm => nears m (List.mem_cons_of_mem _ hm)
      refine ⟨head.trans best.1, fun m hm => ?_⟩
      rcases List.mem_cons.1 hm with rfl | later
      · exact head.trans best.2
      · exact others m later

/-- The acknowledgement point is the serial minimum of the LIVE lanes' watermarks, of which there is one (R32). -/
theorem ackPoint_spec {s : State} {own : LaneId} (live : (s.lane own).state = .live) (t : Time) :
    (∃ l, (s.lane l).state = .live ∧ ackPoint s t = (s.rx l).watermark) ∧
    ∀ base : Time, (∀ l : LaneId, (s.lane l).state = .live → ((s.rx l).watermark - base).toNat < 2 ^ 31) →
      ∀ l : LaneId, (s.lane l).state = .live → (ackPoint s t - base).toNat ≤ ((s.rx l).watermark - base).toNat := by
  have mem : ∀ l, l ∈ allLanes.filter s.isLive ↔ (s.lane l).state = .live := by
    intro l
    simp [List.mem_filter, mem_allLanes, State.isLive]
  obtain ⟨l, rest, eq⟩ := List.exists_cons_of_ne_nil (List.ne_nil_of_mem ((mem own).2 live))
  rw [eq] at mem
  obtain ⟨x, found, one, least⟩ := ackStep_foldl s rest (s.rx l).watermark
  have point : ackPoint s t = x := by
    have fold : ackPoint s t = ((allLanes.filter s.isLive).foldl (ackStep s) none).getD t := rfl
    rw [fold, eq, List.foldl_cons]
    exact congrArg (Option.getD · t) found
  rw [point]
  constructor
  · rcases one with rfl | ⟨m, hm, rfl⟩
    · exact ⟨l, (mem l).1 List.mem_cons_self, rfl⟩
    · exact ⟨m, (mem m).1 (List.mem_cons_of_mem _ hm), rfl⟩
  · intro base near m hm
    obtain ⟨head, others⟩ := least base (near l ((mem l).1 List.mem_cons_self)) fun m hm =>
      near m ((mem m).1 (List.mem_cons_of_mem _ hm))
    rcases List.mem_cons.1 ((mem m).2 hm) with rfl | later
    · exact head
    · exact others m later

/-! ### Drafts at build begin -/

/-- The drafts agree but for the candidates, the notices, the names and the reads. -/
def Draft.Gathered (d e : Draft) : Prop :=
  e = { d with
    candidates := e.candidates, notices := e.notices, namedStations := e.namedStations, readStations := e.readStations
    readStreams := e.readStreams }

theorem Draft.Gathered.refl (d : Draft) : d.Gathered d := rfl

theorem Draft.Gathered.trans {d e f : Draft} (h : d.Gathered e) (k : e.Gathered f) : d.Gathered f := by
  unfold Draft.Gathered at *
  rw [k, h]

theorem Draft.Reread.gathered {d e : Draft} (h : d.Reread e) : d.Gathered e := by
  rw [h]
  rfl

theorem Draft.Gathered.lane {d e : Draft} (h : d.Gathered e) : e.lane = d.lane := by rw [h]

theorem Draft.Gathered.setup {d e : Draft} (h : d.Gathered e) : e.setup = d.setup := by rw [h]

theorem Draft.Reread.candidates {d e : Draft} (h : d.Reread e) : e.candidates = d.candidates := by rw [h]

theorem Draft.Reread.notices {d e : Draft} (h : d.Reread e) : e.notices = d.notices := by rw [h]

/-- A station is taken as an alignment candidate (R60). -/
def Draft.takeCandidate (d : Draft) (t : Nat) : Draft := { d with candidates := d.candidates ++ [t] }.nameStation t

/-- A notice is taken for the plan (R129). -/
def Draft.takeNotice (d : Draft) (b : NoticeBody) : Draft := { d with notices := d.notices ++ [b] }.nameStation b.tag

theorem Draft.gathered_takeCandidate (d : Draft) (t : Nat) : d.Gathered (d.takeCandidate t) := rfl

theorem Draft.gathered_takeNotice (d : Draft) (b : NoticeBody) : d.Gathered (d.takeNotice b) := rfl

theorem Draft.takeCandidate_candidates (d : Draft) (t : Nat) : (d.takeCandidate t).candidates = d.candidates ++ [t] := rfl

theorem Draft.takeCandidate_notices (d : Draft) (t : Nat) : (d.takeCandidate t).notices = d.notices := rfl

theorem Draft.takeNotice_notices (d : Draft) (b : NoticeBody) : (d.takeNotice b).notices = d.notices ++ [b] := rfl

theorem Draft.takeNotice_candidates (d : Draft) (b : NoticeBody) : (d.takeNotice b).candidates = d.candidates := rfl

/-- The first elements of a filtered list, one element more being offered. -/
theorem take_filter_cons {α : Type} (p : α → Bool) (a : α) (l : List α) (n : Nat) :
    ((a :: l).filter p).take (n + 1) = if p a then a :: (l.filter p).take n else (l.filter p).take (n + 1) := by
  rw [List.filter_cons]
  split <;> rfl

namespace State

section
variable {s : State} {d : Draft}

/-! ### The alignment candidates (R60) -/

theorem considerCandidate_passes {t : Nat} (checks : (s.station t).checks = true) : ∃ e, d.Gathered e ∧
    (s.setDraft (some d)).considerCandidate t = s.setDraft (some e) ∧ e.notices = d.notices ∧
    e.candidates = if d.setup.Umax ≤ d.candidates.length then d.candidates else
      d.candidates ++ if (s.station t).candidateOn d.lane then [t] else [] := by
  have unfolded : (s.setDraft (some d)).considerCandidate t = if d.setup.Umax ≤ d.candidates.length then s.setDraft (some d) else
      if (((s.setDraft (some d)).buildReadStation t).station t).candidateOn d.lane then
        ((s.setDraft (some d)).buildReadStation t).modDraft fun d => d.takeCandidate t
      else (s.setDraft (some d)).buildReadStation t := rfl
  obtain ⟨e, read, eq⟩ := buildReadStation_passes (d := d) checks
  have same : (s.setDraft (some e)).station t = s.station t := rfl
  rw [unfolded, eq, same, modDraft_setDraft]
  split
  · exact ⟨d, .refl d, rfl, rfl, rfl⟩
  · split
    · refine ⟨e.takeCandidate t, read.gathered.trans (e.gathered_takeCandidate t), rfl, ?_, ?_⟩
      · rw [Draft.takeCandidate_notices, read.notices]
      · rw [Draft.takeCandidate_candidates, read.candidates]
    · exact ⟨e, read.gathered, rfl, read.notices, by rw [read.candidates, List.append_nil]⟩

/-- The due queue is read up to Umax candidates. -/
theorem considerCandidates_pass (checks : ∀ t, (s.station t).checks = true) (ts : List Nat) (m : Nat)
    (room : d.setup.Umax = d.candidates.length + m) : ∃ e, d.Gathered e ∧
    ts.foldl State.considerCandidate (s.setDraft (some d)) = s.setDraft (some e) ∧ e.notices = d.notices ∧
    e.candidates = d.candidates ++ (ts.filter fun t => (s.station t).candidateOn d.lane).take m := by
  induction ts generalizing d m with
  | nil => exact ⟨d, .refl d, rfl, rfl, by simp⟩
  | cons t rest ih =>
    obtain ⟨e, gathered, eq, notices, candidates⟩ := considerCandidate_passes (d := d) (checks t)
    rw [List.foldl_cons, eq]
    cases m with
    | zero =>
      rw [if_pos (by omega)] at candidates
      obtain ⟨f, gathered', eq', notices', candidates'⟩ := ih (d := e) 0 (by rw [gathered.setup, candidates, room])
      exact ⟨f, gathered.trans gathered', eq', notices'.trans notices, by rw [candidates', candidates]; simp⟩
    | succ m =>
      rw [if_neg (by omega)] at candidates
      rw [take_filter_cons]
      split at candidates
      · rename_i fits
        obtain ⟨f, gathered', eq', notices', candidates'⟩ := ih (d := e) m (by
          rw [gathered.setup, candidates, List.length_append, List.length_singleton]
          omega)
        refine ⟨f, gathered.trans gathered', eq', notices'.trans notices, ?_⟩
        rw [candidates', candidates, gathered.lane, if_pos fits, List.append_assoc]
        rfl
      · rename_i fits
        rw [List.append_nil] at candidates
        obtain ⟨f, gathered', eq', notices', candidates'⟩ := ih (d := e) (m + 1) (by rw [gathered.setup, candidates, room])
        refine ⟨f, gathered.trans gathered', eq', notices'.trans notices, ?_⟩
        rw [candidates', candidates, gathered.lane, if_neg fits]

/-! ### The notices (R129) -/

/-- From `s` to `t` notices of one lane alone are taken by the build: none comes, goes, or has its mark changed. -/
structure TakesNotices (l : LaneId) (s t : State) : Prop where
  rest : t = { s with lanes := t.lanes }
  other : ∀ m, m ≠ l → t.lane m = s.lane m
  same : t.lane l = { s.lane l with notices := (t.lane l).notices }
  notices : (t.lane l).notices.map (fun n => (n.body, n.mark)) = (s.lane l).notices.map fun n => (n.body, n.mark)

namespace TakesNotices

variable {l : LaneId} {s t u : State}

theorem refl (l : LaneId) (s : State) : TakesNotices l s s := ⟨rfl, fun _ _ => rfl, rfl, rfl⟩

theorem trans (h : TakesNotices l s t) (k : TakesNotices l t u) : TakesNotices l s u where
  rest := by rw [k.rest, h.rest]
  other m ne := (k.other m ne).trans (h.other m ne)
  same := by rw [k.same, h.same]
  notices := k.notices.trans h.notices

theorem station (h : TakesNotices l s t) (k : Nat) : t.station k = s.station k := by
  rw [h.rest]
  rfl

end TakesNotices

theorem takeFirst_map (n : Notice) (l : List Notice) :
    (takeFirst n l).map (fun n => (n.body, n.mark)) = l.map fun n => (n.body, n.mark) := by
  induction l with
  | nil => rfl
  | cons m rest ih =>
    rw [takeFirst]
    split
    · rfl
    · rw [List.map_cons, ih, List.map_cons]

/-- The first notice equal to `n` is no later than one that stands before `rest`. -/
theorem takeFirst_append (n : Notice) (before rest : List Notice) :
    ∃ before', takeFirst n (before ++ n :: rest) = before' ++ rest := by
  induction before with
  | nil => exact ⟨[{ n with taken := true }], if_pos rfl⟩
  | cons m before ih =>
    obtain ⟨before', eq⟩ := ih
    rw [List.cons_append, takeFirst, eq]
    split
    · exact ⟨{ m with taken := true } :: (before ++ [n]), by simp⟩
    · exact ⟨m :: before', rfl⟩

theorem takesNotices_takeFirst (l : LaneId) (s : State) (n : Notice) :
    TakesNotices l s (s.modLane l fun v => { v with notices := takeFirst n v.notices }) where
  rest := rfl
  other _ ne := lane_modLane_other s l _ _ ne
  same := by rw [lane_modLane_same]
  notices := by
    rw [lane_modLane_same]
    exact takeFirst_map n _

/-- The notice is one the plan may carry: unmarked, its station not QUARANTINED. -/
def carries (s : State) (n : Notice) : Bool := n.mark.isNone && (s.station n.body.tag).state != .quarantined

theorem considerNotice_passes {n : Notice} (checks : (s.station n.body.tag).checks = true) {before rest : List Notice}
    (queue : (s.lane d.lane).notices = before ++ n :: rest) : ∃ (e : Draft) (t : State), d.Gathered e ∧ TakesNotices d.lane s t ∧
    (s.setDraft (some d)).considerNotice n = t.setDraft (some e) ∧ (∃ before', (t.lane d.lane).notices = before' ++ rest) ∧
    e.candidates = d.candidates ∧
    e.notices = if 24 ≤ d.notices.length then d.notices else d.notices ++ if s.carries n then [n.body] else [] := by
  have unfolded : (s.setDraft (some d)).considerNotice n =
      if n.mark.isSome ∨ Config.planNotices ≤ d.notices.length then s.setDraft (some d) else
        if (((s.setDraft (some d)).buildReadStation n.body.tag).station n.body.tag).state = .quarantined ∨
          n ∉ (((s.setDraft (some d)).buildReadStation n.body.tag).lane d.lane).notices
        then (s.setDraft (some d)).buildReadStation n.body.tag
        else (((s.setDraft (some d)).buildReadStation n.body.tag).modDraft fun d => d.takeNotice n.body).modLane d.lane fun v =>
            { v with notices := takeFirst n v.notices } := rfl
  obtain ⟨e, read, eq⟩ := buildReadStation_passes (d := d) checks
  have station : (s.setDraft (some e)).station n.body.tag = s.station n.body.tag := rfl
  have lane : (s.setDraft (some e)).lane d.lane = s.lane d.lane := rfl
  have shorter : ∃ before', (s.lane d.lane).notices = before' ++ rest := ⟨before ++ [n], by simp [queue]⟩
  have mem : n ∈ (s.lane d.lane).notices := by simp [queue]
  rw [unfolded, eq, station, lane, modDraft_setDraft]
  have many : Config.planNotices = 24 := rfl
  split
  · rename_i skip
    refine ⟨d, s, .refl d, .refl _ s, rfl, shorter, rfl, ?_⟩
    split
    · rfl
    · have marked := skip.resolve_right ‹_›
      simp [carries, Option.isNone_iff_eq_none, Option.isSome_iff_ne_none.1 marked]
  · rename_i open_
    rw [not_or, many] at open_
    rw [if_neg open_.2]
    have unmarked : n.mark.isNone = true := by simpa using open_.1
    split
    · rename_i skip
      have quarantined := skip.resolve_right (not_not.2 mem)
      exact ⟨e, s, read.gathered, .refl _ s, rfl, shorter, read.candidates, by simp [read.notices, carries, quarantined]⟩
    · rename_i take
      rw [not_or] at take
      obtain ⟨before', taken⟩ := takeFirst_append n before rest
      refine ⟨e.takeNotice n.body, s.modLane d.lane fun v => { v with notices := takeFirst n v.notices },
        read.gathered.trans (e.gathered_takeNotice n.body), takesNotices_takeFirst _ s n, rfl, ⟨before', ?_⟩,
        e.takeNotice_candidates n.body ▸ read.candidates, ?_⟩
      · rw [lane_modLane_same, queue]
        exact taken
      · simp [Draft.takeNotice_notices, read.notices, carries, unmarked, take.1]

/-- The notice queue is read up to 24 notices. -/
theorem considerNotices_pass (checks : ∀ t, (s.station t).checks = true) (ns before : List Notice)
    (queue : (s.lane d.lane).notices = before ++ ns) (m : Nat) (room : 24 = d.notices.length + m) :
    ∃ (e : Draft) (t : State), d.Gathered e ∧ TakesNotices d.lane s t ∧
      ns.foldl State.considerNotice (s.setDraft (some d)) = t.setDraft (some e) ∧ e.candidates = d.candidates ∧
      e.notices = d.notices ++ ((ns.filter s.carries).take m).map (·.body) := by
  induction ns generalizing s d before m with
  | nil => exact ⟨d, s, .refl d, .refl _ s, rfl, rfl, by simp⟩
  | cons n rest ih =>
    obtain ⟨e, t, gathered, takes, eq, ⟨before', queue'⟩, candidates, notices⟩ := considerNotice_passes (checks n.body.tag) queue
    have carries' : t.carries = s.carries := funext fun n => by rw [carries, takes.station, carries]
    have checks' : ∀ k, (t.station k).checks = true := fun k => by rw [takes.station, checks]
    rw [← gathered.lane] at takes queue'
    have done : ∀ m', 24 = e.notices.length + m' →
        d.notices ++ (((n :: rest).filter s.carries).take m).map (·.body) =
          e.notices ++ ((rest.filter s.carries).take m').map (·.body) → ∃ (f : Draft) (u : State), d.Gathered f ∧
        TakesNotices d.lane s u ∧ (n :: rest).foldl State.considerNotice (s.setDraft (some d)) = u.setDraft (some f) ∧
        f.candidates = d.candidates ∧
        f.notices = d.notices ++ (((n :: rest).filter s.carries).take m).map (·.body) := by
      intro m' room' same
      obtain ⟨f, u, gathered', takes', eq', candidates', notices'⟩ := ih checks' before' queue' m' room'
      refine ⟨f, u, gathered.trans gathered', gathered.lane ▸ takes.trans takes', ?_, candidates'.trans candidates, ?_⟩
      · rw [List.foldl_cons, eq, eq']
      · rw [notices', carries', same]
    cases m with
    | zero =>
      rw [if_pos (by omega)] at notices
      exact done 0 (by rw [notices, room]) (by simp [notices])
    | succ m =>
      rw [if_neg (by omega)] at notices
      rw [take_filter_cons] at done ⊢
      split at notices
      · rename_i some_
        refine done m (by rw [notices]; simp; omega) ?_
        simp [some_, notices]
      · rename_i none_
        refine done (m + 1) (by rw [notices]; simpa using room) ?_
        simp [none_, notices]

end

end State

end Sys2Proof.Machine
end

section
/-! PROOFS. BUILD_BEGIN settled (R115, R129, R137 to R139): what a build that begins makes of the state, and the obligation. -/

namespace Sys2Proof.Machine

namespace State

/-! ### The steps of a build begin -/

/-- The state a build begins in, but for its draft: the span no longer waits, and no join is noted. -/
def opened (s : State) (w : WaitingSpan) : State :=
  { s with builder := { waiting := s.builder.waiting.filter (· ≠ w), draft := none } }.setJoined w.lane []

def gatherCandidates (s : State) : State := s.align.dueQueue.foldl State.considerCandidate s

def gatherNotices (l : LaneId) (s : State) : State := (s.lane l).notices.foldl State.considerNotice s

def gatherVisits (l : LaneId) (s : State) : State := s.modDraft fun d => { d with visits := s.visitOrder l }

theorem beginBuild_eq (s : State) (w : WaitingSpan) : s.beginBuild w =
    (((s.opened w).setDraft (some (s.openDraft w))).gatherCandidates.gatherNotices w.lane).gatherVisits w.lane := rfl

section
variable {s : State} {w : WaitingSpan}

theorem gatherVisits_setDraft (l : LaneId) (s : State) (d : Draft) :
    (s.setDraft (some d)).gatherVisits l = s.setDraft (some { d with visits := s.visitOrder l }) := rfl

theorem TakesNotices.visitOrder {t : State} (h : TakesNotices w.lane (s.opened w) t) (l : LaneId) :
    t.visitOrder l = s.visitOrder l := by
  rw [h.rest]
  rfl

/-- A build that begins with every station check passing gathers its candidates, notices and visits in the opened draft, and
takes notices of its lane (R139). -/
theorem beginBuild_passes (checks : ∀ t, (s.station t).checks = true) : ∃ (d : Draft) (t : State),
    (s.openDraft w).Gathered d ∧ TakesNotices w.lane (s.opened w) t ∧
    s.beginBuild w = t.setDraft (some { d with visits := s.visitOrder w.lane }) ∧
    d.candidates = (s.align.dueQueue.filter fun t => (s.station t).candidateOn w.lane).take (s.setupOf w.lane).Umax ∧
    d.notices = (((s.lane w.lane).notices.filter s.carries).take 24).map (·.body) := by
  have checks' : ∀ t, ((s.opened w).station t).checks = true := checks
  obtain ⟨e, gathered, eq, notices, candidates⟩ := considerCandidates_pass (s := s.opened w) (d := s.openDraft w) checks'
    s.align.dueQueue (s.setupOf w.lane).Umax (Nat.zero_add _).symm
  have lane : e.lane = w.lane := gathered.lane
  have queue : ((s.opened w).lane e.lane).notices = [] ++ (s.lane w.lane).notices := by
    rw [lane]
    rfl
  obtain ⟨f, t, gathered', takes, eq', candidates', notices'⟩ := considerNotices_pass (s := s.opened w) (d := e) checks'
    (s.lane w.lane).notices [] queue 24 (by rw [notices]; rfl)
  have first : ((s.opened w).setDraft (some (s.openDraft w))).gatherCandidates = (s.opened w).setDraft (some e) := eq
  have second : ((s.opened w).setDraft (some e)).gatherNotices w.lane = t.setDraft (some f) := eq'
  rw [lane] at takes
  refine ⟨f, t, gathered.trans gathered', takes, ?_, ?_, ?_⟩
  · rw [beginBuild_eq, first, second, gatherVisits_setDraft, takes.visitOrder]
  · rw [candidates', candidates]
    rfl
  · rw [notices', notices]
    rfl

theorem candidateOn_eq (e : StationEntry) (l : LaneId) : e.candidateOn l = decide (e.home = l ∧
    e.state ∈ [StationState.aligning, .lapsed, .ready, .active, .held] ∧ e.outstanding = none ∧ e.verdictWaiting = false ∧
    e.paused = false) := by
  have kept : e.state.kept = true ↔ e.state ∈ [StationState.aligning, .lapsed, .ready, .active, .held] := by
    cases e.state <;> decide
  rw [StationEntry.candidateOn, Bool.eq_iff_iff]
  simp only [Bool.and_eq_true, beq_iff_eq, kept, Option.isNone_iff_eq_none, Bool.not_eq_true', decide_eq_true_eq, and_assoc]

theorem visitOrder_eq (s : State) (l : LaneId) :
    s.visitOrder l = ([3, 2, 1, 0] : List (Fin 4)).flatMap fun k => (s.list l k).map fun i => (k, i) := rfl

/-- What the opened draft fixes, a draft gathered from it holds (R115). -/
theorem gathered_openDraft {d : Draft} {u : LaneSetup} (h : (s.openDraft w).Gathered d) (setup : s.setupOf w.lane = u) :
    d.lane = w.lane ∧ d.index = w.index ∧ d.setup = u ∧ d.start = w.start ∧ d.startQ = w.index * BitVec.ofNat 32 u.S ∧
    d.bs = (s.claim w.lane).settings.bs ∧ d.target = (s.claim w.lane).target.getD 0 ∧ d.be = backoffEnd d.bs d.target ∧
    d.creditUnit = s.align.settings.creditUnit ∧ d.ack = ackPoint s (s.rx w.lane).watermark ∧ d.turns = [] ∧ d.data = [] ∧
    d.cadence = [] ∧ d.pendings = [] ∧ d.openWindow = false ∧ d.slips = 0 ∧ d.stage = .cadenced := by
  subst setup
  rw [h]
  exact ⟨rfl, rfl, rfl, rfl, rfl, rfl, rfl, rfl, rfl, rfl, rfl, rfl, rfl, rfl, rfl, rfl, rfl⟩

theorem backoffEnd_eq (bs : Nat) {T e : Nat} (below : e < 64) (reaches : T ≤ 2 ^ e) (least : ∀ n, n < e → 2 ^ n < T) :
    backoffEnd bs T = max bs (min 10 (e + 1)) := by
  rw [backoffEnd, ceilLog2_eq below reaches least]

/-- What a build that begins leaves as it was. -/
theorem beginBuild_frame {t : State} (h : TakesNotices w.lane (s.opened w) t) (d : Draft) :
    (t.setDraft (some d)).builder = { waiting := s.builder.waiting.filter (fun v => v ≠ w), draft := some d } ∧
    t.stations = s.stations ∧ t.streams = { s.streams with joined := s.streams.joined.set w.lane [] } ∧ t.refs = s.refs ∧
    t.link = s.link ∧ t.claims = s.claims ∧ t.ports = s.ports ∧ t.port = s.port ∧ t.align = s.align := by
  rw [h.rest]
  exact ⟨rfl, rfl, rfl, rfl, rfl, rfl, rfl, rfl, rfl⟩

/-! ### What BUILD_BEGIN does -/

theorem takeSpan_idle (idle : s.builder.draft = none) (none_ : s.nextSpan = none) : s.takeSpan = s := by
  rw [State.takeSpan, idle, none_]

theorem takeSpan_next (idle : s.builder.draft = none) (next : s.nextSpan = some w) : s.takeSpan =
    if marginOf w.start s.now < (s.setupOf w.lane).Df then s.skipSpan w else s.beginBuild w := by
  rw [State.takeSpan, idle, next]

end

end State

end Sys2Proof.Machine

open Sys2Proof Sys2Proof.Machine

/-- Settles O46: the span chosen is a least one in serial order, a skip keeps the drop it counts through a fault of the lane, and
the reads of a build that begins write its draft and the taken marks of its lane's notices alone. -/
theorem buildBeginFixesTheDraft : Obligations.BuildBeginFixesTheDraft := by
  intro s pin idle eligible
  have run : exec .buildBegin s = .next s.takeSpan := s.unlessReset_free _ pin
  have ready : ∀ v, s.eligible v = true ↔ eligible v := State.eligible_iff idle
  refine ⟨fun none_ => ?_, fun ⟨v, waits, may⟩ => ?_, fun w u next setup => ⟨?_, fun late => ?_, fun early checks => ?_⟩⟩
  · rw [run, State.takeSpan_idle idle (State.nextSpan_of_none fun v hv may => none_ v hv ((ready v).1 may))]
  · obtain ⟨w, next, -⟩ := State.nextSpan_spec waits ((ready v).2 may)
    exact ⟨w, next⟩
  · obtain ⟨waits, may, least⟩ := State.nextSpan_eq_some next
    exact ⟨waits, (ready w).1 may, fun base near v hv may =>
      least base (fun v hv may => near v hv ((ready v).1 may)) v hv ((ready v).2 may)⟩
  all_goals
    have setupOf : s.setupOf w.lane = u := by rw [State.setupOf, setup, Option.getD_some]
    have margin : marginOf w.start s.now = (w.start - s.now).toInt := rfl
    rw [State.takeSpan_next idle next, setupOf, margin] at run
  · obtain ⟨draft, waiting, drops⟩ := s.skipSpan_spec w
    rw [if_pos late] at run
    exact ⟨_, run, draft.trans idle, waiting, drops⟩
  · obtain ⟨d, t, gathered, takes, eq, candidates, notices⟩ := s.beginBuild_passes (w := w) checks
    rw [if_neg (Int.not_lt.2 early), eq] at run
    have live := ((ready w).1 (State.nextSpan_eq_some next).2.1).1
    obtain ⟨acked, least⟩ := ackPoint_spec live (s.rx w.lane).watermark
    obtain ⟨lane, index, setup', start, startQ, bs, target, be, unit, ack, opened⟩ := State.gathered_openDraft gathered setupOf
    obtain ⟨turns, data, cadence, pendings, window, slips, stage⟩ := opened
    obtain ⟨builder, frame⟩ := State.beginBuild_frame takes { d with visits := s.visitOrder w.lane }
    obtain ⟨stations, streams, refs, link, claims, ports, port, align⟩ := frame
    rw [setupOf] at candidates
    rw [← ack] at acked least
    refine ⟨_, _, run, builder, lane, index, setup', start, startQ, bs, fun T hT => ?_, unit, least, acked, ?_, ?_,
      s.visitOrder_eq w.lane, turns, data, cadence, pendings, window, slips, stage, stations, streams, refs, link, claims, ports,
      port, align, takes.other, takes.same, takes.notices⟩
    · have exact_ : d.target = T := by rw [target, hT, Option.getD_some]
      exact ⟨exact_, fun e below reaches smaller => be.trans (exact_ ▸ State.backoffEnd_eq _ below reaches smaller)⟩
    · exact candidates.trans (by simp only [State.candidateOn_eq])
    · exact notices.trans List.map_take
end

section
/-! PROOFS. The events of the Plan Link that change the link alone (R143, R144, R148). -/

open Sys2Proof Sys2Proof.Machine

/-- Settles O52: each event is one record update; the expired mark is set exactly where `expirePlan` finds the plan due. -/
theorem planLinkEventsChangeTheLinkAlone : Obligations.PlanLinkEventsChangeTheLinkAlone := by
  intro s
  refine ⟨fun _ => rfl, fun pin =>
    s.unlessReset_free (fun s => { s with link := { s.link with sending := none } }) pin, fun l q u pin setup => ?_⟩
  have run : exec (.planExpiry l q) s = .next (State.expirePlan l q s) := s.unlessReset_free _ pin
  have setupOf : s.setupOf l = u := by rw [State.setupOf, setup, Option.getD_some]
  rw [run, State.expirePlan, setupOf]
  simp [tu, and_assoc]
end

section
/-! PROOFS. What a walk leaves of one entry: of a station, of a stream, of a reference count. -/

namespace Sys2Proof.Machine

/-! ### Walks -/

/-- A walk whose steps each write the one entry that their key names: an entry is left as the steps of its key have made it. -/
theorem foldl_read {α β : Type} {P : State → Prop} {F : State → α → State} {read : State → Nat → β} {key : α → Nat}
    {g : α → β → β}
    (step : ∀ s a, P s → P (F s a) ∧ ∀ i, read (F s a) i = if i = key a then g a (read s i) else read s i)
    (l : List α) {s : State} (hs : P s) : P (l.foldl F s) ∧
      ∀ i, read (l.foldl F s) i = (l.filter fun a => key a = i).foldl (fun e a => g a e) (read s i) := by
  induction l generalizing s with
  | nil => exact ⟨hs, fun _ => rfl⟩
  | cons a rest ih =>
    obtain ⟨kept, wrote⟩ := step s a hs
    obtain ⟨all, entry⟩ := ih kept
    refine ⟨all, fun i => ?_⟩
    rw [List.foldl_cons, entry, wrote]
    by_cases own : i = key a
    · rw [if_pos own, List.filter_cons_of_pos (by simpa using own.symm), List.foldl_cons]
    · rw [if_neg own, List.filter_cons_of_neg (by simpa using Ne.symm own)]

/-- The steps of a walk that do the same to an entry as often as they come. -/
theorem foldl_idem {α β : Type} {g : β → β} (idem : ∀ e, g (g e) = g e) (l : List α) (e : β) :
    l.foldl (fun e _ => g e) e = if l = [] then e else g e := by
  induction l generalizing e with
  | nil => rfl
  | cons a rest ih =>
    rw [List.foldl_cons, ih, idem, if_neg (List.cons_ne_nil a rest)]
    exact ite_self _

/-- A walk that does the same to the entry of each index it names. -/
theorem foldl_read_idem {β : Type} {P : State → Prop} {F : State → Nat → State} {read : State → Nat → β} {g : β → β}
    (idem : ∀ e, g (g e) = g e)
    (step : ∀ s k, P s → P (F s k) ∧ ∀ i, read (F s k) i = if i = k then g (read s i) else read s i)
    (l : List Nat) {s : State} (hs : P s) : P (l.foldl F s) ∧
      ∀ i, read (l.foldl F s) i = if i ∈ l then g (read s i) else read s i := by
  obtain ⟨all, entry⟩ := foldl_read (key := id) (g := fun _ => g) step l hs
  refine ⟨all, fun i => ?_⟩
  have named : l.filter (fun a => id a = i) = [] ↔ i ∉ l := by
    simp only [List.filter_eq_nil_iff, id_eq, decide_eq_true_eq]
    exact ⟨fun h hi => h i hi rfl, fun h a ha e => h (e ▸ ha)⟩
  rw [entry, foldl_idem idem]
  by_cases hi : i ∈ l
  · rw [if_neg (named.not.2 (not_not.2 hi)), if_pos hi]
  · rw [if_pos (named.2 hi), if_neg hi]

/-- A count that rises by one at each step of a walk and stops at its ceiling. -/
theorem foldl_satAdd {α : Type} (cap : Nat) (l : List α) (n : Nat) (h : l ≠ [] ∨ n ≤ cap) :
    l.foldl (fun n _ => satAdd cap n 1) n = min (n + l.length) cap := by
  induction l generalizing n with
  | nil => exact (Nat.min_eq_left (h.resolve_left (not_not.2 rfl))).symm
  | cons a rest ih =>
    have below : satAdd cap n 1 ≤ cap := Nat.min_le_right _ _
    rw [List.foldl_cons, ih _ (.inr below), List.length_cons, satAdd]
    omega

/-- A count that rises by one at each step of a walk. -/
theorem foldl_add {α : Type} (l : List α) (n : Nat) : l.foldl (fun n _ => n + 1) n = n + l.length := by
  induction l generalizing n with
  | nil => rfl
  | cons a rest ih =>
    rw [List.foldl_cons, ih, List.length_cons]
    omega

theorem length_filter_id (l : List Nat) (i : Nat) : (l.filter fun a => id a = i).length = l.count i := by
  rw [List.count_eq_length_filter]
  exact congrArg List.length (List.filter_congr fun _ _ => rfl)

/-! ### Entries that pass their check -/

theorem StationEntry.seal_of_checks {e : StationEntry} (h : e.checks = true) : e.seal = e := by
  have parity : e.parityOf = e.parity := (beq_iff_eq.1 h).symm
  rw [StationEntry.seal, parity]

/-- The tables are canonical, and every entry passes its check. -/
structure State.Clean (s : State) : Prop where
  canonical : s.tablesCanonical
  stations : ∀ t, (s.station t).checks = true
  streams : ∀ i, (s.stream i).checks = true

namespace State.Clean

variable {s t : State}

theorem stationsSound (h : s.Clean) : s.stationsSound := ⟨h.canonical.1, h.stations⟩

theorem streamsSound (h : s.Clean) : s.streamsSound := ⟨h.canonical.2.1, h.streams⟩

theorem of_tables (h : s.Clean) (stations : t.stations.entries = s.stations.entries) (streams : t.streams = s.streams)
    (refs : t.refs = s.refs) : t.Clean where
  canonical := by
    unfold State.tablesCanonical
    rw [stations, streams, refs]
    exact h.canonical
  stations k := by
    rw [State.station, stations]
    exact h.stations k
  streams i := by
    rw [State.stream_of_streams streams]
    exact h.streams i

theorem modStation (h : s.Clean) (k : Nat) (f : StationEntry → StationEntry) : (s.modStation k f).Clean :=
  ⟨State.modStation_canonical h.canonical k f, (h.stationsSound.modStation k f).2, h.streams⟩

theorem putStream (h : s.Clean) (i : Nat) (e : StreamEntry) : (s.putStream i e).Clean :=
  ⟨⟨h.canonical.1, s.putStream_wf i e h.canonical.2.1, h.canonical.2.2⟩, h.stations, (h.streamsSound.putStream i e).2⟩

theorem modStream (h : s.Clean) (i : Nat) (f : StreamEntry → StreamEntry) : (s.modStream i f).Clean := h.putStream i _

theorem of_relisted (h : s.Clean) (k : s.Relisted t) : t.Clean where
  canonical := by
    rw [k]
    exact h.canonical
  stations j := by rw [k.station, h.stations]
  streams i := by rw [k.stream, h.streams]

end State.Clean

/-! ### Marks set and cleared (R61) -/

theorem mem_alignTags {turns : List Turn} {k : Nat} : k ∈ alignTags turns ↔ ∃ x ∈ turns, x.kind = .align ∧ x.tag = k := by
  simp [alignTags, and_assoc]

theorem StationEntry.unmarked_unmarked (l : LaneId) (q : PlanSeq) (e : StationEntry) :
    (e.unmarked l q).unmarked l q = e.unmarked l q := by
  by_cases marked : e.outstanding = some (l, q)
  · have none_ := StationEntry.unmarked_outstanding marked
    rw [StationEntry.unmarked, none_, if_neg (by simp)]
  · have same : e.unmarked l q = e := if_neg marked
    rw [same, same]

theorem State.clearMark_restationed (s : State) (l : LaneId) (q : PlanSeq) (t : Nat) : s.Restationed (s.clearMark l q t) := by
  unfold State.clearMark
  split
  · exact .modStation s t _
  · rfl

/-- A mark read and cleared writes the one station entry, by `unmarked`. -/
theorem State.station_clearMark {s : State} (hs : s.tablesCanonical) (l : LaneId) (q : PlanSeq) (t k : Nat) :
    (s.clearMark l q t).station k = if k = t then (s.station k).unmarked l q else s.station k := by
  unfold State.clearMark
  by_cases marked : (s.station t).outstanding = some (l, q)
  · rw [if_pos marked, s.station_modStation t k _ hs.1]
    split
    · subst k
      exact (if_pos marked).symm
    · rfl
  · rw [if_neg marked]
    split
    · subst k
      exact (if_neg marked).symm
    · rfl

theorem State.Clean.clearMarkLink {s : State} (h : s.Clean) (l : LaneId) (q : PlanSeq) (t : Nat) :
    State.clearMarkLink l q s t = s.clearMark l q t ∧ (s.clearMark l q t).Clean := by
  refine ⟨by rw [State.clearMarkLink, s.checkStation_passes _ _ (h.stations t)], ?_⟩
  unfold State.clearMark
  split
  · exact h.modStation t _
  · exact h

end Sys2Proof.Machine
end

section
/-! PROOFS. The planned bytes of DATA turns given back, and their streams on their lists again (R90, R92). -/

namespace Sys2Proof.Machine

/-! ### Covers -/

/-- The covers of a stream among DATA turns. -/
def coversOf (data : List DataTurn) (i : Nat) : Nat := ((data.filter fun x => x.stream = i).map (·.cover)).sum

theorem coversOf_append (a b : List DataTurn) (i : Nat) : coversOf (a ++ b) i = coversOf a i + coversOf b i := by
  simp [coversOf]

/-- A stream without a DATA turn has no cover. -/
theorem coversOf_of_not_mem {data : List DataTurn} {i : Nat} (h : i ∉ data.map (·.stream)) : coversOf data i = 0 := by
  have none_ : data.filter (fun x => x.stream = i) = [] :=
    List.filter_eq_nil_iff.2 fun x hx e => h (List.mem_map.2 ⟨x, hx, of_decide_eq_true e⟩)
  rw [coversOf, none_]
  rfl

/-- Where no stream has two DATA turns, the one turn of a stream is all there is of it. -/
theorem filter_stream_of_nodup {data : List DataTurn} (nodup : (data.map (·.stream)).Nodup) {x : DataTurn} (hx : x ∈ data) :
    data.filter (fun y => y.stream = x.stream) = [x] := by
  induction data with
  | nil => cases hx
  | cons y rest ih =>
    obtain ⟨fresh, nodup'⟩ := List.nodup_cons.1 nodup
    rcases List.mem_cons.1 hx with rfl | later
    · rw [List.filter_cons_of_pos (by simp), List.filter_eq_nil_iff.2 fun z hz e =>
        fresh (List.mem_map.2 ⟨z, hz, of_decide_eq_true e⟩)]
    · rw [List.filter_cons_of_neg fun e => fresh (List.mem_map.2 ⟨x, later, (of_decide_eq_true e).symm⟩), ih nodup' later]

theorem coversOf_of_nodup {data : List DataTurn} (nodup : (data.map (·.stream)).Nodup) {x : DataTurn} (hx : x ∈ data) :
    coversOf data x.stream = x.cover := by
  rw [coversOf, filter_stream_of_nodup nodup hx]
  exact Nat.add_zero _

/-! ### Writes of stream entries alone -/

/-- The states agree but for the stream entries. -/
def State.Reentered (s t : State) : Prop := t = { s with streams := { s.streams with entries := t.streams.entries } }

namespace State.Reentered

variable {s t u : State}

theorem refl (s : State) : s.Reentered s := rfl

theorem trans (h : s.Reentered t) (k : t.Reentered u) : s.Reentered u := by
  unfold State.Reentered at *
  rw [k, h]

theorem modStream (s : State) (i : Nat) (f : StreamEntry → StreamEntry) : s.Reentered (s.modStream i f) := rfl

theorem restreamed (h : s.Reentered t) : s.Restreamed t := by
  unfold State.Restreamed
  rw [h]

theorem service (h : s.Reentered t) : t.streams.service = s.streams.service := by rw [h]
theorem list (h : s.Reentered t) (l : LaneId) (c : Fin 4) : t.list l c = s.list l c := by rw [h]; rfl
theorem stations (h : s.Reentered t) : t.stations = s.stations := by rw [h]

end State.Reentered

namespace State.Restreamed

variable {s t : State} (h : s.Restreamed t)
include h

theorem stations : t.stations = s.stations := by rw [h]
theorem refs : t.refs = s.refs := by rw [h]
theorem lanes : t.lanes = s.lanes := by rw [h]
theorem port : t.port = s.port := by rw [h]

end State.Restreamed

/-- The entry of a stream with planned bytes given back. -/
def StreamEntry.given (n : Nat) (e : StreamEntry) : StreamEntry := { e with G := e.G - n }

theorem StreamEntry.foldl_given (l : List DataTurn) {e : StreamEntry} (checks : e.checks = true) :
    l.foldl (fun e x => (e.given x.cover).seal) e = (e.given (l.map (·.cover)).sum).seal := by
  induction l generalizing e with
  | nil => exact (StreamEntry.seal_of_checks _ checks).symm
  | cons x rest ih =>
    have both : (e.given x.cover).seal.given (rest.map (·.cover)).sum =
        { (e.given x.cover).seal with G := e.G - (x.cover + (rest.map (·.cover)).sum) } := by
      rw [← Nat.sub_sub]
      rfl
    rw [List.foldl_cons, ih (StreamEntry.checks_seal _), both, List.map_cons, List.sum_cons]
    rfl

section
variable {s : State} (h : s.Clean)
include h

theorem State.Clean.givePlanned (x : DataTurn) : s.givePlanned x = s.modStream x.stream (.given x.cover) := by
  rw [State.givePlanned, s.checkStream_passes _ _ (h.streams x.stream)]
  rfl

/-- The covers of every stream are given back, and nothing but stream entries is written. -/
theorem State.Clean.givenAll (data : List DataTurn) :
    ((data.foldl State.givePlanned s).Clean ∧ s.Reentered (data.foldl State.givePlanned s)) ∧
      ∀ i, (data.foldl State.givePlanned s).stream i = ((s.stream i).given (coversOf data i)).seal := by
  have walk := foldl_read (P := fun t => t.Clean ∧ s.Reentered t) (F := State.givePlanned) (read := State.stream)
    (key := DataTurn.stream) (g := fun x e => (e.given x.cover).seal) (fun t x ⟨clean, frame⟩ => by
      rw [clean.givePlanned]
      refine ⟨⟨clean.modStream _ _, frame.trans (.modStream t _ _)⟩, fun i => ?_⟩
      rw [t.stream_modStream _ _ _ clean.canonical.2.1]
      split
      · subst i
        rfl
      · rfl) data ⟨h, State.Reentered.refl s⟩
  refine ⟨walk.1, fun i => ?_⟩
  rw [walk.2, StreamEntry.foldl_given _ (h.streams i)]
  rfl

end

/-! ### Streams that join their lists again -/

theorem mem_insertBy {key : Nat → Nat} {i j : Nat} {l : List Nat} : j ∈ insertBy key i l ↔ j = i ∨ j ∈ l := by
  induction l with
  | nil => simp [insertBy]
  | cons k rest ih =>
    unfold insertBy
    split
    · exact List.mem_cons
    · rw [List.mem_cons, ih, List.mem_cons, or_left_comm]

theorem State.mem_slotOrder {s : State} {l : List Nat} {j : Nat} : j ∈ s.slotOrder l ↔ j ∈ l := by
  unfold State.slotOrder
  induction l with
  | nil => rfl
  | cons i rest ih => rw [List.foldr_cons, mem_insertBy, ih, List.mem_cons]

/-- A stream whose available demand was 0 joins its class list on every lane of its set, if it may be listed. -/
theorem State.rejoinRaised_spec (old s : State) (i : Nat) : s.Relisted (State.rejoinRaised old s i) ∧
    ∀ j l c, j ∈ (State.rejoinRaised old s i).list l c ↔ j ∈ s.list l c ∨ (j = i ∧ (old.stream i).avail = 0 ∧
      s.listable i = true ∧ inSet (s.stream i).laneSet l = true ∧ c = (s.stream i).cls) := by
  unfold State.rejoinRaised
  split
  · rename_i raised
    refine ⟨.joinLists s i, fun j l c => ?_⟩
    rw [State.mem_joinLists]
    simp [raised]
  · rename_i out
    exact ⟨.refl s, fun j l c => ⟨.inl, fun h => h.resolve_right fun ⟨_, none_, may, _⟩ => out ⟨none_, may⟩⟩⟩

theorem State.foldl_rejoinRaised (old : State) (is : List Nat) (s : State) :
    s.Relisted (is.foldl (State.rejoinRaised old) s) ∧
    ∀ j l c, j ∈ (is.foldl (State.rejoinRaised old) s).list l c ↔ j ∈ s.list l c ∨ (j ∈ is ∧ (old.stream j).avail = 0 ∧
      s.listable j = true ∧ inSet (s.stream j).laneSet l = true ∧ c = (s.stream j).cls) := by
  induction is generalizing s with
  | nil => exact ⟨.refl s, fun j l c => by simp⟩
  | cons i rest ih =>
    obtain ⟨first, joined⟩ := State.rejoinRaised_spec old s i
    obtain ⟨later, joined'⟩ := ih (State.rejoinRaised old s i)
    rw [List.foldl_cons]
    refine ⟨first.trans later, fun j l c => ?_⟩
    rw [joined', joined, first.listable, first.stream, List.mem_cons]
    constructor
    · rintro ((on | ⟨rfl, rest_⟩) | ⟨mem, rest_⟩)
      exacts [.inl on, .inr ⟨.inl rfl, rest_⟩, .inr ⟨.inr mem, rest_⟩]
    · rintro (on | ⟨rfl | mem, rest_⟩)
      exacts [.inl (.inl on), .inl (.inr ⟨rfl, rest_⟩), .inr ⟨mem, rest_⟩]

/-- From `s` to `t` the planned bytes of DATA turns have been given back. -/
structure State.Restored (data : List DataTurn) (s t : State) : Prop where
  clean : t.Clean
  frame : s.Restreamed t
  stream : ∀ i, t.stream i = ((s.stream i).given (coversOf data i)).seal
  lists : ∀ j l c, j ∈ t.list l c ↔ j ∈ s.list l c ∨ (j ∈ data.map (·.stream) ∧ (s.stream j).avail = 0 ∧
    t.listable j = true ∧ inSet (s.stream j).laneSet l = true ∧ c = (s.stream j).cls)

theorem State.Clean.restoreData {s : State} (h : s.Clean) (data : List DataTurn) :
    State.Restored data s (s.restoreData data) := by
  obtain ⟨⟨clean, frame⟩, stream⟩ := h.givenAll data
  unfold State.restoreData
  dsimp only
  generalize data.foldl State.givePlanned s = g at clean frame stream
  obtain ⟨relisted, lists⟩ := State.foldl_rejoinRaised s (g.slotOrder (data.map (·.stream))) g
  refine ⟨clean.of_relisted relisted, frame.restreamed.trans (.of_relisted relisted), fun i => ?_, fun j l c => ?_⟩
  · rw [relisted.stream, stream]
  · rw [lists, frame.list, State.mem_slotOrder, relisted.listable, stream]
    rfl

end Sys2Proof.Machine
end

section
/-! PROOFS. What operations give back: the planned bytes of DATA turns, the marks of stations, and the references of stations and
streams (R9, R11, R53, R61, R90, R146). -/

namespace Sys2Proof.Machine

/-! ### Ledgers -/

/-- What an operation gives back. -/
@[ext] structure Ledger where
  data : List DataTurn := []
  marks : List (Nat × LaneId × PlanSeq) := []
  stations : List Nat := []
  streams : List Nat := []

/-- What two operations give back. -/
def Ledger.append (a b : Ledger) : Ledger :=
  ⟨a.data ++ b.data, a.marks ++ b.marks, a.stations ++ b.stations, a.streams ++ b.streams⟩

/-- What the operations of a walk give back. -/
def Ledger.flat {α : Type} (l : List α) (f : α → Ledger) : Ledger :=
  ⟨l.flatMap fun a => (f a).data, l.flatMap fun a => (f a).marks, l.flatMap fun a => (f a).stations,
    l.flatMap fun a => (f a).streams⟩

theorem Ledger.flat_nothing {α : Type} (l : List α) : Ledger.flat l (fun _ => {}) = {} := by
  ext1 <;> simp [Ledger.flat]

theorem Ledger.flat_marks {α : Type} (l : LaneId) (q : PlanSeq) (as : List α) (tag : α → Nat) :
    Ledger.flat as (fun a => { marks := [(tag a, l, q)] }) = { marks := as.map fun a => (tag a, l, q) } := by
  ext1 <;> simp [Ledger.flat, ← List.map_eq_flatMap]

theorem Ledger.flat_stations (ts : List Nat) : Ledger.flat ts (fun t => { stations := [t] }) = { stations := ts } := by
  ext1 <;> simp [Ledger.flat]

theorem Ledger.flat_streams (is : List Nat) : Ledger.flat is (fun i => { streams := [i] }) = { streams := is } := by
  ext1 <;> simp [Ledger.flat]

/-- Marks and references given back. -/
theorem Ledger.append_refs (marks : List (Nat × LaneId × PlanSeq)) (stations streams : List Nat) :
    Ledger.append { marks } { stations, streams } = { marks, stations, streams } := by
  ext1 <;> simp [Ledger.append]

/-- With no mark given back a mark stands. -/
theorem filter_unmarked (o : Option (LaneId × PlanSeq)) (k : Nat) :
    (o.filter fun m => decide ((k, m) ∉ ([] : List (Nat × LaneId × PlanSeq)))) = o := by
  cases o <;> rfl

/-- A mark that is not among those given back stands. -/
theorem filter_marked_other {o : Option (LaneId × PlanSeq)} {k : Nat} {marks : List (Nat × LaneId × PlanSeq)}
    (h : ∀ m, o = some m → (k, m) ∉ marks) : (o.filter fun m => decide ((k, m) ∉ marks)) = o := by
  cases o with
  | none => rfl
  | some m => exact Option.filter_some_pos (decide_eq_true (h m rfl))

/-- The mark of a station that is cleared. -/
theorem StationEntry.unmarked_mark (l : LaneId) (q : PlanSeq) (k : Nat) (e : StationEntry) :
    (e.unmarked l q).outstanding = e.outstanding.filter fun m => decide ((k, m) ∉ [(k, l, q)]) := by
  by_cases marked : e.outstanding = some (l, q)
  · rw [StationEntry.unmarked_outstanding marked, marked, Option.filter_some, if_neg (by simp)]
  · rw [StationEntry.unmarked, if_neg marked, filter_marked_other]
    rintro m hm own
    simp only [List.mem_singleton, Prod.mk.injEq, true_and] at own
    exact marked (by rw [hm, own])

/-- From `s` to `t` just what the ledger names has been given back: of the entries in use all else but the counts of slips is as
it was. -/
structure State.GivesBack (L : Ledger) (s t : State) : Prop where
  clean : t.Clean
  post : ∀ k, (s.station k).state.kept = true → (s.station k).SamePost (t.station k)
  mark : ∀ k, (s.station k).state.kept = true →
    (t.station k).outstanding = (s.station k).outstanding.filter fun m => decide ((k, m) ∉ L.marks)
  stationRefs : ∀ k, t.stationRefs k = s.stationRefs k - L.stations.count k
  streamRefs : ∀ i, t.streamRefs i = s.streamRefs i - L.streams.count i
  stream : ∀ i, (s.stream i).state = .inUse → t.stream i =
    { s.stream i with G := (s.stream i).G - coversOf L.data i, slips := (t.stream i).slips, parity := (t.stream i).parity }
  stays : ∀ i m c, (s.stream i).state = .inUse → i ∈ s.list m c → i ∈ t.list m c
  joins : ∀ i m, (s.stream i).state = .inUse → (s.stream i).kind = .bidding → s.ownerIs (s.stream i) .active = true →
    (s.stream i).D ≤ (s.stream i).G → (t.stream i).G < (t.stream i).D → inSet (s.stream i).laneSet m = true →
    i ∈ t.list m (s.stream i).cls

/-- An owner that is ACTIVE is the station that the stream records, in a state in use. -/
theorem State.ownerIs_active {s : State} {e : StreamEntry} (h : s.ownerIs e .active = true) :
    ∃ t k, e.owner = some (t, k) ∧ (s.station t).state = .active := by
  unfold State.ownerIs at h
  split at h
  · exact ⟨_, _, ‹_›, of_decide_eq_true h⟩
  · cases h

theorem State.ownerIs_of {s : State} {e : StreamEntry} {t : Nat} {k : Fin 8} {st : StationState} (owner : e.owner = some (t, k))
    (state : (s.station t).state = st) : s.ownerIs e st = true := by
  simp only [State.ownerIs, owner, state, decide_true]

namespace State.GivesBack

variable {L M : Ledger} {s t u : State}

/-- An operation that writes no table. -/
theorem of_tables (h : s.Clean) (stations : t.stations.entries = s.stations.entries) (streams : t.streams = s.streams)
    (refs : t.refs = s.refs) : State.GivesBack {} s t := by
  have station : ∀ k, t.station k = s.station k := fun k => by rw [State.station, State.station, stations]
  have stream := State.stream_of_streams streams
  have list : ∀ m c, t.list m c = s.list m c := fun m c => by rw [State.list, State.list, streams]
  exact {
    clean := h.of_tables stations streams refs
    post k _ := by rw [station]; exact .refl _
    mark k _ := by rw [station, filter_unmarked]
    stationRefs k := by rw [State.stationRefs, refs]; rfl
    streamRefs i := by rw [State.streamRefs, refs]; rfl
    stream i _ := by rw [stream]; rfl
    stays i m c _ on := by rwa [list]
    joins i m _ _ _ none_ some_ := by
      rw [stream] at some_
      exact absurd some_ (Nat.not_lt.2 none_) }

theorem refl (h : s.Clean) : State.GivesBack {} s s := of_tables h rfl rfl rfl

theorem kept (h : State.GivesBack L s t) {k : Nat} (hk : (s.station k).state.kept = true) :
    (t.station k).state.kept = true := by
  rw [(h.post k hk).state, hk]

theorem inUse (h : State.GivesBack L s t) {i : Nat} (hi : (s.stream i).state = .inUse) : (t.stream i).state = .inUse := by
  rw [h.stream i hi, hi]

theorem active (h : State.GivesBack L s t) {i : Nat} (hi : (s.stream i).state = .inUse)
    (owner : s.ownerIs (s.stream i) .active = true) : t.ownerIs (t.stream i) .active = true := by
  obtain ⟨k, n, names, state⟩ := State.ownerIs_active owner
  refine State.ownerIs_of (t := k) (k := n) (by rw [h.stream i hi]; exact names) ?_
  rw [(h.post k (by rw [state]; rfl)).state, state]

theorem trans (h : State.GivesBack L s t) (k : State.GivesBack M t u) : State.GivesBack (L.append M) s u where
  clean := k.clean
  post n hn := by
    obtain ⟨state, laneSet, home, paused⟩ := h.post n hn
    obtain ⟨state', laneSet', home', paused'⟩ := k.post n (h.kept hn)
    exact ⟨state'.trans state, laneSet'.trans laneSet, home'.trans home, paused'.trans paused⟩
  mark n hn := by
    rw [k.mark n (h.kept hn), h.mark n hn, Option.filter_filter]
    simp [Ledger.append]
  stationRefs n := by rw [k.stationRefs, h.stationRefs, Nat.sub_sub, ← List.count_append]; rfl
  streamRefs i := by rw [k.streamRefs, h.streamRefs, Nat.sub_sub, ← List.count_append]; rfl
  stream i hi := by
    rw [k.stream i (h.inUse hi), h.stream i hi, Ledger.append, coversOf_append, ← Nat.sub_sub]
  stays i m c hi on := k.stays i m c (h.inUse hi) (h.stays i m c hi on)
  joins i m hi bidding owner none_ some_ on := by
    have entry := h.stream i hi
    by_cases raised : (t.stream i).G < (t.stream i).D
    · exact k.stays i m _ (h.inUse hi) (h.joins i m hi bidding owner none_ raised on)
    · have later := k.joins i m (h.inUse hi) (by rw [entry, bidding]) (h.active hi owner) (Nat.not_lt.1 raised) some_
        (by rw [entry]; exact on)
      rwa [entry] at later

theorem then_nothing (h : State.GivesBack L s t) (k : State.GivesBack {} t u) : State.GivesBack L s u := by
  have both := h.trans k
  simpa [Ledger.append] using both

theorem nothing_then (h : State.GivesBack {} s t) (k : State.GivesBack L t u) : State.GivesBack L s u := h.trans k

theorem foldl {α : Type} {f : State → α → State} {L : α → Ledger}
    (step : ∀ (s : State) (a : α), s.Clean → State.GivesBack (L a) s (f s a)) (l : List α) (h : s.Clean) :
    State.GivesBack (Ledger.flat l L) s (l.foldl f s) := by
  induction l generalizing s with
  | nil => exact refl h
  | cons a rest ih =>
    have first := step s a h
    exact first.trans (ih first.clean)

theorem foldl_nothing {α : Type} {f : State → α → State}
    (step : ∀ (s : State) (a : α), s.Clean → State.GivesBack {} s (f s a)) (l : List α) (h : s.Clean) :
    State.GivesBack {} s (l.foldl f s) := Ledger.flat_nothing l ▸ foldl step l h

end State.GivesBack

namespace State.Clean

variable {s : State} (h : s.Clean)
include h

/-! ### Planned bytes -/

theorem gives_restoreData (data : List DataTurn) : State.GivesBack { data } s (s.restoreData data) := by
  have restored := h.restoreData data
  have station := State.station_of_stations restored.frame.stations
  exact {
    clean := restored.clean
    post k _ := by rw [station]; exact .refl _
    mark k _ := by rw [station, filter_unmarked]
    stationRefs k := by rw [State.stationRefs, restored.frame.refs]; rfl
    streamRefs i := by rw [State.streamRefs, restored.frame.refs]; rfl
    stream i _ := by rw [restored.stream]; rfl
    stays i m c _ on := (restored.lists i m c).2 (.inl on)
    joins i m hi bidding owner none_ some_ on := by
      refine (restored.lists i m _).2 (.inr ⟨?_, Nat.sub_eq_zero_of_le none_, ?_, on, rfl⟩)
      · by_contra out
        rw [restored.stream, coversOf_of_not_mem out] at some_
        exact absurd some_ (Nat.not_lt.2 none_)
      · obtain ⟨k, n, names, state⟩ := State.ownerIs_active owner
        have active : (s.restoreData data).ownerIs ((s.restoreData data).stream i) .active = true :=
          State.ownerIs_of (t := k) (k := n) (by rw [restored.stream]; exact names) (by rw [station, state])
        have inUse : ((s.restoreData data).stream i).state = .inUse := by rw [restored.stream]; exact hi
        have bids : ((s.restoreData data).stream i).kind = .bidding := by rw [restored.stream]; exact bidding
        simp only [State.listable, inUse, bids, active, StreamEntry.avail, Nat.sub_pos_of_lt some_, decide_true, Bool.and_true] }

/-- A write of a stream's count of slips. -/
theorem gives_slips (i n : Nat) : State.GivesBack {} s (s.modStream i fun e => { e with slips := n }) where
  clean := h.modStream i _
  post _ _ := .refl _
  mark _ _ := (filter_unmarked _ _).symm
  stationRefs _ := rfl
  streamRefs _ := rfl
  stream k _ := by
    rw [s.stream_modStream _ _ _ h.canonical.2.1]
    split
    · subst k
      rfl
    · rfl
  stays _ _ _ _ on := on
  joins k m _ _ _ none_ some_ := by
    rw [s.stream_modStream _ _ _ h.canonical.2.1] at some_
    split at some_
    · subst k
      exact absurd some_ (Nat.not_lt.2 none_)
    · exact absurd some_ (Nat.not_lt.2 none_)

theorem gives_loseCadence (l : LaneId) (i : Nat) : State.GivesBack {} s (State.loseCadence l s i) :=
  have wrote := h.gives_slips i (satAdd Config.slipMax (s.stream i).slips 1)
  wrote.then_nothing (.of_tables wrote.clean rfl rfl rfl)

/-! ### References -/

theorem of_refs {t : State} (stations : t.stations = s.stations) (streams : t.streams = s.streams)
    (wf : Table.wf 0 t.refs.stations = true ∧ Table.wf 0 t.refs.streams = true) : t.Clean where
  canonical := by
    unfold State.tablesCanonical
    rw [stations, streams]
    exact ⟨h.canonical.1, h.canonical.2.1, h.canonical.2.2.1, wf⟩
  stations k := by rw [State.station_of_stations stations, h.stations]
  streams i := by rw [State.stream_of_streams streams, h.streams]

/-- A write of one reference count, of a station or of a stream. -/
theorem gives_refs {L : Ledger} {t : State} (data : L.data = []) (marks : L.marks = []) (clean : t.Clean)
    (frame : t = { s with refs := t.refs })
    (stations : ∀ k, t.stationRefs k = s.stationRefs k - L.stations.count k)
    (streams : ∀ i, t.streamRefs i = s.streamRefs i - L.streams.count i) : State.GivesBack L s t := by
  have same := State.GivesBack.of_tables (t := { t with refs := s.refs }) h (by rw [frame]) (by rw [frame]) rfl
  exact {
    clean, stationRefs := stations, streamRefs := streams
    post := same.post
    mark := by rw [marks]; exact same.mark
    stream := by rw [data]; exact same.stream
    stays := same.stays
    joins := same.joins }

theorem gives_setStationRefs (k : Nat) :
    State.GivesBack { stations := [k] } s (s.setStationRefs k (s.stationRefs k - 1)) := by
  refine h.gives_refs rfl rfl (h.of_refs rfl rfl ⟨s.setStationRefs_wf _ _ h.canonical.2.2.2.1, h.canonical.2.2.2.2⟩) rfl
    (fun j => ?_) fun _ => rfl
  refine (Table.get_set 0 k j _ _ h.canonical.2.2.2.1).trans ?_
  rw [List.count_singleton]
  by_cases own : j = k
  · subst own
    simp
  · simp [own, Ne.symm own]
    rfl

theorem gives_setStreamRefs (k : Nat) :
    State.GivesBack { streams := [k] } s (s.setStreamRefs k (s.streamRefs k - 1)) := by
  refine h.gives_refs rfl rfl (h.of_refs rfl rfl ⟨h.canonical.2.2.2.1, s.setStreamRefs_wf _ _ h.canonical.2.2.2.2⟩) rfl
    (fun _ => rfl) fun j => ?_
  refine (Table.get_set 0 k j _ _ h.canonical.2.2.2.2).trans ?_
  rw [List.count_singleton]
  by_cases own : j = k
  · subst own
    simp
  · simp [own, Ne.symm own]
    rfl

/-- A station entry that becomes FREE was not in use, and no other entry is written. -/
theorem gives_settleStation (k : Nat) : State.GivesBack {} s (s.settleStation k) := by
  have quiet := h.stationsSound.quiet_settleStation k
  obtain ⟨-, streams, refs, -, -, others⟩ := State.settleStation_kept h.canonical k
  have outstanding : ∀ j, (s.station j).state.kept = true →
      ((s.settleStation k).station j).outstanding = (s.station j).outstanding := fun j hj => by
    by_cases own : j = k
    · subst own
      rw [State.settleStation, if_neg fun ⟨releasing, _⟩ => by rw [releasing] at hj; cases hj]
    · rw [others j own]
  have stream := State.stream_of_streams streams
  have list : ∀ m c, (s.settleStation k).list m c = s.list m c := fun m c => by rw [State.list, State.list, streams]
  exact {
    clean := ⟨by
      unfold State.tablesCanonical
      rw [streams, refs]
      exact ⟨quiet.sound.1, h.canonical.2⟩, quiet.sound.2, fun i => by rw [stream, h.streams]⟩
    post := quiet.post
    mark j hj := by rw [outstanding j hj, filter_unmarked]
    stationRefs j := by rw [State.stationRefs, refs]; rfl
    streamRefs i := by rw [State.streamRefs, refs]; rfl
    stream i _ := by rw [stream]; rfl
    stays i m c _ on := by rwa [list]
    joins i m _ _ _ none_ some_ := by
      rw [stream] at some_
      exact absurd some_ (Nat.not_lt.2 none_) }

/-- A stream entry that becomes FREE was not in use, and no other entry or place on a list is written. -/
theorem gives_settleStream (k : Nat) : State.GivesBack {} s (s.settleStream k) := by
  by_cases settles : (s.stream k).state = .retiring ∧ s.streamRefs k = 0 ∧ s.draftNamesStream k = false
  swap
  · rw [State.settleStream, if_neg settles]
    exact .refl h
  rw [State.settleStream, if_pos settles]
  have left := State.Relisted.leaveLists s k
  have frame := State.freeStream_restreamed s k
  have station := State.station_of_stations frame.stations
  have clean : (s.freeStream k).Clean := (h.of_relisted left).putStream k _
  have apart : ∀ i, (s.stream i).state = .inUse → i ≠ k := by
    rintro i hi rfl
    rw [settles.1] at hi
    cases hi
  have stream : ∀ i, (s.stream i).state = .inUse → (s.freeStream k).stream i = s.stream i := fun i hi => by
    rw [State.freeStream, State.stream_putStream _ _ _ _ (h.of_relisted left).canonical.2.1, if_neg (apart i hi), left.stream]
  exact {
    clean
    post j _ := by rw [station]; exact .refl _
    mark j _ := by rw [station, filter_unmarked]
    stationRefs j := by rw [State.stationRefs, frame.refs]; rfl
    streamRefs i := by rw [State.streamRefs, frame.refs]; rfl
    stream i hi := by rw [stream i hi]; rfl
    stays i m c hi on := by
      rw [State.freeStream, State.list_putStream, State.mem_leaveLists]
      exact ⟨on, apart i hi⟩
    joins i m hi _ _ none_ some_ := by
      rw [stream i hi] at some_
      exact absurd some_ (Nat.not_lt.2 none_) }

theorem gives_lowerStation (k : Nat) : State.GivesBack { stations := [k] } s (s.lowerStation k) :=
  have wrote := h.gives_setStationRefs k
  wrote.then_nothing (wrote.clean.gives_settleStation k)

theorem gives_lowerStream (i : Nat) : State.GivesBack { streams := [i] } s (s.lowerStream i) :=
  have wrote := h.gives_setStreamRefs i
  wrote.then_nothing (wrote.clean.gives_settleStream i)

theorem gives_lowerRefs (stations streams : List Nat) :
    State.GivesBack { stations, streams } s (s.lowerRefs stations streams) := by
  have first := State.GivesBack.foldl (fun _ k hs => hs.gives_lowerStation k) stations h
  have second := State.GivesBack.foldl (fun _ i hs => hs.gives_lowerStream i) streams first.clean
  rw [Ledger.flat_stations] at first
  rw [Ledger.flat_streams] at second
  have both : ({ stations } : Ledger).append { streams } = { stations, streams } := by ext1 <;> simp [Ledger.append]
  exact both ▸ first.trans second

theorem gives_settleNamed (d : Draft) : State.GivesBack {} s (s.settleNamed d) :=
  have first := State.GivesBack.foldl_nothing (fun _ k hs => hs.gives_settleStation k) d.namedStations h
  first.then_nothing (.foldl_nothing (fun _ i hs => hs.gives_settleStream i) d.namedStreams first.clean)

/-! ### Marks -/

/-- A write of one station entry that keeps its post. -/
theorem gives_modStation {L : Ledger} (data : L.data = []) (stations : L.stations = []) (streams : L.streams = []) (k : Nat)
    {f : StationEntry → StationEntry} (post : ∀ e : StationEntry, e.SamePost (f e))
    (mark : ∀ j, ((s.modStation k f).station j).outstanding =
      (s.station j).outstanding.filter fun m => decide ((j, m) ∉ L.marks)) : State.GivesBack L s (s.modStation k f) where
  clean := h.modStation k f
  post := (h.stationsSound.quiet_modStation post).post
  mark j _ := mark j
  stationRefs _ := by rw [stations]; rfl
  streamRefs _ := by rw [streams]; rfl
  stream _ _ := by rw [data]; rfl
  stays _ _ _ _ on := on
  joins _ _ _ _ _ none_ some_ := absurd some_ (Nat.not_lt.2 none_)

theorem gives_clearMarkLink (l : LaneId) (q : PlanSeq) (k : Nat) :
    State.GivesBack { marks := [(k, l, q)] } s (State.clearMarkLink l q s k) := by
  have outstanding : ∀ j, ((s.clearMark l q k).station j).outstanding =
      (s.station j).outstanding.filter fun m => decide ((j, m) ∉ [(k, l, q)]) := fun j => by
    rw [State.station_clearMark h.canonical]
    split
    · subst j
      exact StationEntry.unmarked_mark l q k _
    · exact (filter_marked_other (by simp [*]) ).symm
  rw [(h.clearMarkLink l q k).1]
  unfold State.clearMark at outstanding ⊢
  split at outstanding
  · rw [if_pos ‹_›]
    exact h.gives_modStation rfl rfl rfl k (fun _ => ⟨rfl, rfl, rfl, rfl⟩) outstanding
  · rw [if_neg ‹_›]
    exact { State.GivesBack.refl h with mark := fun j _ => outstanding j }

theorem gives_clearMarks (p : PlanRecord) :
    State.GivesBack { marks := (alignTags p.turns).map fun t => (t, p.lane, p.seq) } s (s.clearMarks p) := by
  have wrote : State.GivesBack {} s (s.mapNotices p.lane fun n => if n.mark = some p.seq then { n with mark := none } else n) :=
    .of_tables h rfl rfl rfl
  rw [← Ledger.flat_marks]
  exact wrote.nothing_then (.foldl (fun _ k hs => hs.gives_clearMarkLink _ _ k) _ wrote.clean)

end State.Clean

/-! ### Plans and history entries given back -/

/-- What the quiet drop of a plan gives back behind its planned bytes. -/
def Ledger.ofPlan (p : Plan) : Ledger :=
  { marks := (alignTags p.record.turns).map fun t => (t, p.record.lane, p.record.seq), stations := p.stations
    streams := p.streams }

/-- What the release of a history entry of a lane gives back. -/
def Ledger.ofEntry (l : LaneId) (h : HistEntry) : Ledger :=
  { marks := (h.turns.filter fun a => a.resolved = false).map fun a => (a.tag, l, h.seq), stations := h.stations
    streams := h.streams }

namespace State.Clean

variable {s : State} (h : s.Clean)
include h

theorem gives_dropQuietly (p : Plan) : State.GivesBack (.ofPlan p) s (s.dropQuietly p) := by
  have marks := h.gives_clearMarks p.record
  rw [Ledger.ofPlan, ← Ledger.append_refs]
  exact marks.trans (marks.clean.gives_lowerRefs p.stations p.streams)

theorem gives_releaseEntry (l : LaneId) (e : HistEntry) : State.GivesBack (.ofEntry l e) s (State.releaseEntry l s e) := by
  have marks := State.GivesBack.foldl (f := fun s (a : AlignTurn) => State.clearMarkLink l e.seq s a.tag)
    (fun _ a hs => hs.gives_clearMarkLink l e.seq a.tag) (e.turns.filter fun a => a.resolved = false) h
  rw [Ledger.ofEntry, ← Ledger.append_refs, ← Ledger.flat_marks]
  exact marks.trans (marks.clean.gives_lowerRefs e.stations e.streams)

theorem gives_clearHistory (l : LaneId) :
    State.GivesBack (.flat (s.lane l).history (.ofEntry l)) s (s.clearHistory l) := by
  have wrote : State.GivesBack {} s (s.modLane l fun v => { v with history := [] }) := .of_tables h rfl rfl rfl
  exact wrote.nothing_then (.foldl (fun _ e hs => hs.gives_releaseEntry l e) _ wrote.clean)

theorem gives_loseNotice (n : Notice) : State.GivesBack {} s (s.loseNotice n) := by
  rw [State.loseNotice, s.checkStation_passes _ _ (h.stations _)]
  split
  · have writes : ∀ {s : State} (hs : s.Clean) (f : StationEntry → StationEntry), (∀ e, (f e).outstanding = e.outstanding) →
        (∀ e : StationEntry, e.SamePost (f e)) → State.GivesBack {} s (s.modStation n.body.tag f) :=
      fun {s} hs f keeps post => hs.gives_modStation rfl rfl rfl _ post fun j => by
        rw [s.station_modStation _ _ _ hs.canonical.1, filter_unmarked]
        split
        · subst j
          exact keeps _
        · rfl
    have first := writes h (fun e => { e with verdictWaiting := false }) (fun _ => rfl) fun _ => ⟨rfl, rfl, rfl, rfl⟩
    have second := writes first.clean (fun e => { e with due := s.now }) (fun _ => rfl) fun _ => ⟨rfl, rfl, rfl, rfl⟩
    exact (first.then_nothing second).then_nothing (.of_tables second.clean rfl rfl rfl)
  · exact .refl h

theorem gives_emptyNotices (l : LaneId) : State.GivesBack {} s (s.emptyNotices l) :=
  have wrote : State.GivesBack {} s (s.modLane l fun v => { v with notices := [] }) := .of_tables h rfl rfl rfl
  wrote.then_nothing (.foldl_nothing (fun _ n hs => hs.gives_loseNotice n) _ wrote.clean)

end State.Clean

end Sys2Proof.Machine
end

section
/-! PROOFS. Build completion (R140, R141): the plan queued on a LIVE lane, or discarded. -/

namespace Sys2Proof.Machine

/-! ### What a plan names -/

theorem mem_eachOnce {l : List Nat} {n : Nat} : n ∈ eachOnce l ↔ n ∈ l := by
  have walk : ∀ (l acc : List Nat), n ∈ l.foldl (fun acc n => addName n acc) acc ↔ n ∈ acc ∨ n ∈ l := fun l => by
    induction l with
    | nil => simp
    | cons m rest ih =>
      intro acc
      rw [List.foldl_cons, ih, mem_addName, List.mem_cons, or_assoc, or_left_comm]
  exact (walk l []).trans (by simp)

theorem nodup_eachOnce (l : List Nat) : (eachOnce l).Nodup :=
  List.foldlRecOn (motive := List.Nodup) l _ List.nodup_nil fun acc nodup n _ => by
    unfold addName
    split
    · exact nodup
    · rw [← List.concat_eq_append]
      exact nodup.concat ‹_›

theorem Turn.station_eq_some {x : Turn} {t : Nat} :
    x.station = some t ↔ x.kind ∈ [TurnKind.data, .cadence, .align] ∧ x.tag = t := by
  unfold Turn.station
  cases x.kind <;> simp

/-- The stations that the plan of a draft names (R53, R131). -/
theorem Draft.mem_plan_stations {d : Draft} {now : Time} {t : Nat} : t ∈ (d.plan now).stations ↔
    (∃ x ∈ d.turns, x.kind ∈ [TurnKind.data, .cadence, .align] ∧ x.tag = t) ∨ (∃ b ∈ d.notices, b.tag = t) ∨
      ∃ c ∈ d.pendings, c.tag = t := by
  have notices : t ∈ d.planNotices.map PlanNotice.tag ↔ (∃ b ∈ d.notices, b.tag = t) ∨ ∃ c ∈ d.pendings, c.tag = t := by
    simp [Draft.planNotices, PlanNotice.tag]
  rw [Draft.plan, mem_eachOnce, List.mem_append, notices]
  simp only [List.mem_filterMap, Turn.station_eq_some]

theorem Draft.mem_plan_streams {d : Draft} {now : Time} {i : Nat} : i ∈ (d.plan now).streams ↔
    (∃ x ∈ d.data, x.stream = i) ∨ i ∈ d.cadence ∨ ∃ c ∈ d.pendings, c.stream = i := by
  simp [Draft.plan, mem_eachOnce]

/-! ### Counts raised (R140) -/

/-- Each entry named has its count raised by one for each time it is named, and nothing else is written. -/
theorem State.raiseRefs_spec {s : State} (hs : s.tablesCanonical) (stations streams : List Nat) :
    s.raiseRefs stations streams = { s with refs := (s.raiseRefs stations streams).refs } ∧
      (s.raiseRefs stations streams).tablesCanonical ∧
      (∀ t, (s.raiseRefs stations streams).stationRefs t = s.stationRefs t + stations.count t) ∧
      ∀ i, (s.raiseRefs stations streams).streamRefs i = s.streamRefs i + streams.count i := by
  unfold State.raiseRefs
  obtain ⟨⟨frame, wf, same⟩, first⟩ := foldl_read (read := State.stationRefs) (key := id) (g := fun _ n => n + 1)
    (P := fun t : State => t = { s with refs := t.refs } ∧ t.tablesCanonical ∧ ∀ i, t.streamRefs i = s.streamRefs i)
    (F := fun s t => s.setStationRefs t (s.stationRefs t + 1)) (fun t k ⟨frame, wf, same⟩ => by
      refine ⟨⟨by rw [frame]; rfl, ⟨wf.1, wf.2.1, wf.2.2.1, t.setStationRefs_wf _ _ wf.2.2.2.1, wf.2.2.2.2⟩, same⟩, fun j => ?_⟩
      refine (Table.get_set 0 k j _ _ wf.2.2.2.1).trans ?_
      split
      · subst j
        exact (if_pos rfl).symm
      · exact (if_neg ‹_›).symm) stations (s := s) ⟨rfl, hs, fun _ => rfl⟩
  generalize stations.foldl (fun s t => s.setStationRefs t (s.stationRefs t + 1)) s = u at frame wf same first
  obtain ⟨⟨frame', wf', same'⟩, second⟩ := foldl_read (read := State.streamRefs) (key := id) (g := fun _ n => n + 1)
    (P := fun t : State => t = { u with refs := t.refs } ∧ t.tablesCanonical ∧ ∀ i, t.stationRefs i = u.stationRefs i)
    (F := fun s t => s.setStreamRefs t (s.streamRefs t + 1)) (fun t k ⟨frame, wf, same⟩ => by
      refine ⟨⟨by rw [frame]; rfl, ⟨wf.1, wf.2.1, wf.2.2.1, wf.2.2.2.1, t.setStreamRefs_wf _ _ wf.2.2.2.2⟩, same⟩, fun j => ?_⟩
      refine (Table.get_set 0 k j _ _ wf.2.2.2.2).trans ?_
      split
      · subst j
        exact (if_pos rfl).symm
      · exact (if_neg ‹_›).symm) streams (s := u) ⟨rfl, wf, fun _ => rfl⟩
  refine ⟨frame'.trans (by rw [frame]), wf', fun t => ?_, fun i => ?_⟩
  · rw [same', first, foldl_add, length_filter_id]
  · rw [second, same, foldl_add, length_filter_id]

/-! ### Marks set (R61) -/

/-- The entry of a station whose outstanding mark names a plan. -/
def StationEntry.marked (l : LaneId) (q : PlanSeq) (e : StationEntry) : StationEntry := { e with outstanding := some (l, q) }.seal

/-- The stations of a walk have their mark set, and nothing else is written. -/
theorem State.foldl_setMark {s : State} (hs : s.tablesCanonical) (l : LaneId) (q : PlanSeq) (ts : List Nat) :
    ((ts.foldl (State.setMark l q) s).tablesCanonical ∧ s.Restationed (ts.foldl (State.setMark l q) s)) ∧
      ∀ k, (ts.foldl (State.setMark l q) s).station k = if k ∈ ts then (s.station k).marked l q else s.station k :=
  foldl_read_idem (P := fun t => t.tablesCanonical ∧ s.Restationed t) (g := StationEntry.marked l q) (fun _ => rfl)
    (fun t k ⟨wf, frame⟩ => by
      refine ⟨⟨t.modStation_canonical wf k _, frame.trans (.modStation t k _)⟩, fun j => ?_⟩
      rw [State.setMark, t.station_modStation _ _ _ wf.1]
      split
      · subst j
        rfl
      · rfl) ts ⟨hs, rfl⟩

/-- The plan at the tail of the output queue. -/
def State.enqueued (s : State) (p : Plan) : State := { s with link := { s.link with queue := s.link.queue ++ [p] } }

/-- A notice that the build has taken is marked with its plan. -/
def Notice.stamped (q : PlanSeq) (n : Notice) : Notice := if n.taken then { n with mark := some q, taken := false } else n

theorem State.queuePlan_eq (s : State) (p : Plan) : s.queuePlan p =
    (alignTags p.record.turns).foldl (State.setMark p.record.lane p.record.seq)
      (((s.enqueued p).raiseRefs p.stations p.streams).mapNotices p.record.lane (.stamped p.record.seq)) := rfl

/-- The plan in the output queue, with its counts and its marks (R140). -/
theorem State.queuePlan_spec {s : State} (hs : s.tablesCanonical) (p : Plan) :
    (s.queuePlan p).tablesCanonical ∧ (s.queuePlan p).builder = s.builder ∧
      (s.queuePlan p).link = { s.link with queue := s.link.queue ++ [p] } ∧ (s.queuePlan p).port = s.port ∧
      (s.queuePlan p).claims = s.claims ∧ (s.queuePlan p).streams = s.streams ∧
      (∀ t, (s.queuePlan p).stationRefs t = s.stationRefs t + p.stations.count t) ∧
      (∀ i, (s.queuePlan p).streamRefs i = s.streamRefs i + p.streams.count i) ∧
      (s.queuePlan p).lane p.record.lane = { s.lane p.record.lane with
        notices := (s.lane p.record.lane).notices.map (Notice.stamped p.record.seq) } ∧
      ∀ t, (s.queuePlan p).station t =
        if t ∈ alignTags p.record.turns then (s.station t).marked p.record.lane p.record.seq else s.station t := by
  obtain ⟨frame, wf, stationRefs, streamRefs⟩ := State.raiseRefs_spec (s := s.enqueued p) hs p.stations p.streams
  rw [State.queuePlan_eq]
  generalize (s.enqueued p).raiseRefs p.stations p.streams = u at frame wf stationRefs streamRefs
  have lanes : ∀ f, (u.mapNotices p.record.lane f).lane p.record.lane =
      { s.lane p.record.lane with notices := (s.lane p.record.lane).notices.map f } := fun f => by
    rw [State.mapNotices, State.lane_modLane_same, frame]
    rfl
  have station : ∀ f k, (u.mapNotices p.record.lane f).station k = s.station k := fun f k => by
    rw [frame]
    rfl
  obtain ⟨⟨wf', frame'⟩, marked⟩ := State.foldl_setMark (s := u.mapNotices p.record.lane (.stamped p.record.seq)) wf p.record.lane
    p.record.seq (alignTags p.record.turns)
  generalize (alignTags p.record.turns).foldl (State.setMark p.record.lane p.record.seq) _ = r at wf' frame' marked
  refine ⟨wf', ?_, ?_, ?_, ?_, ?_, fun t => ?_, fun i => ?_, ?_, fun t => ?_⟩
  iterate 5
    rw [frame', State.mapNotices, frame]
    rfl
  · exact Eq.trans (by rw [frame']; rfl) (stationRefs t)
  · exact Eq.trans (by rw [frame']; rfl) (streamRefs i)
  · exact Eq.trans (by rw [frame']; rfl) (lanes _)
  · rw [marked, station]

/-! ### The entries that the draft named (R117) -/

theorem State.settleStation_blocks (s : State) (k : Nat) :
    (s.settleStation k).refs = s.refs ∧ (s.settleStation k).port = s.port := by
  unfold State.settleStation
  split
  · obtain ⟨frame, -⟩ := s.freeStation_spec k
    generalize s.freeStation k = t at frame
    rw [frame]
    exact ⟨rfl, rfl⟩
  · exact ⟨rfl, rfl⟩

theorem State.settleStream_blocks (s : State) (i : Nat) :
    (s.settleStream i).refs = s.refs ∧ (s.settleStream i).port = s.port := by
  unfold State.settleStream
  split
  · exact ⟨(s.freeStream_restreamed i).refs, (s.freeStream_restreamed i).port⟩
  · exact ⟨rfl, rfl⟩

/-- Entries that become FREE leave the counts and the Control Port. -/
theorem State.settleNamed_blocks (s : State) (d : Draft) :
    s.Keeps (s.settleNamed d) ∧ (s.settleNamed d).refs = s.refs ∧ (s.settleNamed d).port = s.port := by
  have walk : ∀ (f : State → Nat → State) (l : List Nat) (s : State),
      (∀ s k, s.Keeps (f s k) ∧ (f s k).refs = s.refs ∧ (f s k).port = s.port) →
      s.Keeps (l.foldl f s) ∧ (l.foldl f s).refs = s.refs ∧ (l.foldl f s).port = s.port := fun f l s step =>
    List.foldlRecOn (motive := fun t : State => s.Keeps t ∧ t.refs = s.refs ∧ t.port = s.port) l f ⟨.refl s, rfl, rfl⟩
      fun t ⟨keeps, refs, port⟩ k _ => by
        obtain ⟨keeps', refs', port'⟩ := step t k
        exact ⟨keeps.trans keeps', refs'.trans refs, port'.trans port⟩
  obtain ⟨keeps, refs, port⟩ := walk State.settleStation d.namedStations s
    fun s k => ⟨s.keeps_settleStation k, s.settleStation_blocks k⟩
  obtain ⟨keeps', refs', port'⟩ := walk State.settleStream d.namedStreams _
    fun s i => ⟨s.keeps_settleStream i, s.settleStream_blocks i⟩
  exact ⟨keeps.trans keeps', refs'.trans refs, port'.trans port⟩

/-- With no entry among them on its way out, settling changes nothing. -/
theorem State.settleNamed_of_none {s : State} {d : Draft} (stations : ∀ t ∈ d.namedStations, (s.station t).state ≠ .releasing)
    (streams : ∀ i ∈ d.namedStreams, (s.stream i).state ≠ .retiring) : s.settleNamed d = s := by
  have first : d.namedStations.foldl State.settleStation s = s :=
    List.foldlRecOn (motive := fun t => t = s) _ _ rfl fun t same k hk => by
      rw [same, State.settleStation, if_neg fun ⟨releasing, _⟩ => stations k hk releasing]
  rw [State.settleNamed, first]
  exact List.foldlRecOn (motive := fun t => t = s) _ _ rfl fun t same i hi => by
    rw [same, State.settleStream, if_neg fun ⟨retiring, _⟩ => streams i hi retiring]

/-! ### A lane that reaches IDLE (R16) -/

/-- A release of history entries gives no planned bytes back. -/
theorem Ledger.flat_ofEntry_data (l : LaneId) (hs : List HistEntry) : (Ledger.flat hs (.ofEntry l)).data = [] := by
  simp [Ledger.flat, Ledger.ofEntry]

theorem State.Clean.gives_reachIdle {s : State} (h : s.Clean) (l : LaneId) :
    State.GivesBack (.flat (s.lane l).history (.ofEntry l)) s (s.reachIdle l) := by
  have state : State.GivesBack {} s (s.setLaneState l .idle) :=
    .of_tables h (by simp) (by simp) (by rw [State.setLaneState_eq]; rfl)
  have history := state.clean.gives_clearHistory l
  have notices := history.clean.gives_emptyNotices l
  have span : State.GivesBack {} _ (((s.setLaneState l .idle).clearHistory l).emptyNotices l |>.modLane l fun v =>
    { v with nextSpan := 0 }) := .of_tables notices.clean rfl rfl rfl
  have told : State.GivesBack {} _ (s.reachIdle l) := .of_tables span.clean
    (by rw [State.reachIdle_eq, State.raise_stations]) (by rw [State.reachIdle_eq, State.raise_streams])
    (by rw [State.reachIdle_eq, State.raise_refs])
  rw [State.setLaneState_lane_same] at history
  exact (((state.nothing_then history).then_nothing notices).then_nothing span).then_nothing told

/-! ### The discard of a plan (R141) -/

/-- The plan discarded, and the entries that the draft named settled. -/
def State.discarded (s : State) (d : Draft) : State :=
  ((s.setDraft none).discardPlan (d.plan s.now)).settleNamed d

theorem State.Clean.gives_discarded {s : State} (h : s.Clean) (d : Draft) :
    State.GivesBack { data := d.data } s (s.discarded d) := by
  have idle : State.GivesBack {} s (s.setDraft none) := .of_tables h rfl rfl rfl
  have restored := idle.clean.gives_restoreData d.data
  have untaken : State.GivesBack {} _ ((s.setDraft none).discardPlan (d.plan s.now)) := .of_tables restored.clean rfl rfl rfl
  exact ((idle.nothing_then restored).then_nothing untaken).then_nothing (untaken.clean.gives_settleNamed d)

/-- A discard leaves the counts and the Control Port, and of the lanes all but their notices. -/
theorem State.Clean.discarded_blocks {s : State} (h : s.Clean) (d : Draft) :
    (s.setDraft none).Keeps (s.discarded d) ∧ (s.discarded d).refs = s.refs ∧ (s.discarded d).port = s.port := by
  have idle : (s.setDraft none).Clean := h.of_tables rfl rfl rfl
  have restored := (idle.restoreData d.data).frame
  obtain ⟨keeps, refs, port⟩ := ((s.setDraft none).discardPlan (d.plan s.now)).settleNamed_blocks d
  refine ⟨(((s.setDraft none).keeps_restoreData d.data).trans (State.keeps_mapNotices _ _ _)).trans keeps, ?_, ?_⟩
  · exact refs.trans restored.refs
  · exact port.trans restored.port

/-- The planned bytes of a stream's one DATA turn are given back, and the stream stands on its lists where that raised its
available demand from 0. -/
theorem State.GivesBack.planned {L : Ledger} {s r : State} (given : State.GivesBack L s r) {data : List DataTurn}
    (same : L.data = data) (nodup : (data.map (·.stream)).Nodup) {x : DataTurn} (hx : x ∈ data)
    (inUse : (s.stream x.stream).state = .inUse) :
    ((r.stream x.stream).G = (s.stream x.stream).G - x.cover ∧ (r.stream x.stream).D = (s.stream x.stream).D) ∧
      ((s.stream x.stream).D ≤ (s.stream x.stream).G → (s.stream x.stream).G - x.cover < (s.stream x.stream).D →
        (s.stream x.stream).kind = .bidding → s.ownerIs (s.stream x.stream) .active = true →
        ∀ l : LaneId, inSet (s.stream x.stream).laneSet l = true → x.stream ∈ r.list l (s.stream x.stream).cls) := by
  have entry : (r.stream x.stream).G = (s.stream x.stream).G - x.cover ∧ (r.stream x.stream).D = (s.stream x.stream).D := by
    rw [given.stream _ inUse, same, coversOf_of_nodup nodup hx]
    exact ⟨rfl, rfl⟩
  exact ⟨entry, fun none_ some_ bidding owner l on =>
    given.joins _ l inUse bidding owner none_ (by rwa [entry.1, entry.2]) on⟩

/-- The end of a build: the plan queued or discarded, and the lane settled. -/
theorem State.completeBuild_eq {s : State} {d : Draft} (draft : s.builder.draft = some d) (stage : d.stage = .complete) :
    s.completeBuild = if (s.lane d.lane).state = .live then
      (((s.setDraft none).queuePlan (d.plan s.now)).settleNamed d).settleDraining d.lane
    else (s.discarded d).settleDraining d.lane := by
  have live : (s.setDraft none).isLive d.lane = decide ((s.lane d.lane).state = .live) := rfl
  simp only [State.completeBuild, State.atStage, draft, stage, if_true, live, decide_eq_true_eq]
  split <;> rfl

theorem State.settleDraining_of_live {s : State} {l : LaneId} (live : (s.lane l).state = .live) : s.settleDraining l = s :=
  if_neg fun ⟨draining, _⟩ => by rw [live] at draining; cases draining

end Sys2Proof.Machine

open Sys2Proof Sys2Proof.Machine

/-- Settles O51: the plan of a LIVE lane by what its entry into the queue writes, any other by what its discard gives back, and
by whether the lane then reaches IDLE. -/
theorem completionQueuesOrDiscards : Obligations.CompletionQueuesOrDiscards := by
  intro s d pin canonical draft stage
  have run : exec .buildCompletion s = .next s.completeBuild := s.unlessReset_free _ pin
  rw [run, State.completeBuild_eq draft stage]
  refine ⟨fun live => ?_, fun dead stations streams => ?_⟩
  · rw [if_pos live]
    obtain ⟨wf, builder, link, port, claims, entries, stationRefs, streamRefs, lane, station⟩ :=
      State.queuePlan_spec (s := s.setDraft none) canonical (d.plan s.now)
    obtain ⟨keeps, refs', port'⟩ := ((s.setDraft none).queuePlan (d.plan s.now)).settleNamed_blocks d
    have here : (d.plan s.now).record.lane = d.lane := rfl
    have stillLive : ((((s.setDraft none).queuePlan (d.plan s.now)).settleNamed d).lane d.lane).state = .live := by
      rw [keeps.lane, ← here, lane]
      exact live
    rw [State.settleDraining_of_live stillLive]
    have onceStation : (d.plan s.now).stations.Nodup := nodup_eachOnce _
    have onceStream : (d.plan s.now).streams.Nodup := nodup_eachOnce _
    refine ⟨_, d.plan s.now, rfl, keeps.builder.trans builder, keeps.link.trans link, rfl, rfl, rfl, rfl, rfl, rfl, rfl, rfl,
      rfl, rfl, rfl, rfl, rfl, rfl, rfl, rfl, rfl, fun t => Draft.mem_plan_stations, fun i => Draft.mem_plan_streams,
      fun t => ?_, fun i => ?_, port'.trans port, keeps.claims.trans claims, fun named named' => ?_⟩
    · rw [State.stationRefs, refs', ← onceStation.count]
      exact stationRefs t
    · rw [State.streamRefs, refs', ← onceStream.count]
      exact streamRefs i
    · have settled := State.settleNamed_of_none (s := (s.setDraft none).queuePlan (d.plan s.now)) (d := d)
        (fun t ht => by
          rw [station]
          split
          exacts [named t ht, named t ht])
        fun i hi => by
          rw [State.stream_of_streams entries]
          exact named' i hi
      rw [settled]
      refine ⟨entries, ?_, fun t => ?_⟩
      · rw [← here, lane]
        rfl
      · rw [station]
        exact if_congr mem_alignTags rfl rfl
  · rw [if_neg dead]
    have clean : s.Clean := ⟨canonical, stations, streams⟩
    have gives := clean.gives_discarded d
    obtain ⟨keeps, refs, port⟩ := clean.discarded_blocks d
    have here := keeps.lane d.lane
    generalize s.discarded d = t at gives keeps refs port here
    have queued : t.queuedOf d.lane = s.queuedOf d.lane := by rw [State.queuedOf, keeps.link]; rfl
    have building : t.building d.lane = false := by rw [State.building, keeps.builder]; rfl
    have state : (t.lane d.lane).state = (s.lane d.lane).state := by rw [here]; rfl
    by_cases idle : (s.lane d.lane).state = .draining ∧ s.queuedOf d.lane = 0
    · rw [State.settleDraining, if_pos ⟨state.trans idle.1, queued.trans idle.2, building⟩]
      obtain ⟨now, ports, claims, builder, link⟩ := t.reachIdle_frame d.lane
      have lane := t.reachIdle_lane d.lane
      have given := gives.trans (gives.clean.gives_reachIdle d.lane)
      have data : (Ledger.append { data := d.data } (.flat (t.lane d.lane).history (.ofEntry d.lane))).data = d.data := by
        rw [Ledger.append, Ledger.flat_ofEntry_data, List.append_nil]
      refine ⟨_, rfl, builder.trans keeps.builder, link.trans keeps.link, claims.trans keeps.claims, ports.trans keeps.ports,
        by rw [lane, here]; rfl, by rw [lane, here]; rfl, fun _ _ => ?_, fun busy => ?_,
        fun nodup x hx none_ some_ inUse bidding owner => (given.planned data nodup hx inUse).2 none_ some_ bidding owner,
        fun nodup x hx inUse => (given.planned data nodup hx inUse).1⟩
      · rw [lane]
        refine ⟨rfl, rfl, rfl, fun room => ?_⟩
        rw [State.reachIdle_reports _ _ gives.clean.stationsSound (by rw [port]; exact room), port, keeps.now]
        rfl
      · exact absurd idle fun ⟨draining, none_⟩ => busy.elim (absurd draining) fun some_ => some_.ne' none_
    · rw [State.settleDraining, if_neg fun ⟨draining, none_, _⟩ => idle ⟨state.symm.trans draining, queued.symm.trans none_⟩]
      exact ⟨_, rfl, keeps.builder, keeps.link, keeps.claims, keeps.ports, by rw [here]; rfl, by rw [here]; rfl,
        fun draining none_ => absurd ⟨draining, none_⟩ idle, fun _ => ⟨refs, state, by rw [here]; rfl, port⟩,
        fun nodup x hx none_ some_ inUse bidding owner => (gives.planned rfl nodup hx inUse).2 none_ some_ bidding owner,
        fun nodup x hx inUse => (gives.planned rfl nodup hx inUse).1⟩
end

section
/-! PROOFS. The drop of a plan at its transmit start, until it is seen whether it faults the lane (R146, R147). -/

namespace Sys2Proof.Machine

/-! ### The reports of a drop (R147) -/

/-- The lowest of a lowest stream index and of a list. -/
theorem lowestOf_eq (a : Option Nat) (l : List Nat) : lowestOf a l = (a.toList ++ l).min? := by
  have walk : ∀ (l : List Nat) (n : Nat), lowestOf (some n) l = some (l.foldl min n) := fun l => by
    induction l with
    | nil => exact fun _ => rfl
    | cons i rest ih =>
      intro n
      rw [List.foldl_cons, Nat.min_comm n i, ← ih]
      rfl
  cases a with
  | some n => exact walk l n
  | none =>
    cases l with
    | nil => rfl
    | cons i rest =>
      rw [lowestOf, List.foldl_cons, Option.getD_none, Nat.min_self]
      exact walk rest i

theorem State.reportSlips_port (s : State) (r : PlanRecord) (n : Nat) (lowest : Option Nat) :
    s.reportSlips r n lowest = { s with port := (s.reportSlips r n lowest).port } := by
  unfold State.reportSlips
  split
  · exact s.raise_port _
  · rfl

/-- SLIPPED is the one report, where there are slips to tell of and the report queue has room. -/
theorem State.reportSlips_reports (s : State) (r : PlanRecord) (n : Nat) (lowest : Option Nat)
    (room : s.port.reports.length < Config.reports) :
    (s.reportSlips r n lowest).port.reports = s.port.reports ++
      if 0 < n then [⟨s.now, .slipped r.lane r.seq n lowest⟩] else [] := by
  unfold State.reportSlips
  split
  · rw [State.raise_room _ _ room]
  · exact (List.append_nil _).symm

section
variable (s : State) (l : LaneId) (p : Plan) (M : Int)

/-- A drop is told of in the Control Port alone. -/
theorem State.tellDrop_port :
    s.tellDrop p M = { s.countDrop p.record.lane with port := (s.tellDrop p M).port } := by
  unfold State.tellDrop
  dsimp only
  rw [State.reportSlips_port, State.raise_port]

theorem State.countDrop_lane : (s.countDrop l).lane l = { s.lane l with
    drops := min ((s.lane l).drops + 1) 15
    counters := { (s.lane l).counters with dropped := min ((s.lane l).counters.dropped + 1) 4294967295 } } :=
  s.lane_modLane_same l _

theorem State.countDrop_lane_other {m : LaneId} (h : m ≠ l) : (s.countDrop l).lane m = s.lane m :=
  s.lane_modLane_other l m _ h

theorem State.tellDrop_lane (m : LaneId) : (s.tellDrop p M).lane m = (s.countDrop p.record.lane).lane m := by
  rw [State.tellDrop_port]
  rfl

/-- DROPPED gives the drop count, with SLIPPED behind it for the slips (R147). -/
theorem State.tellDrop_reports (room : s.port.reports.length < 63) :
    (s.tellDrop p M).port.reports = s.port.reports ++
      ⟨s.now, .dropped p.record.lane p.record.seq .margin M (min ((s.lane p.record.lane).drops + 1) 15)⟩ ::
        if 0 < p.slips + p.cadence.length then
          [⟨s.now, .slipped p.record.lane p.record.seq (p.slips + p.cadence.length) (p.lowestSlip.toList ++ p.cadence).min?⟩]
        else [] := by
  have before : (s.countDrop p.record.lane).port.reports.length < Config.reports := Nat.lt_succ_of_lt room
  unfold State.tellDrop
  dsimp only
  rw [lowestOf_eq, State.countDrop_lane, State.raise_room _ _ before, State.reportSlips_reports]
  · exact List.append_assoc _ _ _
  · rw [List.length_append]
    exact Nat.succ_lt_succ room

/-! ### Lost CADENCE turns (R95) -/

/-- The lost slips of CADENCE turns are written to streams, and to one lane's counter. -/
theorem State.foldl_loseCadence (is : List Nat) : let t := is.foldl (State.loseCadence l) s
    t = { s with lanes := t.lanes, streams := t.streams } ∧
      t.lane l = { s.lane l with counters := { (s.lane l).counters with
        slips := is.foldl (fun n _ => satAdd Config.counterMax n 1) (s.lane l).counters.slips } } ∧
      ∀ m, m ≠ l → t.lane m = s.lane m := by
  induction is generalizing s with
  | nil => exact ⟨rfl, rfl, fun _ _ => rfl⟩
  | cons i rest ih =>
    obtain ⟨frame, lane, others⟩ := ih (State.loseCadence l s i)
    have first : (State.loseCadence l s i).lane l = { s.lane l with counters :=
      { (s.lane l).counters with slips := satAdd Config.counterMax (s.lane l).counters.slips 1 } } :=
      (s.modStream i _).lane_modLane_same l _
    refine ⟨frame, ?_, fun m hm => (others m hm).trans ((s.modStream i _).lane_modLane_other l m _ hm)⟩
    rw [List.foldl_cons, lane, first]
    rfl

theorem State.Clean.gives_foldl_loseCadence {s : State} (h : s.Clean) (l : LaneId) (is : List Nat) :
    State.GivesBack {} s (is.foldl (State.loseCadence l) s) :=
  .foldl_nothing (fun _ i hs => hs.gives_loseCadence l i) is h

/-! ### What a drop gives back (R146) -/

theorem Ledger.append_data (data : List DataTurn) (p : Plan) : Ledger.append { data } (.ofPlan p) =
    { Ledger.ofPlan p with data } := by
  ext1 <;> simp [Ledger.append, Ledger.ofPlan]

theorem State.Clean.gives_undoPlan {s : State} (h : s.Clean) (p : Plan) :
    State.GivesBack { Ledger.ofPlan p with data := p.data } s (s.undoPlan p) := by
  have restored := h.gives_restoreData p.data
  have lost := restored.then_nothing (restored.clean.gives_foldl_loseCadence p.record.lane p.cadence)
  rw [← Ledger.append_data]
  exact lost.trans (lost.clean.gives_dropQuietly p)

/-- What is undone leaves the Control Port, and of every lane all but its notices and the count of its slips. -/
theorem State.Clean.undoPlan_blocks {s : State} (h : s.Clean) (p : Plan) : let t := s.undoPlan p
    t.port = s.port ∧ t.now = s.now ∧ t.builder = s.builder ∧ t.link = s.link ∧ t.claims = s.claims ∧ t.ports = s.ports ∧
      t.lane p.record.lane = { s.lane p.record.lane with
        notices := (t.lane p.record.lane).notices
        counters := { (s.lane p.record.lane).counters with
          slips := p.cadence.foldl (fun n _ => satAdd Config.counterMax n 1) (s.lane p.record.lane).counters.slips } } ∧
      ∀ m, m ≠ p.record.lane → t.lane m = { s.lane m with notices := (t.lane m).notices } := by
  have restored := h.restoreData p.data
  have keeps := s.keeps_restoreData p.data
  have clean := ((h.gives_restoreData p.data).clean.gives_foldl_loseCadence p.record.lane p.cadence).clean
  obtain ⟨frame, lane, others⟩ := (s.restoreData p.data).foldl_loseCadence p.record.lane p.cadence
  unfold State.undoPlan
  generalize p.cadence.foldl (State.loseCadence p.record.lane) (s.restoreData p.data) = u at clean frame lane others
  have lanes : ∀ m, (s.restoreData p.data).lane m = s.lane m := fun m => by
    rw [State.lane, State.lane, restored.frame.lanes]
  have undone : u.Keeps (u.dropQuietly p) := (u.keeps_clearMarks p.record).trans (State.keeps_lowerRefs _ _ _)
  have marks := clean.stationsSound.quiet_clearMarks p.record
  have port := (marks.trans (marks.sound.quiet_lowerRefs p.stations p.streams)).port
  refine ⟨?_, ?_, ?_, ?_, ?_, ?_, ?_, fun m hm => ?_⟩
  · exact (port.trans (by rw [frame])).trans restored.frame.port
  · exact (undone.now.trans (by rw [frame])).trans keeps.now
  · exact (undone.builder.trans (by rw [frame])).trans keeps.builder
  · exact (undone.link.trans (by rw [frame])).trans keeps.link
  · exact (undone.claims.trans (by rw [frame])).trans keeps.claims
  · exact (undone.ports.trans (by rw [frame])).trans keeps.ports
  · refine (undone.lane _).trans ?_
    rw [lane, lanes]
    rfl
  · refine (undone.lane m).trans ?_
    rw [others m hm, lanes]
    rfl

end

end Sys2Proof.Machine
end

section
/-! PROOFS. The entry of a lane into FAULTED (R11, R18, R52), by a skip (R138) or by a drop (R146, R147). -/

namespace Sys2Proof.Machine

/-! ### Home lanes (R52) -/

/-- The lowest LIVE lane of a set in a state where one lane is not LIVE. -/
theorem State.lowestLive_without {s t : State} {l : LaneId} (dead : (t.lane l).state ≠ .live)
    (others : ∀ m, m ≠ l → (t.lane m).state = (s.lane m).state) (set : LaneSet) : t.lowestLive set =
    ([0, 1, 2, 3, 4, 5, 6, 7] : List LaneId).find? fun m =>
      decide (m ≠ l ∧ inSet set m = true ∧ (s.lane m).state = .live) := by
  rw [State.lowestLive, lanesOf, List.find?_filter]
  refine congrArg (fun p => allLanes.find? p) (funext fun m => ?_)
  by_cases h : m = l
  · subst h
    simp [State.isLive, dead]
  · simp [State.isLive, others m h, h]

theorem StationEntry.rehomed_outstanding (low : LaneSet → Option LaneId) (e : StationEntry) :
    (e.rehomed low).outstanding = e.outstanding := by
  unfold StationEntry.rehomed
  split <;> rfl

/-- Where every station passes its check, the stations of a lane move by writes of their entries alone. -/
theorem State.stationsSound.rehomeAll_restationed {s : State} (h : s.stationsSound) (l : LaneId) :
    s.Restationed (s.rehomeAll l) := by
  refine (List.foldlRecOn (motive := fun t : State => t.stationsSound ∧ s.Restationed t) _ State.rehomeChecked ⟨h, rfl⟩
    fun t ⟨sound, frame⟩ k _ => ?_).2
  rw [State.rehomeChecked, t.checkStation_passes _ _ (sound.2 k)]
  split
  · rw [State.rehome_eq]
    exact ⟨sound.modStation k _, frame.trans (.modStation t k _)⟩
  · exact ⟨sound, frame⟩

/-! ### What a fault gives back (R18) -/

/-- The lane's plans in the output queue. -/
def State.plansOf (s : State) (l : LaneId) : List Plan := s.link.queue.filter fun p => p.record.lane = l

/-- What a fault of a lane gives back: of plans all that they hold, of history entries the marks and the references. -/
def Ledger.ofFault (l : LaneId) (plans : List Plan) (history : List HistEntry) : Ledger where
  data := plans.flatMap (·.data)
  marks := (plans.flatMap fun p => (Ledger.ofPlan p).marks) ++ history.flatMap fun h => (Ledger.ofEntry l h).marks
  stations := plans.flatMap (·.stations) ++ history.flatMap (·.stations)
  streams := plans.flatMap (·.streams) ++ history.flatMap (·.streams)

theorem Ledger.ofFault_cons (l : LaneId) (p : Plan) (plans : List Plan) (history : List HistEntry) :
    Ledger.append { Ledger.ofPlan p with data := p.data } (.ofFault l plans history) = .ofFault l (p :: plans) history := by
  ext1 <;> simp [Ledger.append, Ledger.ofFault, Ledger.ofPlan]

theorem Ledger.ofFault_parts (l : LaneId) (plans : List Plan) (history : List HistEntry) :
    Ledger.append (Ledger.append { data := plans.flatMap (·.data) } (.flat plans .ofPlan)) (.flat history (.ofEntry l)) =
      .ofFault l plans history := by
  ext1 <;> simp [Ledger.append, Ledger.flat, Ledger.ofFault, Ledger.ofPlan, Ledger.ofEntry]

/-- The marks that a fault gives back. -/
theorem Ledger.mem_ofFault_marks {l : LaneId} {plans : List Plan} {history : List HistEntry}
    (lanes : ∀ p ∈ plans, p.record.lane = l) {k : Nat} {m : LaneId × PlanSeq} : (k, m) ∈ (Ledger.ofFault l plans history).marks ↔
      (∃ p ∈ plans, some m = some (l, p.record.seq) ∧ ∃ x ∈ p.record.turns, x.kind = .align ∧ x.tag = k) ∨
      ∃ h ∈ history, some m = some (l, h.seq) ∧ ∃ a ∈ h.turns, a.tag = k ∧ a.resolved = false := by
  have ofPlan : ∀ p ∈ plans, ((k, m) ∈ (Ledger.ofPlan p).marks ↔
      some m = some (l, p.record.seq) ∧ ∃ x ∈ p.record.turns, x.kind = .align ∧ x.tag = k) := fun p hp => by
    simp only [Ledger.ofPlan, List.mem_map, mem_alignTags, Prod.mk.injEq, lanes p hp, Option.some.injEq]
    constructor
    · rintro ⟨_, named, rfl, rfl⟩
      exact ⟨rfl, named⟩
    · rintro ⟨rfl, named⟩
      exact ⟨k, named, rfl, rfl⟩
  have ofEntry : ∀ h : HistEntry, ((k, m) ∈ (Ledger.ofEntry l h).marks ↔
      some m = some (l, h.seq) ∧ ∃ a ∈ h.turns, a.tag = k ∧ a.resolved = false) := fun h => by
    simp only [Ledger.ofEntry, List.mem_map, List.mem_filter, decide_eq_true_eq, Prod.mk.injEq, Option.some.injEq]
    constructor
    · rintro ⟨a, ⟨ha, open_⟩, rfl, rfl⟩
      exact ⟨rfl, a, ha, rfl, open_⟩
    · rintro ⟨rfl, a, ha, rfl, open_⟩
      exact ⟨a, ⟨ha, open_⟩, rfl, rfl⟩
  simp only [Ledger.ofFault, List.mem_append, List.mem_flatMap, ofEntry]
  exact or_congr (exists_congr fun p => and_congr_right (ofPlan p)) Iff.rfl

theorem count_flatMap_append {α β : Type} (as : List α) (bs : List β) (f : α → List Nat) (g : β → List Nat) (n : Nat) :
    (as.flatMap f ++ bs.flatMap g).count n = (as.map fun a => (f a).count n).sum + (bs.map fun b => (g b).count n).sum := by
  rw [List.count_append, List.count_flatMap, List.count_flatMap]
  rfl

/-! ### The steps of an entry into FAULTED -/

/-- The lane FAULTED, its spans withdrawn and its queued plans gone, with what they held still held. -/
def State.struck (s : State) (l : LaneId) : State :=
  { (s.setLaneState l .faulted).withdraw l with link := { s.link with queue := s.link.queue.filter fun p => p.record.lane ≠ l } }

/-- The state whose lane's queued plans have been given back. -/
def State.surrendered (s : State) (l : LaneId) : State :=
  (s.plansOf l).foldl State.dropQuietly ((s.struck l).restoreData ((s.plansOf l).flatMap (·.data)))

/-- The state whose lane has neither plans nor history nor notices, before its stations move. -/
def State.cleansed (s : State) (l : LaneId) : State := ((s.surrendered l).clearHistory l).emptyNotices l

theorem State.enterFaulted_eq (s : State) (l : LaneId) : s.enterFaulted l =
    ((s.cleansed l).rehomeAll l).raise (.laneFaulted l (((s.cleansed l).rehomeAll l).lane l).drops (s.plansOf l).length) := by
  have link : ((s.setLaneState l .faulted).withdraw l).link = s.link := s.setLaneState_link l .faulted
  unfold State.enterFaulted
  dsimp only
  rw [link]
  rfl

section
variable (s : State) (l : LaneId)

theorem State.keeps_surrendered : (s.struck l).Keeps (s.surrendered l) :=
  (State.keeps_restoreData _ _).trans (.foldl State.keeps_dropQuietly _ _)

theorem State.struck_lane : (s.struck l).lane l = { s.lane l with state := .faulted } := s.setLaneState_lane_same l .faulted

theorem State.struck_lane_other {m : LaneId} (h : m ≠ l) : (s.struck l).lane m = s.lane m :=
  s.setLaneState_lane_other l .faulted h

/-- The blocks of a lane's fault, before its stations move. -/
theorem State.cleansed_blocks : let t := s.cleansed l
    t.lane l = { s.lane l with state := .faulted, history := [], notices := [] } ∧
      (∀ m, m ≠ l → t.lane m = { s.lane m with notices := (t.lane m).notices }) ∧
      t.builder = { s.builder with waiting := s.builder.waiting.filter fun v => v.lane ≠ l } ∧
      t.link = { s.link with queue := s.link.queue.filter fun p => p.record.lane ≠ l } ∧
      t.claims = s.claims ∧ t.ports = s.ports ∧ t.now = s.now := by
  have given := s.keeps_surrendered l
  have cleared := (s.surrendered l).keeps_cleared l
  refine ⟨?_, fun m hm => ?_, ?_, ?_, ?_, ?_, ?_⟩
  · rw [State.cleansed, State.cleared_lane, given.lane, State.struck_lane]
  · exact ((s.surrendered l).cleared_lane_other l hm).trans (by rw [given.lane, State.struck_lane_other _ _ hm]; rfl)
  · refine (cleared.builder.trans given.builder).trans ?_
    simp [State.struck, State.withdraw]
  · exact cleared.link.trans given.link
  · exact (cleared.claims.trans given.claims).trans (s.setLaneState_claims l .faulted)
  · exact (cleared.ports.trans given.ports).trans (s.setLaneState_ports l .faulted)
  · exact (cleared.now.trans given.now).trans (s.setLaneState_now l .faulted)

end

/-- A lane that enters FAULTED has neither history nor notices; its counts are as they were. -/
theorem State.enterFaulted_lane (s : State) (l : LaneId) :
    (s.enterFaulted l).lane l = { s.lane l with state := .faulted, history := [], notices := [] } := by
  have moved := (s.cleansed l).keeps_rehomeAll l
  obtain ⟨lane, -⟩ := s.cleansed_blocks l
  rw [State.enterFaulted_eq, State.raise_lane, moved.lane, moved.notices l (by rw [lane]), lane]

/-- What a lane's fault gives back, before its stations move; it is told of only behind that. -/
theorem State.Clean.gives_cleansed {s : State} (h : s.Clean) (l : LaneId) :
    State.GivesBack (.ofFault l (s.plansOf l) (s.lane l).history) s (s.cleansed l) ∧
      (s.cleansed l).port.reports = s.port.reports := by
  have struck : State.GivesBack {} s (s.struck l) := .of_tables h (by rw [State.struck]; simp) (by rw [State.struck]; simp)
    (by rw [State.struck, State.withdraw, State.setLaneState_eq]; rfl)
  have restored := struck.clean.gives_restoreData ((s.plansOf l).flatMap (·.data))
  have dropped := State.GivesBack.foldl (fun _ p hs => hs.gives_dropQuietly p) (s.plansOf l) restored.clean
  have cleared := (restored.trans dropped).trans (dropped.clean.gives_clearHistory l)
  have emptied := cleared.then_nothing (cleared.clean.gives_emptyNotices l)
  have history : ((s.surrendered l).lane l).history = (s.lane l).history := by
    rw [(s.keeps_surrendered l).lane, State.struck_lane]
  have quiet : ((s.struck l).restoreData ((s.plansOf l).flatMap (·.data))).Quiet (s.surrendered l) :=
    .foldl (fun t p ht => (ht.quiet_clearMarks p.record).trans ((ht.quiet_clearMarks p.record).sound.quiet_lowerRefs _ _)) _
      restored.clean.stationsSound
  have port := (quiet.trans ((s.surrendered l).quiet_cleared l quiet.sound)).port.trans
    (struck.clean.restoreData ((s.plansOf l).flatMap (·.data))).frame.port
  refine ⟨?_, ?_⟩
  · rw [← Ledger.ofFault_parts, ← history]
    exact struck.nothing_then emptied
  · refine (congrArg ControlPort.reports port).trans ?_
    exact s.setLaneState_reports l .faulted


/-! ### What a drop of a lane leaves until the lane is FAULTED -/

/-- From `s` to `t` a drop of lane `l` has been counted, with what `L` names given back: of the lane all but its notices, its drop
count and its counters is as it was, and of the others all but their notices. -/
structure State.Dropped (L : Ledger) (l : LaneId) (s t : State) : Prop where
  gives : State.GivesBack L s t
  now : t.now = s.now
  claims : t.claims = s.claims
  ports : t.ports = s.ports
  draft : t.builder.draft = s.builder.draft
  waiting : t.builder.waiting.filter (fun v => v.lane ≠ l) = s.builder.waiting.filter fun v => v.lane ≠ l
  lane : t.lane l = { s.lane l with
    notices := (t.lane l).notices, drops := (t.lane l).drops, counters := (t.lane l).counters }
  others : ∀ m, m ≠ l → t.lane m = { s.lane m with notices := (t.lane m).notices }

/-- The stations behind a lane's fault: as they were, with the marks of what was given back cleared, and those at home on the lane
moved or paused (R52, R61). -/
theorem State.GivesBack.rehomeAll_station {L : Ledger} {s c : State} {l : LaneId} (given : State.GivesBack L s c)
    (dead : (c.lane l).state ≠ .live) (others : ∀ m, m ≠ l → (c.lane m).state = (s.lane m).state) {k : Nat}
    (hk : (s.station k).state.kept = true) : let e := s.station k
    let low := ([0, 1, 2, 3, 4, 5, 6, 7] : List LaneId).find? fun m =>
      decide (m ≠ l ∧ inSet e.laneSet m = true ∧ (s.lane m).state = .live)
    let f := (c.rehomeAll l).station k
    f.state = e.state ∧ f.outstanding = e.outstanding.filter (fun m => decide ((k, m) ∉ L.marks)) ∧
    (e.home ≠ l ∨ e.paused = true → f.home = e.home ∧ f.paused = e.paused) ∧
    (∀ m, e.home = l → e.paused = false → low = some m → f.home = m ∧ f.paused = false) ∧
    (e.home = l → e.paused = false → low = none → f.home = l ∧ f.paused = true) := by
  intro e low f
  obtain ⟨state, laneSet, home, paused⟩ := given.post k hk
  obtain ⟨moves, stays⟩ := (State.rehomeAll_spec given.clean.stationsSound l).2 k (given.kept hk)
  have lowest : c.lowestLive (c.station k).laneSet = low := by rw [laneSet, State.lowestLive_without dead others]
  rw [home, paused] at moves stays
  by_cases here : e.home = l ∧ e.paused = false
  · have entry : f = ((c.station k).rehomed c.lowestLive).seal := moves here
    have away : ¬(e.home ≠ l ∨ e.paused = true) := by simp [here.1, here.2]
    refine ⟨?_, ?_, fun h => absurd h away, fun m _ _ found => ?_, fun _ _ none_ => ?_⟩
    · rw [entry]
      exact (StationEntry.rehomed_kept _ _).1.trans state
    · rw [entry, ← given.mark k hk]
      exact StationEntry.rehomed_outstanding _ _
    · rw [entry, StationEntry.rehomed_some (lowest.trans found)]
      exact ⟨rfl, paused.trans here.2⟩
    · rw [entry, StationEntry.rehomed_none (lowest.trans none_)]
      exact ⟨home.trans here.1, rfl⟩
  · have entry : f = c.station k := stays here
    rw [entry]
    exact ⟨state, given.mark k hk, fun _ => ⟨home, paused⟩, fun _ h h' => absurd ⟨h, h'⟩ here, fun h h' => absurd ⟨h, h'⟩ here⟩

/-- A drop of a lane that faults it: what the statements call `faultedTo`, and the link and the report. -/
theorem State.Dropped.faults {L : Ledger} {l : LaneId} {s b : State} (drop : State.Dropped L l s b) {plans : List Plan}
    (ledger : L.append (.ofFault l (b.plansOf l) (s.lane l).history) = .ofFault l plans (s.lane l).history)
    (lanes : ∀ p ∈ plans, p.record.lane = l) :
    s.faultedTo (b.enterFaulted l) l plans ∧
      (b.enterFaulted l).link = { b.link with queue := b.link.queue.filter fun p => p.record.lane ≠ l } ∧
      (b.port.reports.length < Config.reports → (b.enterFaulted l).port.reports =
        b.port.reports ++ [⟨s.now, .laneFaulted l (b.lane l).drops (b.plansOf l).length⟩]) := by
  obtain ⟨gives, reports⟩ := drop.gives.clean.gives_cleansed l
  obtain ⟨lane, others, builder, link, claims, ports, now⟩ := b.cleansed_blocks l
  have history : (b.lane l).history = (s.lane l).history := by rw [drop.lane]
  rw [history] at gives
  have given := drop.gives.trans gives
  rw [ledger] at given
  have moved := given.clean.stationsSound.rehomeAll_restationed l
  rw [State.enterFaulted_eq]
  generalize b.cleansed l = c at gives reports lane others builder link claims ports now given moved
  have states : ∀ m, m ≠ l → (c.lane m).state = (s.lane m).state ∧ (c.lane m).history = (s.lane m).history := fun m hm => by
    rw [others m hm, drop.others m hm]
    exact ⟨rfl, rfl⟩
  have stations := fun k hk => given.rehomeAll_station (l := l) (by rw [lane]; nofun) (fun m hm => (states m hm).1) (k := k) hk
  have same : c.rehomeAll l = { c with stations := (c.rehomeAll l).stations } := by
    rw [moved]
  generalize c.rehomeAll l = t at stations moved same
  have lanes' : ∀ m, (t.raise (.laneFaulted l (t.lane l).drops (b.plansOf l).length)).lane m = c.lane m := fun m => by
    rw [State.raise_lane, same]
    rfl
  have streams' : ∀ i, (t.raise (.laneFaulted l (t.lane l).drops (b.plansOf l).length)).stream i = c.stream i := fun i =>
    State.stream_of_streams (by rw [State.raise_streams, same]) i
  have stations' : ∀ k, (t.raise (.laneFaulted l (t.lane l).drops (b.plansOf l).length)).station k = t.station k := fun k =>
    State.station_of_stations (State.raise_stations _ _) k
  refine ⟨⟨?_, fun m hm => ?_, ?_, ?_, ?_, fun k => ?_, fun i => ?_, fun i hi => ?_, fun k hk => ?_⟩, ?_, fun room => ?_⟩
  · rw [lanes', lane, drop.lane]
  · rw [lanes']
    exact states m hm
  · rw [State.raise_builder, same]
    refine builder.trans ?_
    rw [drop.waiting]
    exact congrArg (fun d => ({ waiting := _, draft := d } : PlanBuilder)) drop.draft
  · rw [State.raise_claims, same]
    exact claims.trans drop.claims
  · rw [State.raise_ports, same]
    exact ports.trans drop.ports
  · rw [State.stationRefs, State.raise_refs, same]
    refine (given.stationRefs k).trans ?_
    rw [Ledger.ofFault, count_flatMap_append]
  · rw [State.streamRefs, State.raise_refs, same]
    refine (given.streamRefs i).trans ?_
    rw [Ledger.ofFault, count_flatMap_append]
  · have entry := given.stream i hi
    have list : ∀ m q, (t.raise (.laneFaulted l (t.lane l).drops (b.plansOf l).length)).list m q = c.list m q := fun m q => by
      rw [State.list, State.raise_streams, same]
      rfl
    rw [streams']
    refine ⟨by rw [entry]; exact hi, by rw [entry], by rw [entry]; rfl, fun bidding owner none_ some_ m on => ?_⟩
    rw [list]
    exact given.joins i m hi bidding owner none_ some_ on
  · obtain ⟨state, outstanding, rest⟩ := stations k hk
    rw [stations']
    refine ⟨state, fun cleared => ?_, fun kept => ?_, rest⟩
    · obtain ⟨m, hm⟩ : ∃ m, (s.station k).outstanding = some m := by
        rcases cleared with ⟨p, _, marked, _⟩ | ⟨h, _, marked, _⟩
        exacts [⟨_, marked⟩, ⟨_, marked⟩]
      rw [hm] at cleared
      rw [outstanding, hm]
      exact Option.filter_some_neg (by simpa using (Ledger.mem_ofFault_marks lanes).2 cleared)
    · rw [outstanding]
      refine filter_marked_other fun m hm given => kept ?_
      rw [hm]
      exact (Ledger.mem_ofFault_marks lanes).1 given
  · rw [State.raise_link, same]
    exact link
  · have drops : (t.lane l).drops = (b.lane l).drops := by
      have same' : t.lane l = c.lane l := by rw [same]; rfl
      rw [same', lane]
    have port : t.port = c.port := by rw [same]
    have now' : t.now = s.now := by rw [same]; exact now.trans drop.now
    rw [State.raise_room _ _ (by rw [port, reports]; exact room), drops, now', port, reports]

end Sys2Proof.Machine
end

section
/-! PROOFS. The skip of a waiting span (R138), and the faults of a skip and of a drop (R17, R18). -/

namespace Sys2Proof.Machine

/-- The margin of a span as it is skipped. -/
theorem marginOf_expiry (start : Time) {n : Nat} (h : n ≤ 80000) : marginOf start (start - tu n + 1) = (n : Int) - 1 := by
  have left : start - (start - tu n + 1) = tu n - 1 := by
    generalize tu n = x
    bv_omega
  have one : (1 : BitVec 32).toNat = 1 := rfl
  rw [marginOf, left, tu, BitVec.toInt_eq_toNat_cond]
  split <;> simp only [BitVec.toNat_sub, BitVec.toNat_ofNat, one] at * <;> omega

/-- The span has left the waiting set, and its skip is counted. -/
def State.skipCounted (s : State) (w : WaitingSpan) : State :=
  { s with builder := { s.builder with waiting := s.builder.waiting.filter fun v => v ≠ w } }.countDrop w.lane

/-- The skip of a span, until it is seen whether it faults the lane. -/
def State.skipTold (s : State) (w : WaitingSpan) : State :=
  (s.skipCounted w).raise (.dropped w.lane (planSeqOf w.index) .skipped (marginOf w.start s.now)
    ((s.skipCounted w).lane w.lane).drops)

theorem State.skipSpan_eq (s : State) (w : WaitingSpan) : s.skipSpan w = (s.skipTold w).faultIfDue w.lane := rfl

section
variable (s : State) (w : WaitingSpan)

theorem State.skipTold_lane : (s.skipTold w).lane w.lane = { s.lane w.lane with
    drops := min ((s.lane w.lane).drops + 1) 15
    counters := { (s.lane w.lane).counters with dropped := min ((s.lane w.lane).counters.dropped + 1) 4294967295 } } := by
  rw [State.skipTold, State.raise_lane, State.skipCounted, State.countDrop_lane]
  rfl

theorem State.skipTold_reports (room : s.port.reports.length < Config.reports) : (s.skipTold w).port.reports = s.port.reports ++
    [⟨s.now, .dropped w.lane (planSeqOf w.index) .skipped (marginOf w.start s.now) (min ((s.lane w.lane).drops + 1) 15)⟩] := by
  have drops : ((s.skipCounted w).lane w.lane).drops = min ((s.lane w.lane).drops + 1) 15 := by
    rw [State.skipCounted, State.countDrop_lane]
    rfl
  rw [State.skipTold, drops, State.raise_room (s.skipCounted w) _ room]
  rfl

/-- A skip gives nothing back, and writes the lane and the waiting set alone. -/
theorem State.Clean.dropped_skipTold {s : State} (h : s.Clean) (w : WaitingSpan) :
    State.Dropped {} w.lane s (s.skipTold w) where
  gives := .of_tables h (by rw [State.skipTold, State.raise_stations]; rfl) (by rw [State.skipTold, State.raise_streams]; rfl)
    (by rw [State.skipTold, State.raise_refs]; rfl)
  now := by rw [State.skipTold, State.raise_now]; rfl
  claims := by rw [State.skipTold, State.raise_claims]; rfl
  ports := by rw [State.skipTold, State.raise_ports]; rfl
  draft := by rw [State.skipTold, State.raise_builder]; rfl
  waiting := by
    rw [State.skipTold, State.raise_builder]
    refine (List.filter_filter ..).trans (List.filter_congr fun v _ => ?_)
    by_cases here : v = w
    · simp [here]
    · simp [here]
  lane := by rw [State.skipTold_lane]
  others m hm := by
    rw [State.skipTold, State.raise_lane, State.skipCounted, State.countDrop_lane_other _ _ hm]
    rfl

end

/-- A plan dropped at its transmit start, until it is seen whether that faults the lane. -/
def State.dropTold (s : State) (p : Plan) (rest : List Plan) : State :=
  ((s.popped rest).undoPlan p).tellDrop p (p.record.start - s.now).toInt

section
variable {s : State} (h : s.Clean) (p : Plan) (rest : List Plan)
include h

theorem State.Clean.dropTold_blocks : let t := s.dropTold p rest
    t.builder = s.builder ∧ t.link = { queue := rest, sending := none } ∧ t.claims = s.claims ∧ t.ports = s.ports ∧
      t.now = s.now ∧
      t.lane p.record.lane = { s.lane p.record.lane with
        notices := (((s.popped rest).undoPlan p).lane p.record.lane).notices
        drops := min ((s.lane p.record.lane).drops + 1) 15
        counters := { (s.lane p.record.lane).counters with
          dropped := min ((s.lane p.record.lane).counters.dropped + 1) 4294967295
          slips := p.cadence.foldl (fun n _ => satAdd Config.counterMax n 1) (s.lane p.record.lane).counters.slips } } ∧
      (∀ m, m ≠ p.record.lane → t.lane m = { s.lane m with notices := (((s.popped rest).undoPlan p).lane m).notices }) ∧
      (s.port.reports.length < 63 → t.port.reports = s.port.reports ++
        ⟨s.now, .dropped p.record.lane p.record.seq .margin (p.record.start - s.now).toInt
          (min ((s.lane p.record.lane).drops + 1) 15)⟩ ::
        if 0 < p.slips + p.cadence.length then
          [⟨s.now, .slipped p.record.lane p.record.seq (p.slips + p.cadence.length) (p.lowestSlip.toList ++ p.cadence).min?⟩]
        else []) := by
  have clean : (s.popped rest).Clean := h.of_tables rfl rfl rfl
  obtain ⟨port, now, builder, link, claims, ports, lane, others⟩ := clean.undoPlan_blocks p
  unfold State.dropTold
  generalize (s.popped rest).undoPlan p = u at port now builder link claims ports lane others
  refine ⟨?_, ?_, ?_, ?_, ?_, ?_, fun m hm => ?_, fun room => ?_⟩
  iterate 5
    rw [State.tellDrop_port]
    assumption
  · rw [State.tellDrop_lane, State.countDrop_lane, lane]
    rfl
  · rw [State.tellDrop_lane, State.countDrop_lane_other _ _ hm, others m hm]
    rfl
  · rw [State.tellDrop_reports _ _ _ (by rw [port]; exact room), port, now, lane]
    rfl

theorem State.Clean.gives_dropTold :
    State.GivesBack { Ledger.ofPlan p with data := p.data } s (s.dropTold p rest) := by
  have popped : State.GivesBack {} s (s.popped rest) := .of_tables h rfl rfl rfl
  have undone := popped.nothing_then (popped.clean.gives_undoPlan p)
  exact undone.then_nothing (.of_tables undone.clean (by rw [State.dropTold, State.tellDrop_stations])
    (by rw [State.dropTold, State.tellDrop_port]; rfl) (by rw [State.dropTold, State.tellDrop_port]; rfl))

theorem State.Clean.dropped_dropTold :
    State.Dropped { Ledger.ofPlan p with data := p.data } p.record.lane s (s.dropTold p rest) := by
  obtain ⟨builder, -, claims, ports, now, lane, others, -⟩ := h.dropTold_blocks p rest
  exact {
    gives := h.gives_dropTold p rest
    now, claims, ports
    draft := by rw [builder]
    waiting := by rw [builder]
    lane := by rw [lane]
    others := fun m hm => by rw [others m hm] }

end

/-- At its expiry a waiting span is skipped (R138). -/
theorem State.expireSpan_eq {s : State} {l : LaneId} {k : BitVec 32} {w : WaitingSpan} {u : LaneSetup}
    (waits : s.builder.waiting.find? (fun v => v.lane == l && v.index == k) = some w) (setup : (s.lane l).setup = some u)
    (now : s.now = w.start - BitVec.ofNat 32 u.Df + 1) : State.expireSpan l k s = s.skipSpan w := by
  have setupOf : s.setupOf l = u := by rw [State.setupOf, setup, Option.getD_some]
  simp only [State.expireSpan, waits, setupOf]
  exact if_pos now

/-- A counted drop faults a LIVE lane whose drop count has reached Dl, and no other (R17). -/
theorem State.faultIfDue_eq {s : State} {l : LaneId} {u : LaneSetup} (setup : (s.lane l).setup = some u) :
    s.faultIfDue l = if (s.lane l).state = .live ∧ u.Dl ≤ (s.lane l).drops then s.enterFaulted l else s := by
  rw [State.faultIfDue, State.setupOf, setup, Option.getD_some]

end Sys2Proof.Machine

open Sys2Proof Sys2Proof.Machine

/-- Settles O26: a skip and a drop each leave the lane as `State.Dropped` says, and a fault behind either gives back what is
queued. -/
theorem waitingSpanIsSkippedAtItsExpiry : Obligations.WaitingSpanIsSkippedAtItsExpiry := by
  refine ⟨?_, ?_⟩
  · intro s l k w u pin waits setup small now drops counters dropped mine
    have run : exec (.spanSkip l k) s = .next (s.skipSpan w) :=
      (s.unlessReset_free (State.expireSpan l k) pin).trans (by rw [State.expireSpan_eq waits setup now])
    obtain ⟨rfl, rfl⟩ : w.lane = l ∧ w.index = k := by simpa using List.find?_some waits
    obtain ⟨draft, gone, -⟩ := State.skipSpan_spec s w
    have lane := s.skipTold_lane w
    have reports : s.port.reports.length < 64 → (s.skipTold w).port.reports = s.port.reports ++ [dropped] := fun room => by
      have margin : marginOf w.start s.now = (u.Df : Int) - 1 := now ▸ marginOf_expiry w.start small
      rw [s.skipTold_reports w room, margin]
      rfl
    have link : (s.skipTold w).link = s.link := by rw [State.skipTold, State.raise_link]; rfl
    have due := State.faultIfDue_eq (s := s.skipTold w) (l := w.lane) (u := u) (by rw [lane]; exact setup)
    refine ⟨_, run, ?_, ?_, gone, draft, fun live most canonical stations streams => ?_, fun stays => ?_⟩
    · exact (State.skipSpan_spec s w).2.2
    · rw [State.skipSpan_eq, due]
      split
      · rw [State.enterFaulted_lane, lane]
      · rw [lane]
    · have clean : s.Clean := ⟨canonical, stations, streams⟩
      rw [State.skipSpan_eq, due, if_pos (by rw [lane]; exact ⟨live, most⟩)]
      have plans : (s.skipTold w).plansOf w.lane = mine := by rw [State.plansOf, link]
      obtain ⟨faulted, link', told⟩ := (clean.dropped_skipTold w).faults (plans := mine) (by rw [plans]; rfl)
        fun p hp => of_decide_eq_true (List.mem_filter.1 hp).2
      refine ⟨faulted, link'.trans (by rw [link]), fun room => ?_⟩
      have room' : s.port.reports.length < 64 := Nat.lt_succ_of_lt room
      rw [told (by rw [reports room', List.length_append]; exact Nat.succ_lt_succ room), reports room', plans, lane,
        List.append_assoc]
      rfl
    · rw [State.skipSpan_eq, due, if_neg (by
        rw [lane]
        rintro ⟨live, most⟩
        exact stays.elim (fun h => h live) (Nat.not_lt.2 most))]
      refine ⟨by rw [lane], link, ?_, ?_, ?_, reports⟩ <;> rw [State.skipTold]
      · rw [State.raise_stations]; rfl
      · rw [State.raise_streams]; rfl
      · rw [State.raise_builder]; rfl
  · intro s p rest l u M pin canonical ready link here live setup margin stations streams late drops mine most slips
    subst here margin
    have run : exec .transmitStart s = .next s.startTransmit := s.unlessReset_free _ pin
    have clean : s.Clean := ⟨canonical, stations, streams⟩
    have drop : ¬(p.expired = false ∧ (u.Df : Int) ≤ (p.record.start - s.now).toInt) := by
      rintro ⟨fresh, enough⟩
      exact late.elim (by simp [fresh]) (Int.not_lt.2 enough)
    rw [State.startTransmit_eq ready link setup, if_neg drop] at run
    obtain ⟨-, link', -, -, now, lane, -, reports⟩ := clean.dropTold_blocks p rest
    have fault : (s.popped rest).drop p (p.record.start - s.now).toInt = (s.dropTold p rest).enterFaulted p.record.lane := by
      refine (State.faultIfDue_eq (s := s.dropTold p rest) (u := u) (by rw [lane]; exact setup)).trans (if_pos ?_)
      rw [lane]
      exact ⟨live, most⟩
    have plans : (s.dropTold p rest).plansOf p.record.lane = mine := by rw [State.plansOf, link']
    obtain ⟨faulted, link'', told⟩ := (clean.dropped_dropTold p rest).faults (plans := p :: mine)
      (by rw [plans]; exact Ledger.ofFault_cons _ _ _ _) fun q hq => by
        rcases List.mem_cons.1 hq with rfl | hq
        exacts [rfl, of_decide_eq_true (List.mem_filter.1 hq).2]
    have settled : ((s.dropTold p rest).enterFaulted p.record.lane).settleDraining p.record.lane =
        (s.dropTold p rest).enterFaulted p.record.lane := if_neg fun ⟨draining, _⟩ => by
      rw [faulted.1] at draining
      cases draining
    rw [fault, settled] at run
    refine ⟨_, run, faulted, link''.trans (by rw [link']), ?_, ?_, fun room => ?_⟩
    · rw [State.enterFaulted_lane, lane]
    · have lost := foldl_satAdd Config.counterMax p.cadence (s.lane p.record.lane).counters.slips (.inr slips)
      rw [State.enterFaulted_lane, lane, lost]
      rfl
    · have before := reports (Nat.lt_succ_of_lt room)
      have room' : (s.dropTold p rest).port.reports.length < Config.reports := by
        rw [before, List.length_append, List.length_cons]
        have : Config.reports = 64 := rfl
        split <;> simp <;> omega
      rw [told room', before, plans, lane]
end

section
/-! PROOFS. The drop of a plan at its transmit start that does not fault its lane (R146, R147). -/

namespace Sys2Proof.Machine

/-! ### Slips (R95) -/

/-- Each lost CADENCE turn is a slip of its stream. -/
theorem State.Clean.slips_loseCadence {s : State} (h : s.Clean) (l : LaneId) {is : List Nat} {i : Nat} (hi : i ∈ is) :
    ((is.foldl (State.loseCadence l) s).stream i).slips = min ((s.stream i).slips + is.count i) 65535 := by
  obtain ⟨-, slips⟩ := foldl_read (P := State.Clean) (F := State.loseCadence l) (read := fun t i => (t.stream i).slips)
    (key := id) (g := fun _ n => satAdd Config.slipMax n 1) (fun t k clean => by
      refine ⟨(clean.gives_loseCadence l k).clean, fun j => ?_⟩
      have entry := t.stream_modStream k j (fun e => { e with slips := satAdd Config.slipMax e.slips 1 }) clean.canonical.2.1
      refine (congrArg StreamEntry.slips (entry : (State.loseCadence l t k).stream j = _)).trans ?_
      by_cases own : j = k
      · subst own
        rw [if_pos rfl, id_eq, if_pos rfl]
        rfl
      · rw [if_neg own, id_eq, if_neg own]) is h
  have some_ : is.filter (fun a => id a = i) ≠ [] := fun none_ => by simpa using List.filter_eq_nil_iff.1 none_ i hi
  rw [slips, foldl_satAdd _ _ _ (.inl some_), length_filter_id]
  rfl

/-! ### References that fall -/

/-- Removal of the notices that name a tag adds none. -/
theorem State.dropNoticesOf_notices (s : State) (k : Nat) (m : LaneId) :
    ∀ n ∈ ((s.dropNoticesOf k).lane m).notices, n ∈ (s.lane m).notices :=
  List.foldlRecOn (motive := fun t : State => ∀ n ∈ (t.lane m).notices, n ∈ (s.lane m).notices) allLanes _ (fun _ => id)
    fun t sub l _ n hn => by
      by_cases here : m = l
      · subst here
        rw [State.lane_modLane_same] at hn
        exact sub n (List.mem_of_mem_filter hn)
      · rw [State.lane_modLane_other _ _ _ _ here] at hn
        exact sub n hn

theorem State.settleStation_notices (s : State) (k : Nat) (m : LaneId) :
    ∀ n ∈ ((s.settleStation k).lane m).notices, n ∈ (s.lane m).notices := by
  unfold State.settleStation
  split
  · exact State.dropNoticesOf_notices _ k m
  · exact fun _ => id

theorem State.lowerStream_blocks (s : State) (i : Nat) :
    (s.lowerStream i).stations = s.stations ∧ (s.lowerStream i).lanes = s.lanes := by
  refine ⟨State.settleStream_stations _ i, ?_⟩
  unfold State.lowerStream State.settleStream
  split
  · exact (State.freeStream_restreamed _ i).lanes
  · rfl

theorem State.foldl_lowerStream_blocks (s : State) (is : List Nat) :
    (is.foldl State.lowerStream s).stations = s.stations ∧ (is.foldl State.lowerStream s).lanes = s.lanes :=
  List.foldlRecOn (motive := fun t : State => t.stations = s.stations ∧ t.lanes = s.lanes) is _ ⟨rfl, rfl⟩
    fun t ⟨stations, lanes⟩ i _ => by
      obtain ⟨stations', lanes'⟩ := t.lowerStream_blocks i
      exact ⟨stations'.trans stations, lanes'.trans lanes⟩

theorem State.lowerRefs_notices (s : State) (stations streams : List Nat) (m : LaneId) :
    ∀ n ∈ ((s.lowerRefs stations streams).lane m).notices, n ∈ (s.lane m).notices := by
  have first : ∀ n ∈ ((stations.foldl State.lowerStation s).lane m).notices, n ∈ (s.lane m).notices :=
    List.foldlRecOn (motive := fun t : State => ∀ n ∈ (t.lane m).notices, n ∈ (s.lane m).notices) stations _ (fun _ => id)
      fun t sub k _ n hn => sub n (State.settleStation_notices (t.setStationRefs k (t.stationRefs k - 1)) k m n hn)
  rw [State.lowerRefs, State.lane, (State.foldl_lowerStream_blocks _ streams).2]
  exact first

/-- With none of the stations RELEASING, references fall without a write of stations or lanes. -/
theorem State.lowerRefs_of_none {s : State} {stations : List Nat} (streams : List Nat)
    (none_ : ∀ k ∈ stations, (s.station k).state ≠ .releasing) :
    (s.lowerRefs stations streams).stations = s.stations ∧ (s.lowerRefs stations streams).lanes = s.lanes := by
  obtain ⟨same, same'⟩ : (stations.foldl State.lowerStation s).stations = s.stations ∧
      (stations.foldl State.lowerStation s).lanes = s.lanes :=
    List.foldlRecOn (motive := fun t : State => t.stations = s.stations ∧ t.lanes = s.lanes) stations _ ⟨rfl, rfl⟩
      fun t ⟨st, la⟩ k hk => by
        have stays : t.lowerStation k = t.setStationRefs k (t.stationRefs k - 1) := if_neg fun ⟨releasing, _⟩ =>
          none_ k hk ((congrArg StationEntry.state (State.station_of_stations st k)).symm.trans releasing)
        rw [stays]
        exact ⟨st, la⟩
  obtain ⟨stations', lanes'⟩ := State.foldl_lowerStream_blocks (stations.foldl State.lowerStation s) streams
  exact ⟨stations'.trans same, lanes'.trans same'⟩

/-! ### Marks cleared (R61) -/

/-- A notice that a plan carried is unmarked. -/
def Notice.unmarked (q : PlanSeq) (n : Notice) : Notice := if n.mark = some q then { n with mark := none } else n

theorem Notice.unmarked_mark (q : PlanSeq) (n : Notice) : (n.unmarked q).mark ≠ some q := by
  unfold Notice.unmarked
  split
  · simp
  · assumption

/-- The marks of a plan are cleared in its lane's notices and in the stations given its ALIGN turns. -/
theorem State.Clean.clearMarks_spec {s : State} (h : s.Clean) (p : PlanRecord) :
    (s.mapNotices p.lane (.unmarked p.seq)).Restationed (s.clearMarks p) ∧ ∀ k, (s.clearMarks p).station k =
      if k ∈ alignTags p.turns then (s.station k).unmarked p.lane p.seq else s.station k := by
  have wrote : (s.mapNotices p.lane (.unmarked p.seq)).Clean := h.of_tables rfl rfl rfl
  have walk := foldl_read_idem (P := fun t => t.Clean ∧ (s.mapNotices p.lane (.unmarked p.seq)).Restationed t)
    (F := State.clearMarkLink p.lane p.seq) (read := State.station) (StationEntry.unmarked_unmarked p.lane p.seq)
    (fun t k ⟨clean, frame⟩ => by
      obtain ⟨same, clean'⟩ := clean.clearMarkLink p.lane p.seq k
      rw [same]
      exact ⟨⟨clean', frame.trans (t.clearMark_restationed _ _ k)⟩, t.station_clearMark clean.canonical _ _ k⟩)
    (alignTags p.turns) ⟨wrote, rfl⟩
  exact ⟨walk.1.2, walk.2⟩

/-! ### The drop (R146) -/

section
variable {s : State} (h : s.Clean) (p : Plan) (rest : List Plan)
include h

/-- The state whose planned bytes are given back, and whose lost CADENCE turns are counted. -/
theorem State.Clean.dropTold_start : ∃ c : State, c.Clean ∧ State.GivesBack { data := p.data } s c ∧
    c.stations = s.stations ∧ (∀ m, (c.lane m).notices = (s.lane m).notices) ∧
    (∀ i ∈ p.cadence, (c.stream i).slips = min ((s.stream i).slips + p.cadence.count i) 65535) ∧
    (s.popped rest).undoPlan p = (c.clearMarks p.record).lowerRefs p.stations p.streams := by
  have popped : State.GivesBack {} s (s.popped rest) := .of_tables h rfl rfl rfl
  have restored := popped.clean.gives_restoreData p.data
  have lost := restored.clean.gives_foldl_loseCadence p.record.lane p.cadence
  have spec := popped.clean.restoreData p.data
  obtain ⟨frame, lane, others⟩ := ((s.popped rest).restoreData p.data).foldl_loseCadence p.record.lane p.cadence
  have lanes : ∀ m, (((s.popped rest).restoreData p.data).lane m).notices = (s.lane m).notices := fun m => by
    rw [State.lane, spec.frame.lanes]
    rfl
  refine ⟨_, lost.clean, (popped.nothing_then restored).then_nothing lost, ?_, fun m => ?_, fun i hi => ?_, rfl⟩
  · rw [frame]
    exact spec.frame.stations
  · by_cases here : m = p.record.lane
    · rw [here, lane]
      exact lanes _
    · rw [others m here]
      exact lanes m
  · rw [restored.clean.slips_loseCadence p.record.lane hi, spec.stream]
    rfl

/-- The slips of the streams whose CADENCE turns are lost. -/
theorem State.Clean.dropTold_slips {i : Nat} (hi : i ∈ p.cadence) (inUse : (s.stream i).state = .inUse) :
    ((s.dropTold p rest).stream i).slips = min ((s.stream i).slips + p.cadence.count i) 65535 := by
  obtain ⟨c, clean, given, -, -, slips, eq⟩ := h.dropTold_start p rest
  have marks := clean.stationsSound.quiet_clearMarks p.record
  have lowered := marks.trans (marks.sound.quiet_lowerRefs p.stations p.streams)
  have told : (s.dropTold p rest).stream i = ((s.popped rest).undoPlan p).stream i :=
    State.stream_of_streams (by rw [State.dropTold, State.tellDrop_port]; rfl) i
  rw [told, eq, lowered.inUse clean.canonical.2.1 i (given.inUse inUse), slips i hi]

/-- No notice stays marked with the plan dropped. -/
theorem State.Clean.dropTold_unmarked : ∀ n ∈ (((s.popped rest).undoPlan p).lane p.record.lane).notices,
    n.mark ≠ some p.record.seq := by
  obtain ⟨c, clean, -, -, -, -, eq⟩ := h.dropTold_start p rest
  intro n hn
  rw [eq] at hn
  have mem := State.lowerRefs_notices _ _ _ _ _ hn
  rw [State.lane, (clean.clearMarks_spec p.record).1, State.mapNotices] at mem
  have here := c.lane_modLane_same p.record.lane fun v => { v with notices := v.notices.map (Notice.unmarked p.record.seq) }
  obtain ⟨n', -, rfl⟩ := List.mem_map.1 ((congrArg Lane.notices here) ▸ mem)
  exact Notice.unmarked_mark _ _

/-- With none of the plan's stations RELEASING, its notices stay in the queue, and the stations are as they were but for its
marks. -/
theorem State.Clean.dropTold_of_none (none_ : ∀ k ∈ p.stations, (s.station k).state ≠ .releasing) :
    (((s.popped rest).undoPlan p).lane p.record.lane).notices = (s.lane p.record.lane).notices.map (.unmarked p.record.seq) ∧
      (∀ m, m ≠ p.record.lane → (((s.popped rest).undoPlan p).lane m).notices = (s.lane m).notices) ∧
      ∀ k, (s.dropTold p rest).station k = if k ∈ alignTags p.record.turns then
        (s.station k).unmarked p.record.lane p.record.seq else s.station k := by
  obtain ⟨c, clean, -, stations, notices, -, eq⟩ := h.dropTold_start p rest
  obtain ⟨frame, marks⟩ := clean.clearMarks_spec p.record
  have station := State.station_of_stations stations
  simp only [station] at marks
  have none' : ∀ k ∈ p.stations, ((c.clearMarks p.record).station k).state ≠ .releasing := fun k hk => by
    rw [marks]
    split
    · rw [(StationEntry.unmarked_kept _ _ _).1]
      exact none_ k hk
    · exact none_ k hk
  obtain ⟨stations', lanes'⟩ := State.lowerRefs_of_none p.streams none'
  have lanes : ∀ m, ((s.popped rest).undoPlan p).lane m = (c.mapNotices p.record.lane (.unmarked p.record.seq)).lane m :=
    fun m => by rw [eq, State.lane, lanes', frame]; rfl
  refine ⟨?_, fun m hm => ?_, fun k => ?_⟩
  · rw [lanes, State.mapNotices, State.lane_modLane_same, ← notices]
  · rw [lanes, State.mapNotices, State.lane_modLane_other _ _ _ _ hm, notices]
  · rw [← marks]
    refine State.station_of_stations ?_ k
    rw [State.dropTold, State.tellDrop_stations, eq, stations']

end

end Sys2Proof.Machine
end

section
/-! PROOFS. The commit of a plan at its transmit start, with room in the lane's history (R145). -/

namespace Sys2Proof.Machine

/-! ### Step 1: the streams (R89, R94) -/

/-- The entry of a stream whose DATA turn is committed. -/
def StreamEntry.committed (n : Nat) (e : StreamEntry) : StreamEntry := { e with D := e.D - n, G := e.G - n, relist := false }.seal

def StreamEntry.unlisted (e : StreamEntry) : StreamEntry := { e with relist := false }.seal

/-- A stream's D and G fall by its cover; of a stream without a DATA turn no more than the relist flag is written, and that only
where the plan carries a PENDING notice for it. -/
theorem State.Clean.commitStreams_spec {s : State} (h : s.Clean) {p : Plan} (nodup : (p.data.map (·.stream)).Nodup) :
    ((s.commitStreams p).Clean ∧ s.Reentered (s.commitStreams p)) ∧
      (∀ x ∈ p.data, ((s.commitStreams p).stream x.stream).D = (s.stream x.stream).D - x.cover ∧
        ((s.commitStreams p).stream x.stream).G = (s.stream x.stream).G - x.cover ∧
        ((s.commitStreams p).stream x.stream).relist = false ∧
        ((s.commitStreams p).stream x.stream).credit = (s.stream x.stream).credit) ∧
      (∀ i ∈ p.pendings, ((s.commitStreams p).stream i).relist = false) ∧
      ∀ i, i ∉ p.data.map (·.stream) → i ∉ p.pendings → (s.commitStreams p).stream i = s.stream i := by
  obtain ⟨⟨clean, frame⟩, data⟩ := foldl_read (P := fun t : State => t.Clean ∧ s.Reentered t) (F := State.commitData)
    (read := State.stream) (key := DataTurn.stream) (g := fun x e => e.committed x.cover) (fun t x ⟨clean, frame⟩ => by
      rw [State.commitData, t.checkStream_passes _ _ (clean.streams _)]
      refine ⟨⟨clean.modStream _ _, frame.trans (.modStream t _ _)⟩, fun i => ?_⟩
      rw [t.stream_modStream _ _ _ clean.canonical.2.1]
      split
      · subst i
        rfl
      · rfl) p.data ⟨h, State.Reentered.refl s⟩
  unfold State.commitStreams
  generalize p.data.foldl State.commitData s = u at clean frame data
  obtain ⟨blocks, pendings⟩ := foldl_read_idem (P := fun t : State => t.Clean ∧ s.Reentered t)
    (F := fun s i => s.modStream i fun e => { e with relist := false }) (read := State.stream) (g := StreamEntry.unlisted)
    (fun _ => rfl) (fun t k ⟨clean, frame⟩ => by
      refine ⟨⟨clean.modStream _ _, frame.trans (.modStream t _ _)⟩, fun i => ?_⟩
      rw [t.stream_modStream _ _ _ clean.canonical.2.1]
      split
      · subst i
        rfl
      · rfl) p.pendings ⟨clean, frame⟩
  refine ⟨blocks, fun x hx => ?_, fun i hi => ?_, fun i out out' => ?_⟩
  · have entry : u.stream x.stream = (s.stream x.stream).committed x.cover := by
      rw [data, filter_stream_of_nodup nodup hx]
      rfl
    rw [pendings, entry]
    split <;> exact ⟨rfl, rfl, rfl, rfl⟩
  · rw [pendings, if_pos hi]
    rfl
  · have none_ : p.data.filter (fun x => x.stream = i) = [] :=
      List.filter_eq_nil_iff.2 fun x hx e => out (List.mem_map.2 ⟨x, hx, of_decide_eq_true e⟩)
    rw [pendings, if_neg out', data, none_]
    rfl

/-! ### Step 2: the notices (R67) -/

/-- The entry of a station that waits for no verdict. -/
def StationEntry.answered (e : StationEntry) : StationEntry := { e with verdictWaiting := false }.seal

/-- The tags of the CORRECTION notices that leave with a plan. -/
def State.correctionsOf (s : State) (p : PlanRecord) : List Nat :=
  (((s.lane p.lane).notices.filter fun n => n.mark == some p.seq).filter fun n => n.body.isCorrection).map fun n => n.body.tag

/-- The notices of a plan leave the queue, and the stations whose CORRECTION notice was among them wait for no verdict. -/
theorem State.Clean.commitNotices_spec {s : State} (h : s.Clean) (p : PlanRecord) :
    ((s.commitNotices p).Clean ∧
      (s.modLane p.lane fun v => { v with notices := v.notices.filter fun n => n.mark != some p.seq }).Restationed
        (s.commitNotices p)) ∧
      ∀ k, (s.commitNotices p).station k = if k ∈ s.correctionsOf p then (s.station k).answered else s.station k := by
  let left := s.modLane p.lane fun v => { v with notices := v.notices.filter fun n => n.mark != some p.seq }
  have walk := foldl_read_idem (P := fun t : State => t.Clean ∧ left.Restationed t)
    (F := fun s k => (s.checkStation .link k).modStation k fun e => { e with verdictWaiting := false }) (read := State.station)
    (g := StationEntry.answered) (fun _ => rfl) (fun t k ⟨clean, frame⟩ => by
      rw [t.checkStation_passes _ _ (clean.stations k)]
      refine ⟨⟨clean.modStation k _, frame.trans (.modStation t k _)⟩, fun j => ?_⟩
      rw [t.station_modStation _ _ _ clean.canonical.1]
      split
      · subst j
        rfl
      · rfl) (s.correctionsOf p) (s := left) ⟨h.of_tables rfl rfl rfl, rfl⟩
  rw [State.correctionsOf, List.foldl_map, List.foldl_filter] at walk
  exact walk

/-! ### Steps 4 to 6: the lane, its reports and the transmitter -/

theorem slotsOffered_eq (turns : List Turn) :
    slotsOffered turns = ((turns.filter fun t => t.kind = .claim).map (·.slots)).sum := by
  induction turns with
  | nil => rfl
  | cons t rest ih =>
    rw [slotsOffered_cons, ih]
    by_cases claim : t.kind = .claim <;> simp [claim]

/-- The history entry of a plan, written out (R133). -/
theorem Plan.entry_eq (p : Plan) : p.entry =
    { seq := p.record.seq, startQ := p.record.startQ, start := p.record.start
      slots := ((p.record.turns.filter fun t => t.kind = .claim).map (·.slots)).sum
      tallyArrived := false, turns := (p.record.turns.filter fun t => t.kind = .align).map fun t => ⟨t.tag, false⟩
      openWindow := p.openWindow, joins := 0, stations := p.stations, streams := p.streams } := by
  rw [Plan.entry, slotsOffered_eq, alignTags, List.map_map]
  rfl

/-- A report depends on the Control Port and on plant time alone. -/
theorem State.raise_congr {s t : State} (now : s.now = t.now) (port : s.port = t.port) (b : ReportBody) :
    (s.raise b).port = (t.raise b).port := by
  unfold State.raise
  rw [port, now]
  split <;> rfl

/-- The state with the reports of a commit: LATE where the late flag rises, and SLIPPED where there are placement slips (R145,
R147). -/
def State.sentReports (s : State) (p : Plan) (u : LaneSetup) (M : Int) : State :=
  let told := if M < u.Wm ∧ (s.lane p.record.lane).late = false then s.raise (.late p.record.lane p.record.seq M) else s
  if 0 < p.slips then told.raise (.slipped p.record.lane p.record.seq p.slips p.lowestSlip) else told

theorem State.sentReports_congr {s t : State} {p : Plan} {u : LaneSetup} {M : Int} (now : s.now = t.now) (port : s.port = t.port)
    (late : (s.lane p.record.lane).late = (t.lane p.record.lane).late) :
    (s.sentReports p u M).port = (t.sentReports p u M).port := by
  unfold State.sentReports
  rw [late]
  dsimp only
  split <;> split
  · refine State.raise_congr ?_ (State.raise_congr now port _) _
    rw [State.raise_now, State.raise_now, now]
  · exact State.raise_congr now port _
  · exact State.raise_congr now port _
  · exact port

/-- The reports of a commit, where the report queue has room for them. -/
theorem State.sentReports_reports (s : State) (p : Plan) (u : LaneSetup) (M : Int) :
    ((u.Wm : Int) ≤ M ∨ (s.lane p.record.lane).late = true → p.slips = 0 → s.sentReports p u M = s) ∧
    (M < u.Wm → (s.lane p.record.lane).late = false → p.slips = 0 → s.port.reports.length < 64 →
      (s.sentReports p u M).port.reports = s.port.reports ++ [⟨s.now, .late p.record.lane p.record.seq M⟩]) ∧
    (0 < p.slips → (u.Wm : Int) ≤ M → s.port.reports.length < 64 → (s.sentReports p u M).port.reports =
      s.port.reports ++ [⟨s.now, .slipped p.record.lane p.record.seq p.slips p.lowestSlip⟩]) := by
  unfold State.sentReports
  refine ⟨fun timely none_ => ?_, fun short unlate none_ room => ?_, fun some_ wide room => ?_⟩
  · have silent : ¬(M < u.Wm ∧ (s.lane p.record.lane).late = false) := fun ⟨short, unlate⟩ =>
      timely.elim (Int.not_le.2 short) (by simp [unlate])
    simp only [none_, Nat.lt_irrefl, if_false, if_neg silent]
  · simp only [none_, Nat.lt_irrefl, if_false, if_pos (And.intro short unlate), State.raise_room _ _ room]
  · simp only [some_, if_true, if_neg fun h : M < u.Wm ∧ _ => Int.not_le.2 h.1 wide, State.raise_room _ _ room]

section
variable (s : State) (p : Plan) (M : Int) {u : LaneSetup} (setup : (s.lane p.record.lane).setup = some u)
include setup

/-- Step 5: the late flag follows the margin, and LATE tells of it as it rises. -/
theorem State.judgeLate_eq : s.judgeLate p.record M =
    { s.modLane p.record.lane fun v => { v with late := decide (M < u.Wm) } with
      port := if M < u.Wm ∧ (s.lane p.record.lane).late = false then (s.raise (.late p.record.lane p.record.seq M)).port
        else s.port } := by
  have setupOf : s.setupOf p.record.lane = u := by rw [State.setupOf, setup, Option.getD_some]
  unfold State.judgeLate
  rw [setupOf]
  by_cases short : M < u.Wm
  · rw [if_pos short]
    simp only [short, decide_true, true_and]
    by_cases late : (s.lane p.record.lane).late = true
    · have same : { s.lane p.record.lane with late := true } = s.lane p.record.lane := by rw [← late]
      rw [if_pos late, if_neg (by simp [late]), State.modLane, State.setLane, same, State.lane]
      simp
    · rw [if_neg late, if_pos (by simpa using late), State.raise_port]
      congr 1
      refine State.raise_congr ?_ ?_ _ <;> rfl
  · rw [if_neg short, if_neg fun h => short h.1]
    simp only [short, decide_false]
    rfl

/-- The lane of a plan that is committed (R145). -/
def Lane.sent (r : PlanRecord) (late : Bool) (v : Lane) : Lane :=
  { v with
    coveredUntil := some (r.start + BitVec.ofNat 32 (r.S * r.Lq)), drops := 0, late := late
    counters := { v.counters with transmitted := min (v.counters.transmitted + 1) 4294967295 } }

/-- What steps 4 to 6 of a commit write: the lane, the transmitter and the Control Port. -/
theorem State.sendPlan_eq : s.sendPlan p M =
    { s.modLane p.record.lane (.sent p.record (decide (M < u.Wm))) with
      link := { s.link with sending := some p.record }, port := (s.sendPlan p M).port } := by
  have committed : ((s.commitLane p.record).lane p.record.lane).setup = some u := by
    rw [State.commitLane, State.lane_modLane_same]
    exact setup
  unfold State.sendPlan
  dsimp only
  rw [State.reportSlips_port, State.judgeLate_eq _ _ _ committed, State.commitLane, State.modLane_modLane]
  rfl

theorem State.sendPlan_port : (s.sendPlan p M).port = (s.sentReports p u M).port := by
  have committed : (s.commitLane p.record).lane p.record.lane = { s.lane p.record.lane with
      coveredUntil := some p.record.stop, drops := 0
      counters := { (s.lane p.record.lane).counters with
        transmitted := raiseBy 1 (s.lane p.record.lane).counters.transmitted } } := s.lane_modLane_same _ _
  have judged : ((s.commitLane p.record).judgeLate p.record M).port =
      (if M < u.Wm ∧ (s.lane p.record.lane).late = false then s.raise (.late p.record.lane p.record.seq M) else s).port := by
    rw [State.judgeLate_eq _ _ _ (by rw [committed]; exact setup), committed]
    dsimp only
    split
    · refine State.raise_congr ?_ ?_ _ <;> rfl
    · rfl
  have now : ((s.commitLane p.record).judgeLate p.record M).now =
      (if M < u.Wm ∧ (s.lane p.record.lane).late = false then s.raise (.late p.record.lane p.record.seq M) else s).now := by
    rw [State.judgeLate_eq _ _ _ (by rw [committed]; exact setup)]
    refine Eq.trans (b := s.now) rfl ?_
    split
    · rw [State.raise_now]
    · rfl
  unfold State.sendPlan State.reportSlips State.sentReports
  dsimp only
  split
  · exact State.raise_congr now judged _
  · exact judged

end

end Sys2Proof.Machine
end

section
/-! PROOFS. The plan of a commit taken off its streams and notices, and its entry with room in the history (R8, R145). -/

namespace Sys2Proof.Machine

/-- Steps 1 and 2 of a commit at transmit start. -/
def State.takenUp (s : State) (p : Plan) (rest : List Plan) : State :=
  ((s.popped rest).commitStreams p).commitNotices p.record

section
variable {s : State} (h : s.Clean) {p : Plan} (nodup : (p.data.map (·.stream)).Nodup) (rest : List Plan)
include h nodup

/-- The first two steps of a commit write the lane's notices, and entries of the tables. -/
theorem State.Clean.takenUp_blocks : (s.takenUp p rest).Clean ∧
    ((s.takenUp p rest).link = { queue := rest, sending := none } ∧ (s.takenUp p rest).refs = s.refs ∧
      (s.takenUp p rest).builder = s.builder ∧ (s.takenUp p rest).claims = s.claims ∧ (s.takenUp p rest).now = s.now ∧
      (s.takenUp p rest).port = s.port ∧ (s.takenUp p rest).align = s.align) ∧
    (s.takenUp p rest).lane p.record.lane = { s.lane p.record.lane with
      notices := (s.lane p.record.lane).notices.filter fun n => n.mark != some p.record.seq } ∧
    (∀ m, m ≠ p.record.lane → (s.takenUp p rest).lane m = s.lane m) ∧
    (s.takenUp p rest).streams = ((s.popped rest).commitStreams p).streams ∧
    (s.takenUp p rest).streams.service = s.streams.service ∧
    ∀ k, (s.takenUp p rest).station k = if k ∈ s.correctionsOf p.record then (s.station k).answered else s.station k := by
  have popped : (s.popped rest).Clean := h.of_tables rfl rfl rfl
  obtain ⟨⟨clean, frame⟩, -⟩ := popped.commitStreams_spec nodup
  unfold State.takenUp
  generalize (s.popped rest).commitStreams p = u at clean frame
  obtain ⟨⟨clean', frame'⟩, station⟩ := clean.commitNotices_spec p.record
  generalize u.commitNotices p.record = c at clean' frame' station
  have lanes : u.lanes = s.lanes := by rw [frame]; rfl
  have lane : ∀ m, c.lane m = (s.modLane p.record.lane fun v =>
      { v with notices := v.notices.filter fun n => n.mark != some p.record.seq }).lane m := fun m => by
    rw [frame', State.lane, State.modLane, State.setLane, State.lane, lanes]
    rfl
  refine ⟨clean', ?_, ?_, fun m hm => ?_, by rw [frame']; rfl, by rw [frame', frame]; rfl, fun k => ?_⟩
  · rw [frame', frame]
    exact ⟨rfl, rfl, rfl, rfl, rfl, rfl, rfl⟩
  · rw [lane, State.lane_modLane_same]
  · rw [lane, State.lane_modLane_other _ _ _ _ hm]
  · have corrections : u.correctionsOf p.record = s.correctionsOf p.record := by
      rw [State.correctionsOf, State.lane, lanes]
      rfl
    rw [station, corrections, State.station_of_stations frame.stations]
    rfl

end

/-- With room in the history an entry joins its tail (R8). -/
theorem State.pushHistory_room {s : State} {l : LaneId} (h : HistEntry) (room : (s.lane l).history.length < 4) :
    s.pushHistory l h = s.modLane l fun v => { v with history := (s.lane l).history ++ [h] } := by
  rw [State.pushHistory, if_neg]
  rw [List.length_append, List.length_singleton]
  exact Nat.not_lt.2 room

/-- A fifth entry evicts the oldest (R8, R9). -/
theorem State.pushHistory_full {s : State} {l : LaneId} {first : HistEntry} {tail : List HistEntry} (h : HistEntry)
    (history : (s.lane l).history = first :: tail) (full : 4 ≤ (s.lane l).history.length) :
    s.pushHistory l h = (s.modLane l fun v => { v with history := tail ++ [h] }).evict l first := by
  have long : Config.history < ((s.lane l).history ++ [h]).length := by
    rw [List.length_append, List.length_singleton]
    exact Nat.lt_succ_of_le full
  rw [State.pushHistory, if_pos long, history]
  rfl

theorem State.commit_eq_sendPlan (s : State) (p : Plan) (rest : List Plan) (M : Int) : (s.popped rest).commit p M =
    ((s.takenUp p rest).pushHistory p.record.lane p.entry).sendPlan p M := rfl

/-- A commit with room in the history: the lane and the transmitter, with the tables as the plan's streams and notices left them. -/
theorem State.Clean.commit_room {s : State} (h : s.Clean) {p : Plan} (nodup : (p.data.map (·.stream)).Nodup) (rest : List Plan)
    (M : Int) {u : LaneSetup} (setup : (s.lane p.record.lane).setup = some u)
    (room : (s.lane p.record.lane).history.length < 4) : let r := (s.popped rest).commit p M
    r.link = { queue := rest, sending := some p.record } ∧
    r.lane p.record.lane = Lane.sent p.record (decide (M < u.Wm)) { s.lane p.record.lane with
      history := (s.lane p.record.lane).history ++ [p.entry]
      notices := (s.lane p.record.lane).notices.filter fun n => n.mark != some p.record.seq } ∧
    (∀ m, m ≠ p.record.lane → r.lane m = s.lane m) ∧ r.refs = s.refs ∧ r.builder = s.builder ∧ r.claims = s.claims ∧
    r.streams = ((s.popped rest).commitStreams p).streams ∧
    (∀ k, r.station k = if k ∈ s.correctionsOf p.record then (s.station k).answered else s.station k) ∧
    r.port = (s.sentReports p u M).port := by
  obtain ⟨-, ⟨link, refs, builder, claims, now, port, -⟩, lane, others, streams, -, station⟩ := h.takenUp_blocks nodup rest
  rw [State.commit_eq_sendPlan, State.pushHistory_room _ (by rw [lane]; exact room)]
  generalize s.takenUp p rest = c at link refs builder claims now port lane others streams station
  let d := c.modLane p.record.lane fun v => { v with history := (c.lane p.record.lane).history ++ [p.entry] }
  have lane' : d.lane p.record.lane = { s.lane p.record.lane with
      history := (s.lane p.record.lane).history ++ [p.entry]
      notices := (s.lane p.record.lane).notices.filter fun n => n.mark != some p.record.seq } := by
    rw [State.lane_modLane_same, lane]
  have setup' : (d.lane p.record.lane).setup = some u := by rw [lane']; exact setup
  have sent := d.sendPlan_eq p M setup'
  have told := d.sendPlan_port p M setup'
  change let r := d.sendPlan p M; r.link = _ ∧ _
  generalize d.sendPlan p M = r at sent told
  refine ⟨?_, ?_, fun m hm => ?_, ?_, ?_, ?_, ?_, fun k => ?_, ?_⟩
  · rw [sent]
    exact congrArg (fun q : PlanLink => { q with sending := some p.record }) link
  · rw [sent, ← lane']
    exact d.lane_modLane_same _ _
  · rw [sent]
    exact (d.lane_modLane_other _ m _ hm).trans ((c.lane_modLane_other _ m _ hm).trans (others m hm))
  · rw [sent]
    exact refs
  · rw [sent]
    exact builder
  · rw [sent]
    exact claims
  · rw [sent]
    exact streams
  · rw [sent]
    exact station k
  · rw [told]
    exact State.sentReports_congr now port (by rw [lane'])

end Sys2Proof.Machine
end

section
/-! PROOFS. The eviction of a history entry (R9): its references, its unresolved turns, and its tally. -/

namespace Sys2Proof.Machine

/-! ### Work on one station -/

/-- What the resolution of a turn of station `k` leaves: the other stations and their places on the due queue, the reference counts,
and station entries that pass their check. -/
structure State.Solo (k : Nat) (s t : State) : Prop where
  confined : State.Confined k s t
  sound : t.stationsSound
  refs : t.refs = s.refs
  due : ∀ j, j ≠ k → j ∈ s.align.dueQueue → j ∈ t.align.dueQueue

/-- A station's demand is cleared by writes of the stream table. -/
theorem State.clearStreams_restreamed (s : State) (k : Nat) : s.Restreamed (s.clearStreams k) :=
  List.foldlRecOn (motive := fun t : State => s.Restreamed t) _ State.clearDemand rfl fun t same i _ =>
    same.trans ((State.Restreamed.modStream t i _).trans (.of_relisted (.leaveLists _ i)))

/-- The walk that tidies a station's references writes that station's entry alone. -/
theorem State.stationsSound.tidyRefs {s : State} (h : s.stationsSound) (k : Nat) :
    (s.tidyRefs k).stationsSound ∧ s.Restationed (s.tidyRefs k) :=
  List.foldlRecOn (motive := fun t : State => t.stationsSound ∧ s.Restationed t) allSlots _ ⟨h, rfl⟩
    fun t ⟨sound, frame⟩ _ _ => ⟨sound.modStation k _, frame.trans (.modStation t k _)⟩

theorem State.stationsSound.removeStream {s : State} (h : s.stationsSound) (i : Nat) : (s.removeStream i).stationsSound := by
  refine State.stationsSound.of_entries (s := s.dropReference i) ?_ (by rw [State.removeStream_stations])
  unfold State.dropReference
  split
  · exact h.modStation _ _
  · exact h

theorem State.stationsSound.disowned {s : State} (h : s.stationsSound) (k : Nat) : (s.disowned k).stationsSound := by
  have unmapped : (s.unmapped k).stationsSound := State.stationsSound.modStation (s := s.forgotten k) h k _
  have removed : ((s.unmapped k).removeStreams k).stationsSound :=
    List.foldlRecOn (motive := State.stationsSound) _ State.removeStream unmapped fun t sound i _ => sound.removeStream i
  exact removed.modStation k _

theorem State.freeStation_align (s : State) (k : Nat) : (s.freeStation k).align = (s.leaveDue k).align := by
  obtain ⟨frame, -⟩ := s.freeStation_spec k
  generalize s.freeStation k = t at frame
  rw [frame]

/-- A station that is not in use misses no turn (R72). -/
theorem State.noShow_out {s : State} {k : Nat} (l : LaneId) (out : ¬(s.station k).state.kept = true) : s.noShow l k = s := by
  unfold State.noShow
  dsimp only
  split
  · rfl
  · generalize (s.station k).state = st at out
    cases st with
    | free | quarantined | releasing => rfl
    | aligning | ready | active | held | lapsed => exact absurd rfl out

namespace State.Solo

variable {k : Nat} {s t u : State}

theorem trans (h : State.Solo k s t) (h' : State.Solo k t u) : State.Solo k s u :=
  ⟨h.confined.trans h'.confined, h'.sound, h'.refs.trans h.refs, fun j hj on => h'.due j hj (h.due j hj on)⟩

theorem canonical (h : State.Solo k s t) : t.tablesCanonical := h.confined.canonical

section
variable (hs : s.tablesCanonical) (sound : s.stationsSound)
include hs sound

theorem refl (k : Nat) : State.Solo k s s := ⟨.refl k hs, sound, rfl, fun _ _ => id⟩

/-- Work that writes no table, and takes no other station off the due queue. -/
theorem of_tables (entries : t.stations.entries = s.stations.entries) (streams : t.streams = s.streams) (refs : t.refs = s.refs)
    (due : ∀ j, j ≠ k → j ∈ s.align.dueQueue → j ∈ t.align.dueQueue) : State.Solo k s t :=
  ⟨.of_tables hs entries streams refs, sound.of_entries entries, refs, due⟩

theorem modStation (k : Nat) {f : StationEntry → StationEntry} (unmarked : ∀ e, e.outstanding = none → (f e).outstanding = none) :
    State.Solo k s (s.modStation k f) :=
  ⟨.modStation hs k f unmarked, sound.modStation k f, rfl, fun _ _ => id⟩

theorem raise (k : Nat) (b : ReportBody) : State.Solo k s (s.raise b) :=
  of_tables hs sound (congrArg (·.entries) (s.raise_stations b)) (s.raise_streams b) (s.raise_refs b)
    fun _ _ on => by rwa [State.raise_align]

theorem setDueNow (k : Nat) : State.Solo k s (s.setDueNow k) :=
  have wrote := modStation hs sound k (f := fun e => { e with due := s.now }) fun _ => id
  wrote.trans <| of_tables wrote.canonical wrote.sound rfl rfl rfl fun j _ on => (State.mem_joinDue _ k j).2 (.inr on)

/-! ### Entry into LAPSED, and a release (R50, R70) -/

theorem enterLapsed (k : Nat) (cause : Cause) : State.Solo k s (s.enterLapsed k cause) := by
  have wrote := modStation hs sound k (f := .lapsed) fun _ => id
  obtain ⟨sound', tidied⟩ := wrote.sound.tidyRefs k
  have cleared := ((s.modStation k .lapsed).tidyRefs k).clearStreams_restreamed k
  have lapsed : State.Solo k s (s.lapsed k) :=
    ⟨(s.lapsed_spec hs k).1, sound'.of_entries (congrArg (·.entries) cleared.stations),
      cleared.refs.trans (by rw [tidied]; rfl), fun _ _ on => by
        rw [State.lapsed, cleared, tidied]
        exact on⟩
  have due := setDueNow lapsed.canonical lapsed.sound k
  rw [State.enterLapsed_eq]
  exact lapsed.trans (due.trans (raise due.canonical due.sound k _))

theorem disowned (k : Nat) : State.Solo k s (s.disowned k) := by
  obtain ⟨canonical, -⟩ := s.unmapped_spec hs k
  have removed := (State.removeStreams_work canonical k).align
  refine ⟨State.confined_disowned hs k, sound.disowned k, (s.disowned_kept hs k).1, fun j hj on => ?_⟩
  rw [State.disowned, State.stripped, State.leaveDue, State.modStation_align, removed]
  exact List.mem_filter.2 ⟨on, decide_eq_true hj⟩

theorem settleStation (k : Nat) : State.Solo k s (s.settleStation k) := by
  refine ⟨State.confined_settleStation hs k, (sound.quiet_settleStation k).sound, (s.settleStation_blocks k).1, fun j hj on => ?_⟩
  unfold State.settleStation
  split
  · rw [State.freeStation_align]
    exact List.mem_filter.2 ⟨on, decide_eq_true hj⟩
  · exact on

theorem dismiss (l : LaneId) (k : Nat) (cause : Cause) : State.Solo k s (s.dismiss l k cause) := by
  have told := raise hs sound k (.alignFailed k l cause)
  have disowned := told.trans (disowned told.canonical told.sound k)
  have settled := disowned.trans (settleStation disowned.canonical disowned.sound k)
  rw [State.dismiss, State.release_eq]
  exact settled.trans (raise settled.canonical settled.sound k _)

/-! ### No-shows and marks (R9, R61, R72) -/

theorem clearMark (l : LaneId) (q : PlanSeq) (k : Nat) : State.Solo k s (s.clearMark l q k) := by
  unfold State.clearMark
  split
  · exact modStation hs sound k fun _ _ => rfl
  · exact refl hs sound k

theorem noShow (l : LaneId) (k : Nat) : State.Solo k s (s.noShow l k) := by
  have tried := fun n => modStation hs sound k (f := .tried n) fun _ => id
  have missed := fun n => modStation hs sound k (f := .missed n) fun _ => id
  cases paused : (s.station k).paused with
  | true =>
    rw [State.noShow_paused l paused]
    exact refl hs sound k
  | false =>
    by_cases kept : (s.station k).state.kept = true
    · by_cases state : (s.station k).state = .aligning ∨ (s.station k).state = .lapsed
      · rw [State.noShow_aligning l paused state]
        split
        · exact (tried _).trans (dismiss (tried _).canonical (tried _).sound l k .noShows)
        · exact (tried _).trans (setDueNow (tried _).canonical (tried _).sound k)
      · rw [State.noShow_established l paused (StationState.mem_established.2 ⟨kept, not_or.1 state⟩)]
        split
        · exact (missed _).trans (enterLapsed (missed _).canonical (missed _).sound k .misses)
        · exact missed _
    · rw [State.noShow_out l kept]
      exact refl hs sound k

theorem evictTurn (l : LaneId) (q : PlanSeq) (a : AlignTurn) : State.Solo a.tag s (State.evictTurn l q s a) := by
  unfold State.evictTurn
  split
  · exact refl hs sound a.tag
  · rw [State.clearMarkLink, s.checkStation_passes _ _ (sound.2 a.tag)]
    have cleared := clearMark hs sound l q a.tag
    exact cleared.trans (noShow cleared.canonical cleared.sound l a.tag)

end

end State.Solo

end Sys2Proof.Machine
end

section
/-! PROOFS. What an eviction leaves of a station whose turn is unresolved, of the references, and of the lane's claim (R9, R108). -/

namespace Sys2Proof.Machine

/-! ### The station of an unresolved turn -/

/-- From `e` to `f`, with `due` for its place on the due queue, a station's turn of a plan has been taken as a no-show. -/
def StationEntry.NoShown (aMax : Nat) (now : Time) (l : LaneId) (q : PlanSeq) (e f : StationEntry) (due : Prop) : Prop :=
  (e.outstanding = some (l, q) → f.outstanding = none) ∧
  (e.paused = true → f.state = e.state ∧ f.attempts = e.attempts ∧ f.misses = e.misses) ∧
  (e.paused = false → e.state ∈ [StationState.ready, .active, .held] →
    (e.misses + 1 < aMax → f.state = e.state ∧ f.misses = e.misses + 1 ∧ f.attempts = e.attempts) ∧
    (aMax ≤ e.misses + 1 → f.state = .lapsed ∧ f.attempts = 0 ∧ f.misses = 0 ∧ due)) ∧
  (e.paused = false → e.state = .aligning ∨ e.state = .lapsed →
    (e.attempts + 1 < aMax → f.state = e.state ∧ f.attempts = e.attempts + 1 ∧ f.due = now ∧ due) ∧
    (aMax ≤ e.attempts + 1 → f.state = .releasing ∨ f.state = .free))

/-- A no-show, for a station whose outstanding mark is another plan's. -/
theorem State.noShow_noShown {s : State} (hs : s.tablesCanonical) (l : LaneId) {q : PlanSeq} {k : Nat}
    (unmarked : (s.station k).outstanding ≠ some (l, q)) : StationEntry.NoShown s.align.settings.aMax s.now l q (s.station k)
      ((s.noShow l k).station k) (k ∈ (s.noShow l k).align.dueQueue) := by
  have tried := fun n => State.station_modStation_same hs k (.tried n)
  have missed := fun n => State.station_modStation_same hs k (.missed n)
  have canonical := fun f => State.modStation_canonical hs k f
  refine ⟨fun marked => absurd marked unmarked, fun paused => ?_, fun paused state => ?_, fun paused state => ?_⟩
  · rw [State.noShow_paused l paused]
    exact ⟨rfl, rfl, rfl⟩
  · rw [State.noShow_established l paused state]
    refine ⟨fun few => ?_, fun most => ?_⟩
    · rw [if_neg (Nat.not_le.2 few), missed]
      exact ⟨rfl, rfl, rfl⟩
    · obtain ⟨entry, due, -⟩ := State.enterLapsed_spec (canonical (.missed s.align.settings.aMax)) k .misses
      rw [if_pos most, entry]
      exact ⟨rfl, rfl, rfl, due⟩
  · rw [State.noShow_aligning l paused state]
    refine ⟨fun few => ?_, fun most => ?_⟩
    · have due := State.station_setDueNow (canonical (.tried ((s.station k).attempts + 1))) k
      rw [if_neg (Nat.not_le.2 few), due, tried]
      exact ⟨rfl, rfl, rfl, State.mem_setDueNow _ k⟩
    · rw [if_pos most]
      exact (State.dismiss_spec (canonical _) l k .noShows).1

/-- An unresolved turn is taken as a no-show, with the station's mark cleared before it (R9). -/
theorem State.evictTurn_noShown {s : State} (hs : s.tablesCanonical) (sound : s.stationsSound) (l : LaneId) (q : PlanSeq)
    (k : Nat) : StationEntry.NoShown s.align.settings.aMax s.now l q (s.station k) ((State.evictTurn l q s ⟨k, false⟩).station k)
      (k ∈ (State.evictTurn l q s ⟨k, false⟩).align.dueQueue) := by
  have turn : State.evictTurn l q s ⟨k, false⟩ = (s.clearMark l q k).noShow l k := by
    rw [State.evictTurn, if_neg (by simp), State.clearMarkLink, s.checkStation_passes _ _ (sound.2 k)]
  have cleared := State.Solo.clearMark hs sound l q k
  have keeps := s.keeps_clearMark l q k
  have entry : (s.clearMark l q k).station k = (s.station k).unmarked l q := by rw [s.station_clearMark hs, if_pos rfl]
  obtain ⟨state, attempts, misses, -, paused, -⟩ := StationEntry.unmarked_kept l q (s.station k)
  have unmarked : ((s.clearMark l q k).station k).outstanding ≠ some (l, q) := by
    rw [entry]
    by_cases marked : (s.station k).outstanding = some (l, q)
    · rw [StationEntry.unmarked_outstanding marked]
      simp
    · rwa [StationEntry.unmarked, if_neg marked]
  have shown := State.noShow_noShown cleared.canonical l unmarked
  rw [keeps.settings, keeps.now] at shown
  rw [turn]
  refine ⟨fun marked => ?_, ?_⟩
  · refine (State.Solo.noShow cleared.canonical cleared.sound l k).confined.unmarked ?_
    rw [entry, StationEntry.unmarked_outstanding marked]
  · have rest := shown.2
    rw [entry, state, attempts, misses, paused] at rest
    exact rest

/-! ### The walk over an entry's turns -/

/-- The turns of a walk leave the reference counts, and the stations that they do not name. -/
theorem State.foldl_evictTurn {s : State} (hs : s.tablesCanonical) (sound : s.stationsSound) (l : LaneId) (q : PlanSeq)
    (ts : List AlignTurn) : let r := ts.foldl (State.evictTurn l q) s
    r.tablesCanonical ∧ r.stationsSound ∧ r.refs = s.refs ∧ s.Keeps r ∧
      ∀ k, k ∉ ts.map (·.tag) → r.station k = s.station k ∧ (k ∈ s.align.dueQueue → k ∈ r.align.dueQueue) := by
  induction ts generalizing s with
  | nil => exact ⟨hs, sound, rfl, .refl s, fun _ _ => ⟨rfl, id⟩⟩
  | cons a rest ih =>
    have first := State.Solo.evictTurn hs sound l q a
    obtain ⟨canonical, sound', refs, keeps, others⟩ := ih first.canonical first.sound
    refine ⟨canonical, sound', refs.trans first.refs, (s.keeps_evictTurn l q a).trans keeps, fun k hk => ?_⟩
    obtain ⟨apart, later⟩ := not_or.1 fun h => hk (List.mem_cons.2 h)
    obtain ⟨same, due⟩ := others k later
    exact ⟨same.trans (first.confined.others k apart), due ∘ first.due k apart⟩

/-- Where no station has two turns in an entry, an unresolved one is taken as the one no-show of its station. -/
theorem State.foldl_evictTurn_noShown {s : State} (hs : s.tablesCanonical) (sound : s.stationsSound) (l : LaneId) (q : PlanSeq)
    {ts : List AlignTurn} (nodup : (ts.map (·.tag)).Nodup) {k : Nat} (hk : ⟨k, false⟩ ∈ ts) :
    StationEntry.NoShown s.align.settings.aMax s.now l q (s.station k) ((ts.foldl (State.evictTurn l q) s).station k)
      (k ∈ (ts.foldl (State.evictTurn l q) s).align.dueQueue) := by
  obtain ⟨before, after, rfl⟩ := List.append_of_mem hk
  rw [List.map_append, List.map_cons] at nodup
  obtain ⟨-, nodupAfter, apart⟩ := List.nodup_append.1 nodup
  have notBefore : k ∉ before.map (·.tag) := fun h => apart k h k List.mem_cons_self rfl
  have notAfter : k ∉ after.map (·.tag) := (List.nodup_cons.1 nodupAfter).1
  rw [List.foldl_append, List.foldl_cons]
  obtain ⟨canonical, sound', -, keeps, others⟩ := State.foldl_evictTurn hs sound l q before
  generalize before.foldl (State.evictTurn l q) s = c at canonical sound' keeps others
  have shown := State.evictTurn_noShown canonical sound' l q k
  have turn := State.Solo.evictTurn canonical sound' l q ⟨k, false⟩
  obtain ⟨-, -, -, -, others'⟩ := State.foldl_evictTurn turn.canonical turn.sound l q after
  obtain ⟨same, due⟩ := others' k notAfter
  rw [keeps.settings, keeps.now, (others k notBefore).1] at shown
  obtain ⟨mark, paused, established, aligning⟩ := shown
  rw [same]
  refine ⟨mark, paused, fun h st => ?_, fun h st => ?_⟩
  · obtain ⟨few, most⟩ := established h st
    exact ⟨few, fun n => ⟨(most n).1, (most n).2.1, (most n).2.2.1, due (most n).2.2.2⟩⟩
  · obtain ⟨few, most⟩ := aligning h st
    exact ⟨fun n => ⟨(few n).1, (few n).2.1, (few n).2.2.1, due (few n).2.2.2⟩, most⟩

/-! ### References of an evicted entry -/

/-- A station in use keeps its entry as references fall. -/
theorem State.lowerRefs_station {s : State} (h : s.Clean) (stations streams : List Nat) {k : Nat}
    (hk : (s.station k).state.kept = true) : (s.lowerRefs stations streams).station k = s.station k := by
  have walk : (stations.foldl State.lowerStation s).Clean ∧ (stations.foldl State.lowerStation s).station k = s.station k :=
    List.foldlRecOn (motive := fun t : State => t.Clean ∧ t.station k = s.station k) stations _ ⟨h, rfl⟩
      fun t ⟨clean, same⟩ j _ => by
        have wrote := (clean.gives_setStationRefs j).clean
        refine ⟨(clean.gives_lowerStation j).clean, ?_⟩
        obtain ⟨-, -, -, -, -, others⟩ := State.settleStation_kept wrote.canonical j
        by_cases own : k = j
        · subst own
          have stays : t.lowerStation k = t.setStationRefs k (t.stationRefs k - 1) := if_neg fun ⟨releasing, _⟩ => by
            have state : (t.station k).state = .releasing := releasing
            rw [← same, state] at hk
            cases hk
          rw [stays]
          exact same
        · exact (others k own).trans same
  rw [State.lowerRefs]
  exact (State.station_of_stations (State.foldl_lowerStream_blocks _ streams).1 k).trans walk.2

/-! ### A missing tally (R108) -/

/-- A missing tally writes the claim of its lane, and reports where it goes to OPEN. -/
theorem State.missingTally_spec (s : State) (l : LaneId) : let c := s.claim l
    let n := min (c.missing + 1) c.settings.K
    let opens := c.mode = .tracking ∧ c.settings.K ≤ n
    s.missingTally l = { s with
      claims := s.claims.set l (if opens then { c with mode := .opening, target := some c.settings.cOpen, missing := n }
        else { c with missing := n })
      port := if opens then (s.raise (.claimMode l .opening c.settings.cOpen .missing)).port else s.port } := by
  intro c n opens
  have claim : (s.setClaim l { c with missing := n }).claim l = { c with missing := n } := s.claim_setClaim_same l _
  unfold State.missingTally
  dsimp only
  by_cases h : opens
  · rw [if_pos h, if_pos h, if_pos h, State.enterOpen, State.raise_port, claim]
    simp only [State.setClaim, Vector.set_set]
    congr 1
    refine State.raise_congr ?_ ?_ _ <;> rfl
  · rw [if_neg h, if_neg h, if_neg h]
    rfl

end Sys2Proof.Machine
end

section
/-! PROOFS. The eviction of the oldest history entry, and the commit that brings it about (R8, R9, R145). -/

namespace Sys2Proof.Machine

/-- A missing tally counts, and takes a TRACKING claim whose count has reached K to OPEN, which CLAIM_MODE reports. -/
theorem State.missingTally_claim (s : State) (l : LaneId) : let c := s.claim l
    let n := min (c.missing + 1) c.settings.K
    (∀ m, m ≠ l → (s.missingTally l).claim m = s.claim m) ∧
    (c.mode = .opening ∨ n < c.settings.K → (s.missingTally l).claim l = { c with missing := n }) ∧
    (c.mode = .tracking → c.settings.K ≤ n →
      (s.missingTally l).claim l = { c with mode := .opening, target := some c.settings.cOpen, missing := n } ∧
      (s.port.reports.length < 64 → (s.missingTally l).port.reports =
        s.port.reports ++ [⟨s.now, .claimMode l .opening c.settings.cOpen .missing⟩])) := by
  intro c n
  have spec := s.missingTally_spec l
  refine ⟨fun m hm => ?_, fun stays => ?_, fun tracking reached => ?_⟩
  · rw [spec]
    exact s.claim_setClaim_other l m _ hm
  · have closed : ¬(c.mode = .tracking ∧ c.settings.K ≤ n) := fun ⟨tracking, reached⟩ =>
      stays.elim (by simp [tracking]) (Nat.not_lt.2 reached)
    rw [spec]
    refine (s.claim_setClaim_same l _).trans ?_
    rw [if_neg closed]
  · refine ⟨?_, fun room => ?_⟩
    · rw [spec]
      refine (s.claim_setClaim_same l _).trans ?_
      rw [if_pos ⟨tracking, reached⟩]
    · have raised := s.raise_room (.claimMode l .opening c.settings.cOpen .missing) room
      rw [spec]
      dsimp only
      rw [if_pos ⟨tracking, reached⟩, raised]

/-- The tables once the turns of an evicted entry have been resolved. -/
def State.evicted (s : State) (l : LaneId) (h : HistEntry) : State :=
  h.turns.foldl (State.evictTurn l h.seq) (s.lowerRefs h.stations h.streams)

/-- An eviction is the tables' part of it, with the missing tally behind it (R9). -/
theorem State.evict_eq (s : State) (l : LaneId) (h : HistEntry) :
    s.evict l h = if 0 < h.slots ∧ h.tallyArrived = false then (s.evicted l h).missingTally l else s.evicted l h := rfl

theorem State.evict_tables (s : State) (l : LaneId) (h : HistEntry) :
    s.evict l h = { s.evicted l h with claims := (s.evict l h).claims, port := (s.evict l h).port } := by
  rw [State.evict_eq]
  split
  · rw [State.missingTally_spec]
  · rfl

/-- The tables of an evicted entry: its references fall, and each unresolved turn is its station's no-show. -/
theorem State.Clean.evicted_spec {s : State} (clean : s.Clean) (l : LaneId) (h : HistEntry) :
    s.Keeps (s.evicted l h) ∧ (∀ k, (s.evicted l h).stationRefs k = s.stationRefs k - h.stations.count k) ∧
    (∀ i, (s.evicted l h).streamRefs i = s.streamRefs i - h.streams.count i) ∧
    ((h.turns.map (·.tag)).Nodup → ∀ k, ⟨k, false⟩ ∈ h.turns → (s.station k).state.kept = true →
      StationEntry.NoShown s.align.settings.aMax s.now l h.seq (s.station k) ((s.evicted l h).station k)
        (k ∈ (s.evicted l h).align.dueQueue)) ∧
    (h.turns = [] → (s.evicted l h).port = s.port) := by
  have lowered := clean.gives_lowerRefs h.stations h.streams
  have keeps := s.keeps_lowerRefs h.stations h.streams
  have port := (clean.stationsSound.quiet_lowerRefs h.stations h.streams).port
  obtain ⟨-, -, refs, keeps', -⟩ :=
    State.foldl_evictTurn lowered.clean.canonical lowered.clean.stationsSound l h.seq h.turns
  refine ⟨keeps.trans keeps', fun k => ?_, fun i => ?_, fun nodup k hk kept => ?_, fun none_ => ?_⟩
  · rw [State.evicted, State.stationRefs, refs]
    exact lowered.stationRefs k
  · rw [State.evicted, State.streamRefs, refs]
    exact lowered.streamRefs i
  · have shown := State.foldl_evictTurn_noShown lowered.clean.canonical lowered.clean.stationsSound l h.seq nodup hk
    rw [keeps.settings, keeps.now, State.lowerRefs_station clean _ _ kept] at shown
    exact shown
  · rw [State.evicted, none_]
    exact port

/-- A commit that evicts the oldest entry: `d` is the state that evicts it, with the plan taken up and its own entry at the tail of
the history; the commit ends with the tables as the eviction left them. -/
theorem State.Clean.commit_full {s : State} (h : s.Clean) {p : Plan} (nodup : (p.data.map (·.stream)).Nodup) (rest : List Plan)
    (M : Int) {u : LaneSetup} (setup : (s.lane p.record.lane).setup = some u) {first : HistEntry} {tail : List HistEntry}
    (history : (s.lane p.record.lane).history = first :: tail) (full : 4 ≤ (s.lane p.record.lane).history.length) :
    ∃ d : State, d.Clean ∧ (d.refs = s.refs ∧ d.claims = s.claims ∧ d.now = s.now ∧ d.port = s.port ∧ d.align = s.align) ∧
      (∀ k, d.station k = if k ∈ s.correctionsOf p.record then (s.station k).answered else s.station k) ∧
      let x := d.evicted p.record.lane first
      let r := (s.popped rest).commit p M
      r.link = { queue := rest, sending := some p.record } ∧ r.builder = s.builder ∧
      r.lane p.record.lane = Lane.sent p.record (decide (M < u.Wm)) { s.lane p.record.lane with
        history := tail ++ [p.entry], notices := (x.lane p.record.lane).notices } ∧
      r.stations = x.stations ∧ r.align = x.align ∧ r.refs = x.refs ∧ r.claims = (d.evict p.record.lane first).claims ∧
      ∃ told, r.port.reports = (d.evict p.record.lane first).port.reports ++ told := by
  obtain ⟨clean, ⟨link, refs, builder, claims, now, port, align⟩, lane, -, -, -, station⟩ := h.takenUp_blocks nodup rest
  let d := (s.takenUp p rest).modLane p.record.lane fun v => { v with history := tail ++ [p.entry] }
  have cleanD : d.Clean := clean.of_tables rfl rfl rfl
  obtain ⟨keeps, -⟩ := cleanD.evicted_spec p.record.lane first
  have tables := d.evict_tables p.record.lane first
  have lane' : (d.evict p.record.lane first).lane p.record.lane = { s.lane p.record.lane with
      history := tail ++ [p.entry], notices := ((d.evicted p.record.lane first).lane p.record.lane).notices } := by
    rw [tables]
    refine (keeps.lane _).trans ?_
    rw [State.lane_modLane_same, lane]
  have commit : (s.popped rest).commit p M = (d.evict p.record.lane first).sendPlan p M := by
    rw [State.commit_eq_sendPlan, State.pushHistory_full (tail := tail) _
      (by rw [lane]; exact history) (by rw [lane]; exact full)]
  have sent := State.sendPlan_eq (d.evict p.record.lane first) p M (u := u) (by
    rw [lane']
    exact setup)
  obtain ⟨told, -, reports⟩ := (d.evict p.record.lane first).tells_sendPlan p M
  refine ⟨d, cleanD, ⟨refs, claims, now, port, align⟩, station, ?_⟩
  rw [commit]
  generalize (d.evict p.record.lane first).sendPlan p M = r at sent reports
  refine ⟨?_, ?_, ?_, ?_, ?_, ?_, ?_, told, reports⟩
  · rw [sent, tables]
    exact congrArg (fun q : PlanLink => { q with sending := some p.record }) (keeps.link.trans link)
  · rw [sent, tables]
    exact keeps.builder.trans builder
  · rw [sent, ← lane']
    exact State.lane_modLane_same _ _ _
  iterate 3
    rw [sent, tables]
    rfl
  · rw [sent]
    rfl

end Sys2Proof.Machine
end

section
/-! PROOFS. Transmit start (R144 to R147). -/

open Sys2Proof Sys2Proof.Machine

/-- Settles O53: a commit with room in the history, a commit that evicts the oldest entry, and a drop that faults nothing. -/
theorem transmitStartCommitsOrDrops : Obligations.TransmitStartCommitsOrDrops := by
  intro s p rest l u M pin canonical ready link here live setup margin stations streams nodup entry counted
  subst here margin
  have run : exec .transmitStart s = .next s.startTransmit := s.unlessReset_free _ pin
  have clean : s.Clean := ⟨canonical, stations, streams⟩
  rw [State.startTransmit_eq ready link setup] at run
  refine ⟨fun fresh enough room => ?_, fun h tail fresh enough history full => ?_, fun late below => ?_⟩
  · rw [if_pos ⟨fresh, enough⟩] at run
    obtain ⟨link', lane, others, refs, builder, claims, streams', station, port⟩ :=
      clean.commit_room nodup rest (p.record.start - s.now).toInt setup room
    obtain ⟨⟨-, frame⟩, data, pendings, untouched⟩ :=
      State.Clean.commitStreams_spec (s := s.popped rest) (clean.of_tables rfl rfl rfl) nodup
    have stream := State.stream_of_streams streams'
    rw [State.settleDraining_of_live (by rw [lane]; exact live)] at run
    refine ⟨_, run, link', ?_, others, refs, builder, claims, ?_, ?_, ?_, ?_, fun n hn marked correction => ?_, ?_⟩
    · rw [lane, Plan.entry_eq]
      rfl
    · simp only [stream]
      exact data
    · simp only [stream]
      exact pendings
    · simp only [stream]
      exact untouched
    · rw [streams', frame.service]
      rfl
    · have corrects : n.body.tag ∈ s.correctionsOf p.record := by
        simp only [State.correctionsOf, List.mem_map, List.mem_filter, beq_iff_eq]
        exact ⟨n, ⟨⟨hn, marked⟩, correction⟩, rfl⟩
      rw [station, if_pos corrects]
      rfl
    · obtain ⟨silent, late, slipped⟩ := s.sentReports_reports p u (p.record.start - s.now).toInt
      rw [port]
      exact ⟨fun timely none_ => by rw [silent timely none_], late, slipped⟩
  · rw [if_pos ⟨fresh, enough⟩] at run
    obtain ⟨d, clean', ⟨refs, claims, now, port, align⟩, station, link', builder, lane, stations', align', refs', claims', told,
      reports⟩ := clean.commit_full nodup rest (p.record.start - s.now).toInt setup history full
    obtain ⟨keeps, stationRefs, streamRefs, shown, port'⟩ := clean'.evicted_spec p.record.lane h
    have claim : ∀ m, (d.evicted p.record.lane h).claim m = s.claim m := fun m => by
      rw [State.claim, keeps.claims, claims, State.claim]
    have claimR : ∀ m, ((s.popped rest).commit p (p.record.start - s.now).toInt).claim m = (d.evict p.record.lane h).claim m :=
      fun m => by rw [State.claim, claims', State.claim]
    obtain ⟨others, stays, opens⟩ := (d.evicted p.record.lane h).missingTally_claim p.record.lane
    simp only [claim] at others stays opens
    rw [State.settleDraining_of_live (by rw [lane]; exact live)] at run
    refine ⟨_, run, link', ?_, by rw [lane]; rfl, by rw [lane]; rfl, by rw [lane]; rfl, builder,
      fun m hm => ?_, fun once t => ?_, fun once i => ?_, fun once t ht kept => ?_, fun settled => ?_, fun some_ missing => ?_⟩
    · rw [lane]
      exact congrArg (fun e => tail ++ [e]) p.entry_eq
    · rw [claimR, State.evict_eq]
      split
      exacts [others m hm, claim m]
    · rw [← once.count, State.stationRefs, State.stationRefs, refs', ← refs]
      exact stationRefs t
    · rw [← once.count, State.streamRefs, State.streamRefs, refs', ← refs]
      exact streamRefs i
    · have seen := shown once t ht (by
        rw [station]
        split
        exacts [kept, kept])
      rw [align, now, station] at seen
      rw [align', State.station_of_stations stations']
      split at seen
      exacts [seen, seen]
    · rw [claimR, State.evict_eq, if_neg, claim]
      rintro ⟨some_, missing⟩
      exact settled.elim (by omega) (by simp [missing])
    · rw [claimR, State.evict_eq, if_pos ⟨some_, missing⟩]
      refine ⟨stays, fun tracking reached => ?_⟩
      obtain ⟨opened, report⟩ := opens tracking reached
      refine ⟨opened, fun none_ room => ?_⟩
      rw [port' none_, port, keeps.now, now] at report
      rw [reports, State.evict_eq, if_pos ⟨some_, missing⟩, report (lt_trans room (by decide))]
      simp
  · have drop : ¬(p.expired = false ∧ (u.Df : Int) ≤ (p.record.start - s.now).toInt) := by
      rintro ⟨fresh, enough⟩
      exact late.elim (by simp [fresh]) (Int.not_lt.2 enough)
    obtain ⟨builder, link', claims, -, -, lane, others, reports⟩ := clean.dropTold_blocks p rest
    have given := clean.gives_dropTold p rest
    have told : (s.popped rest).drop p (p.record.start - s.now).toInt = s.dropTold p rest := by
      refine (State.faultIfDue_eq (s := s.dropTold p rest) (u := u) (by rw [lane]; exact setup)).trans (if_neg ?_)
      rw [lane]
      exact fun due => Nat.not_le.2 below due.2
    rw [if_neg drop, told, State.settleDraining_of_live (by rw [lane]; exact live)] at run
    have slips : (s.lane p.record.lane).counters.slips ≤ 4294967295 → _ := fun small =>
      foldl_satAdd Config.counterMax p.cadence (s.lane p.record.lane).counters.slips (.inr small)
    refine ⟨_, run, link', by rw [lane], by rw [lane]; exact live, by rw [lane], by rw [lane], fun small => ?_, by rw [lane],
      by rw [lane], builder, claims, fun x hx inUse => ?_, fun i hi inUse => clean.dropTold_slips p rest hi inUse, ?_,
      fun none_ => ?_, fun once t => ?_, fun once i => ?_, reports⟩
    · rw [lane]
      exact slips small
    · exact ((given.planned rfl nodup hx inUse).1).symm
    · rw [lane]
      exact clean.dropTold_unmarked p rest
    · obtain ⟨notices, notices', marks⟩ := clean.dropTold_of_none p rest none_
      refine ⟨by rw [lane]; exact notices, fun m hm => by rw [others m hm, notices' m hm], fun t => ?_⟩
      rw [marks, StationEntry.unmarked, ← ite_and]
      exact if_congr (and_congr_left' mem_alignTags) rfl rfl
    · rw [given.stationRefs, ← once.count]
      rfl
    · rw [given.streamRefs, ← once.count]
      rfl
end
